-- ==== Sys2Proof/Word.lean ====
section
/-! DEFINITION. The word types of the BT4: a byte of a frame, list or telegram, and the 32-bit operating time. -/

namespace Sys2Proof

/-- One byte of a link frame, a valve-chain list or a tyre telegram (chapter 11). -/
abbrev Byte := BitVec 8

/-- The operating time: a 32-bit count of milliseconds that wraps (R175). -/
abbrev Time := BitVec 32

/-- A timer: `none` while stopped, `some r` while running with `r` milliseconds left ("Time and events", 00_scope). -/
abbrev Timer := Option Nat

end Sys2Proof
end

