-- ==== Sys2Proof/Syntax.lean ====
section
/-! DEFINITION. The commands of the BT4: one constructor of Instr per row of spec/opcode_table.json, with its operands. -/

namespace Sys2Proof

/-- The two link ports: A faces forward, B rearward (section 1.1). Codes A 0, B 1. -/
inductive Port where
  | A | B
  deriving DecidableEq, Repr

/-- A link frame: class 0..31, target and origin 0..7 from the identifier, and the data bytes (section 1.1). -/
structure Frame where
  cls    : BitVec 5
  target : BitVec 3
  origin : BitVec 3
  data   : List Byte
  deriving DecidableEq, Repr

/-- Which frame a link report speaks of (R3, R7): the frame now on offer, or one that was on offer when a flush
removed it. -/
inductive ReportOn where
  | onOffer | flushed
  deriving DecidableEq, Repr

/-- The order, which the manual leaves open, in which a frame under COPY is passed and handed to its consumer (R35). -/
inductive CopyOrder where
  | passFirst | handOffFirst
  deriving DecidableEq, Repr

/-- The five blocks that act on a session completion (R56). -/
inductive Block where
  | wheel | load | composer | stability | power
  deriving DecidableEq, Repr

/-- A management request as the management unit takes it (R161): the ingress port, the origin, the tag and the argument
bytes. The request code is the command's constructor. -/
structure Request where
  port   : Port
  origin : BitVec 3
  tag    : Byte
  args   : List Byte
  deriving DecidableEq, Repr

/-- The commands: the rows of the table of operations and events. An expiry names the timer where there are several.
Where the manual leaves the order of the blocks' work open, the command carries the order (log entries 3 and 4). -/
inductive Instr where
  /-- R1: a port's link delivers a frame. -/
  | frameReceived (p : Port) (f : Frame) (o : CopyOrder)
  /-- R2. -/
  | presenceTimerExpiry (p : Port)
  /-- R7. -/
  | linkReportTransmitted (p : Port) (r : ReportOn)
  /-- R7, R8. -/
  | linkReportNotSent (p : Port) (r : ReportOn)
  /-- R11. -/
  | discoveryTimerExpiry
  /-- R15. -/
  | warnTimerExpiry
  /-- R17. -/
  | statusTimerExpiry
  /-- R18. -/
  | tyreTimerExpiry
  /-- R44. The order is that of the blocks at the completion of a session that fails here. -/
  | periodTimerExpiry (order : List Block)
  /-- R46: the returned list's bytes, and the order of the blocks at the completion. -/
  | responseListReturn (bytes : List Byte) (order : List Block)
  /-- R70. -/
  | stationaryTimerExpiry
  /-- R100. -/
  | demandTimerExpiry
  /-- R131. -/
  | testWindowExpiry
  /-- R133. -/
  | spacingTimerExpiry
  /-- R137. -/
  | recoverTimerExpiry
  /-- R142: the delivered bytes. -/
  | telegramDelivered (bytes : List Byte)
  /-- R146. -/
  | telegramTaken
  /-- R152: the missing timer of a position 0..15. -/
  | missingTimerExpiry (pos : Nat)
  /-- R158. -/
  | learnTimerExpiry
  /-- R155. -/
  | lampBlinkToggle
  /-- R163. -/
  | identify (r : Request)
  /-- R163. -/
  | read (r : Request)
  /-- R164. -/
  | enterService (r : Request)
  /-- R164. -/
  | leaveService (r : Request)
  /-- R166. -/
  | stage (r : Request)
  /-- R168. -/
  | commit (r : Request)
  /-- R167. -/
  | discard (r : Request)
  /-- R167. -/
  | clearIncidents (r : Request)
  /-- R156. -/
  | learnTyre (r : Request)
  /-- R158. -/
  | cancelLearn (r : Request)
  /-- R113. -/
  | serviceTest (r : Request)
  /-- R171. -/
  | restart (r : Request)
  /-- R161: a request code that is none of the twelve. -/
  | unknownRequest (code : Byte) (r : Request)
  /-- R165. -/
  | serviceIdleTimerExpiry
  /-- R171. -/
  | restartDelayExpiry
  /-- R169, R170. -/
  | storeWriteSucceeded
  /-- R170. -/
  | storeWriteFailed
  /-- R183: the reading of the supply sense (0.1 V) and the state of the link-power sense. -/
  | coldStart (supply : Nat) (linkPower : Bool)
  /-- R178: the reading of the supply sense at the event (R177). -/
  | linkPowerOff (supply : Nat)
  /-- R182. -/
  | linkPowerOn
  /-- R182, R59. -/
  | settleTimerExpiry
  /-- R179. -/
  | parkTimerExpiry
  /-- R180. -/
  | wakeTimerExpiry
  /-- R180. -/
  | wakeLineAsserted
  /-- R181. -/
  | listenTimerExpiry
  /-- R177: the reading of the supply sense, used where the rule reads it. -/
  | batterySampleTimerExpiry (supply : Nat)
  /-- R115: the test timer of a channel 1..6. -/
  | serviceTestTimerExpiry (ch : Nat)
  deriving DecidableEq, Repr

end Sys2Proof
end

