-- ==== Sys2Proof/Machine/Bytes.lean ====
section
/-! DEFINITION. Byte order, sign and checksums of the layouts of chapter 11: every multi-byte field is most significant
byte first, signed fields are two's complement. -/

namespace Sys2Proof.Machine

/-- The `w` bytes of a number, most significant first (chapter 11). -/
def beBytes : Nat → Nat → List Byte
  | 0, _ => []
  | w + 1, n => BitVec.ofNat 8 (n / 256 ^ w) :: beBytes w n

/-- The number that bytes spell, most significant first. -/
def beNat (l : List Byte) : Nat := l.foldl (fun a b => a * 256 + b.toNat) 0

/-- The number spelled by the `w` bytes at offset `off`. -/
def beAt (l : List Byte) (off w : Nat) : Nat := beNat ((l.drop off).take w)

/-- The byte at an offset, 0 beyond the end. -/
def byteAt (l : List Byte) (off : Nat) : Byte := l.getD off 0#8

/-- The signed number that a 16-bit field holds (two's complement). -/
def signed16 (n : Nat) : Int := (BitVec.ofNat 16 n).toInt

/-- The 16-bit field that holds a signed number. -/
def code16 (z : Int) : Nat := (BitVec.ofInt 16 z).toNat

/-- The `w` bytes of an optional value: all ones when absent (section 11.2). -/
def optBytes (w : Nat) : Option Nat → List Byte
  | some n => beBytes w n
  | none => List.replicate w 0xFF#8

/-- A bit as a number. -/
def bit (b : Bool) : Nat := if b then 1 else 0

/-- A value clamped into a range. -/
def clampInt (lo hi z : Int) : Int := if z < lo then lo else if hi < z then hi else z

/-- A count that stays at its upper limit once it reaches it ("Arithmetic", 00_scope). -/
def satSucc (limit n : Nat) : Nat := if n < limit then n + 1 else n

/-- One bit of a CRC, most significant bit first: the shift and the conditional division by the polynomial. -/
def crcBit {w : Nat} (poly crc : BitVec w) : BitVec w :=
  if crc.msb then (crc <<< 1) ^^^ poly else crc <<< 1

/-- One byte of the CRC-16 with polynomial 0x1021 (R44). -/
def crc16Byte (crc : BitVec 16) (b : Byte) : BitVec 16 :=
  (List.range 8).foldl (fun c _ => crcBit 0x1021#16 c) (crc ^^^ (b.zeroExtend 16 <<< 8))

/-- The ring CRC: CRC-16, polynomial 0x1021, initial value 0xFFFF, no final inversion (R44, section 11.3). -/
def crc16 (l : List Byte) : BitVec 16 := l.foldl crc16Byte 0xFFFF#16

/-- One byte of the CRC-8 with polynomial 0x2F (R142). -/
def crc8Byte (crc : BitVec 8) (b : Byte) : BitVec 8 :=
  (List.range 8).foldl (fun c _ => crcBit 0x2F#8 c) (crc ^^^ b)

/-- The telegram CRC: CRC-8, polynomial 0x2F, initial value 0xFF, no final inversion (R142). -/
def crc8 (l : List Byte) : BitVec 8 := l.foldl crc8Byte 0xFF#8

/-- The identifier value of a frame, class × 64 + target × 8 + origin, which orders frames on a link (R8, section 1.1). -/
def identifier (f : Frame) : Nat := f.cls.toNat * 64 + f.target.toNat * 8 + f.origin.toNat

/-- The interval from an earlier operating time to a later one, modulo 2^32 (R175). -/
def interval (earlier later : Time) : Nat := (later - earlier).toNat

end Sys2Proof.Machine
end

