-- ==== Sys2Proof/Machine/Image.lean ====
section
/-! DEFINITION. The configuration image: its records, their stageable fields with widths and ranges, the factory default
image and the validation of R168. -/

namespace Sys2Proof.Machine

/-- Side codes of chapter 11: none 0, LEFT 1, RIGHT 2. -/
inductive Side where
  | none | left | right
  deriving DecidableEq, Repr

/-- Chain kinds of chapter 11: none 0, REF 1, MOD 2. -/
inductive ChainKind where
  | none | ref | mod
  deriving DecidableEq, Repr

/-- The configuration fields of a PORT record (sections 1.1 and 2.1): the miss disposition and the miss queue class by
their codes (PASS 0, DROP 3; SAFETY 0, GENERAL 1). -/
structure PortRec where
  timeout      : Nat
  defaultGroup : Nat
  missDisp     : Nat
  missQueue    : Nat
  deriving DecidableEq, Repr

/-- A range checker (R24): source code NONE 0, REFERENCE_SPEED 1, FRAME_WORD0 2, FRAME_WORD1 3, and inclusive limits. -/
structure RangeRec where
  source : Nat
  low    : Nat
  high   : Nat
  deriving DecidableEq, Repr

/-- The chain configuration (section 3.1): node count, the kinds of positions 1..4, the session period in ms. -/
structure ChainRec where
  count  : Nat
  kinds  : List ChainKind
  period : Nat
  deriving DecidableEq, Repr

/-- An axle group record (R80). -/
structure GroupRec where
  pE   : Nat
  pL   : Nat
  lE   : Nat
  lL   : Nat
  e    : Nat
  d0   : Nat
  lead : Nat
  pMax : Nat
  k    : Nat
  deriving DecidableEq, Repr

/-- The STABILITY record (section 7.1): `points` are the six pairs (L_i, a_i). -/
structure StabRec where
  enable  : Bool
  vMin    : Nat
  points  : List (Nat × Nat)
  dLow    : Nat
  dCrit   : Nat
  aFloor  : Nat
  w       : Nat
  rr      : Nat
  pTest   : Nat
  window  : Nat
  sLift   : Nat
  spacing : Nat
  dInt    : Nat
  recover : Nat
  deriving DecidableEq, Repr

/-- The TUNING record (R62, R81, sections 6.1, 8.2 and 10.1). -/
structure TuningRec where
  decel         : Nat
  absMin        : Nat
  sRel          : Nat
  aRel          : Int
  sHold         : Nat
  sReapply      : Nat
  reapplyStep   : Nat
  rLow          : Nat
  rCrit         : Nat
  demandTimeout : Nat
  emergency     : Nat
  pAtm          : Nat
  lowFrac       : Nat
  critFrac      : Nat
  leak          : Nat
  missing       : Nat
  parkWatch     : Bool
  parkDuration  : Nat
  settle        : Nat
  batteryLimit  : Nat
  deriving DecidableEq, Repr

/-- A sensor ID field: the present bit and the bytes it keeps (R145). -/
structure IdField where
  present : Bool
  id      : BitVec 32
  deriving DecidableEq, Repr

/-- The committed fields of a wheel position record (section 8.3): slot code OUTER 0, INNER 1. -/
structure TyreRec where
  configured : Bool
  group      : Nat
  side       : Side
  axle       : Nat
  slot       : Nat
  nominal    : Nat
  primary    : IdField
  alternate  : IdField
  deriving DecidableEq, Repr

/-- A configuration image (section 9.4). `slots` are the 20-byte records of slots 4..63, kept as bytes because an odd
slot's bytes are read under the layout that the even slot before it gives (R166). -/
structure Image where
  slots  : List (List Byte)
  portA  : PortRec
  portB  : PortRec
  ranges : List RangeRec
  chain  : ChainRec
  groups : List GroupRec
  stab   : StabRec
  tuning : TuningRec
  tyres  : List TyreRec
  deriving DecidableEq, Repr

/-! ### The factory default image -/

/-- The bytes of a NARROW, valid slot that compares pass 1 in any group, with origin band and range mask don't-care
(R27, R28): port, class and relation pairs, then disposition, consumer, rewrite, queue class, and no next group. The value
bytes beneath a mask of 0 are not stated, and are 0: DESIGN CHOICE, log entry 6. -/
def entryBytes (port portM cls clsM rel relM disp cons rew q : Nat) : List Byte :=
  [1, 0, 1, 0, 0, port, portM, cls, clsM, rel, relM, 0, 0, 0, 0, disp, cons, rew, q, 0xFF].map (BitVec.ofNat 8)

/-- The fixed entries of the protected slots 0..3 (R27). A value under a mask of 0 ("Any") is 0: DESIGN CHOICE, log entry
6. -/
def protectedSlots : List (List Byte) :=
  [ entryBytes 0 0 0x10 0x1F 1 7 1 3 0 1,
    entryBytes 0 1 0x06 0x1F 0 0 1 2 0 1,
    entryBytes 0 0 0x10 0x1F 2 6 0 0 0 1,
    entryBytes 0 0 0x11 0x1F 0 0 0 0 0 1 ]

/-- A NARROW slot with the valid flag clear and no next group (R28): its other fields are 0, DESIGN CHOICE, log entry 6. -/
def emptySlot : List Byte := List.replicate 19 0#8 ++ [0xFF#8]

/-- The factory axle group record (R80). -/
def defaultGroupRec : GroupRec :=
  { pE := 40, pL := 400, lE := 200, lL := 800, e := 128, d0 := 20, lead := 0, pMax := 800, k := 4 }

/-- The factory STABILITY record (section 7.1). -/
def defaultStab : StabRec :=
  { enable := true, vMin := 200,
    points := [(500, 450), (1000, 420), (2000, 360), (3000, 330), (4000, 310), (5000, 300)],
    dLow := 20, dCrit := 60, aFloor := 150, w := 205, rr := 154, pTest := 120, window := 400, sLift := 512,
    spacing := 1500, dInt := 350, recover := 800 }

/-- The factory TUNING record (R62, R81, sections 6.1, 8.2 and 10.1). -/
def defaultTuning : TuningRec :=
  { decel := 80, absMin := 70, sRel := 205, aRel := -400, sHold := 102, sReapply := 51, reapplyStep := 20,
    rLow := 256, rCrit := 192, demandTimeout := 100, emergency := 450, pAtm := 101, lowFrac := 230, critFrac := 205,
    leak := 20, missing := 20, parkWatch := true, parkDuration := 30, settle := 50, batteryLimit := 220 }

/-- A position that is not configured: its other fields are 0 or none, DESIGN CHOICE, log entry 6. -/
def emptyTyre : TyreRec :=
  { configured := false, group := 0, side := .none, axle := 0, slot := 0, nominal := 0,
    primary := ⟨false, 0⟩, alternate := ⟨false, 0⟩ }

/-- The factory default image (R28, R42, R80, R119, R172). Bytes that no rule states are 0 or none, the values of slots 4..7
under a mask of 0 among them: DESIGN CHOICE, log entry 6. -/
def factoryImage : Image :=
  { slots :=
      [ entryBytes 0 1 0x01 0x1F 0 0 2 1 0 0,
        entryBytes 1 1 0x03 0x1F 0 0 0 0 1 0,
        entryBytes 1 1 0x00 0x11 0 0 0 0 0 1,
        entryBytes 0 1 0x00 0x11 0 0 0 0 0 1 ] ++ List.replicate 56 emptySlot,
    portA := ⟨1000, 0, 0, 1⟩, portB := ⟨1000, 1, 0, 1⟩,
    ranges := List.replicate 4 ⟨0, 0, 0⟩,
    chain := ⟨0, List.replicate 4 .none, 10⟩,
    groups := List.replicate 3 defaultGroupRec,
    stab := defaultStab, tuning := defaultTuning,
    tyres := List.replicate 16 emptyTyre }

/-! ### Reading an image -/

/-- The record of a match-table slot 0..63 in an image: protected slots are the fixed entries in every image (R27). -/
def Image.slot (img : Image) (n : Nat) : List Byte :=
  if n < 4 then protectedSlots.getD n emptySlot else img.slots.getD (n - 4) emptySlot

/-- The width of a slot's record: WIDE when bit 1 of byte 0 is set (section 11.2). -/
def slotWide (b : List Byte) : Bool := (byteAt b 0).getLsbD 1

/-- The valid flag of a slot's record: bit 0 of byte 0. -/
def slotValid (b : List Byte) : Bool := (byteAt b 0).getLsbD 0

/-- An odd slot is the tail of a WIDE entry when the even slot before it is WIDE (R26). -/
def Image.isTail (img : Image) (n : Nat) : Bool := n % 2 = 1 && slotWide (img.slot (n - 1))

/-- The port record of a port. -/
def Image.port (img : Image) : Port → PortRec
  | .A => img.portA
  | .B => img.portB

/-- The axle group record of group 1..3. -/
def Image.group (img : Image) (g : Nat) : GroupRec := img.groups.getD (g - 1) defaultGroupRec

/-- The committed fields of position 0..15. -/
def Image.tyre (img : Image) (i : Nat) : TyreRec := img.tyres.getD i emptyTyre

/-- The kind of chain position n = 1..4. -/
def ChainRec.kind (c : ChainRec) (n : Nat) : ChainKind := if n = 0 then .none else c.kinds.getD (n - 1) .none

/-- The chain positions in use, 1..N in ascending order. -/
def ChainRec.positions (c : ChainRec) : List Nat := (List.range c.count).map (· + 1)

/-- The positions of the MOD units in ascending order: the k-th serves axle group k (R42). -/
def ChainRec.mods (c : ChainRec) : List Nat := c.positions.filter (fun n => c.kind n = .mod)

/-- The position of the REF, if the chain has one. -/
def ChainRec.ref (c : ChainRec) : Option Nat := c.positions.find? (fun n => c.kind n = .ref)

/-- The number of axle groups the chain serves (R42). -/
def ChainRec.groups (c : ChainRec) : Nat := min 3 c.mods.length

/-- A chain is unconfigured when its node count is 0 (R42). -/
def ChainRec.configured (c : ChainRec) : Bool := c.count ≠ 0

/-- Two chains agree in node count and in the kind of every position (R43). -/
def ChainRec.sameNodes (a b : ChainRec) : Bool :=
  a.count = b.count && a.positions.all (fun n => a.kind n = b.kind n)

/-- A position is assigned when it is configured and holds an ID (R145). -/
def TyreRec.assigned (t : TyreRec) : Bool := t.configured && (t.primary.present || t.alternate.present)

/-- An ID field holds an ID exactly while its present bit is 1 (R145). -/
def IdField.holds (f : IdField) (x : BitVec 32) : Bool := f.present && f.id = x

/-- Some ID field of the sixteen records holds the ID, configured or not (R157, R170). -/
def Image.holdsId (img : Image) (x : BitVec 32) : Bool :=
  img.tyres.any (fun t => t.primary.holds x || t.alternate.holds x)

/-! ### Fields, widths and ranges -/

/-- A stageable field: its width in bytes, the values it may hold, whether STAGE may begin at it. -/
structure Field where
  width  : Nat
  openTo : Bool
  ok     : Nat → Bool

/-- A field of a record type, with how the record holds it. -/
structure FieldOf (α : Type) where
  width : Nat
  ok    : Nat → Bool
  get   : α → Nat

/-- The bytes of a record, field by field (section 11.2). -/
def recBytes {α : Type} (t : List (FieldOf α)) (r : α) : List Byte := t.flatMap (fun f => beBytes f.width (f.get r))

/-- Every field of a record lies in its range. -/
def recOk {α : Type} (t : List (FieldOf α)) (r : α) : Bool := t.all (fun f => f.ok (f.get r))

/-- The layout of a record type. -/
def recLayout {α : Type} (t : List (FieldOf α)) : List Field := t.map (fun f => ⟨f.width, true, f.ok⟩)

/-- lo ≤ n ≤ hi. -/
def within (lo hi n : Nat) : Bool := lo ≤ n && n ≤ hi

/-- n is one of the codes. -/
def oneOf (l : List Nat) (n : Nat) : Bool := l.contains n

/-- The codes of a side. -/
def Side.code : Side → Nat
  | .none => 0
  | .left => 1
  | .right => 2

/-- The side of a code. -/
def Side.ofCode (n : Nat) : Side := if n = 1 then .left else if n = 2 then .right else .none

/-- The codes of a chain kind. -/
def ChainKind.code : ChainKind → Nat
  | .none => 0
  | .ref => 1
  | .mod => 2

/-- The chain kind of a code. -/
def ChainKind.ofCode (n : Nat) : ChainKind := if n = 1 then .ref else if n = 2 then .mod else .none

/-- PORT configuration fields (sections 1.1, 2.4, 11.2). -/
def portFields : List (FieldOf PortRec) :=
  [⟨2, within 200 5000, (·.timeout)⟩, ⟨1, within 0 15, (·.defaultGroup)⟩, ⟨1, oneOf [0, 3], (·.missDisp)⟩,
   ⟨1, oneOf [0, 1], (·.missQueue)⟩]

/-- RANGE fields (R24). -/
def rangeFields : List (FieldOf RangeRec) :=
  [⟨1, within 0 3, (·.source)⟩, ⟨2, within 0 65535, (·.low)⟩, ⟨2, within 0 65535, (·.high)⟩]

/-- CHAIN 0 configuration fields (section 3.1): STAGE accepts node counts 2..4 and the kinds' codes. -/
def chainFields : List (FieldOf ChainRec) :=
  [⟨1, within 2 4, (·.count)⟩, ⟨1, within 0 2, fun c => (c.kind 1).code⟩, ⟨1, within 0 2, fun c => (c.kind 2).code⟩,
   ⟨1, within 0 2, fun c => (c.kind 3).code⟩, ⟨1, within 0 2, fun c => (c.kind 4).code⟩,
   ⟨1, oneOf [5, 10, 20], (·.period)⟩]

/-- GROUP record fields (R80). -/
def groupFields : List (FieldOf GroupRec) :=
  [⟨2, within 0 950, (·.pE)⟩, ⟨2, within 1 1000, (·.pL)⟩, ⟨2, within 0 65535, (·.lE)⟩, ⟨2, within 0 65535, (·.lL)⟩,
   ⟨2, within 26 256, (·.e)⟩, ⟨1, within 0 100, (·.d0)⟩, ⟨1, within 0 50, (·.lead)⟩, ⟨2, within 100 1000, (·.pMax)⟩,
   ⟨1, within 0 6, (·.k)⟩]

/-- Threshold point i = 0..5 of a STABILITY record. -/
def StabRec.point (r : StabRec) (i : Nat) : Nat × Nat := r.points.getD i (0, 0)

/-- STABILITY parameter fields (section 7.1). -/
def stabFields : List (FieldOf StabRec) :=
  [⟨1, within 0 1, fun r => bit r.enable⟩, ⟨2, within 100 800, (·.vMin)⟩] ++
  ((List.range 6).flatMap fun i =>
    [⟨2, within 0 65535, fun r => (r.point i).1⟩, ⟨2, within 50 1000, fun r => (r.point i).2⟩]) ++
  [⟨1, within 0 150, (·.dLow)⟩, ⟨2, within 0 300, (·.dCrit)⟩, ⟨2, within 50 500, (·.aFloor)⟩,
   ⟨2, within 128 256, (·.w)⟩, ⟨2, within 64 256, (·.rr)⟩, ⟨1, within 50 200, (·.pTest)⟩,
   ⟨2, within 100 1000, (·.window)⟩, ⟨2, within 256 1024, (·.sLift)⟩, ⟨2, within 500 5000, (·.spacing)⟩,
   ⟨2, within 100 1000, (·.dInt)⟩, ⟨2, within 200 5000, (·.recover)⟩]

/-- The signed field a_rel lies in −1000..−50 (R62). -/
def aRelOk (n : Nat) : Bool := decide (-1000 ≤ signed16 n) && decide (signed16 n ≤ -50)

/-- TUNING fields (R62, R81, sections 6.1, 8.2, 10.1). -/
def tuningFields : List (FieldOf TuningRec) :=
  [⟨2, within 20 200, (·.decel)⟩, ⟨2, within 30 200, (·.absMin)⟩, ⟨2, within 52 512, (·.sRel)⟩,
   ⟨2, aRelOk, fun r => code16 r.aRel⟩, ⟨2, within 26 512, (·.sHold)⟩, ⟨2, within 10 512, (·.sReapply)⟩,
   ⟨1, within 5 100, (·.reapplyStep)⟩, ⟨2, within 128 256, (·.rLow)⟩, ⟨2, within 128 256, (·.rCrit)⟩,
   ⟨2, within 50 1000, (·.demandTimeout)⟩, ⟨2, within 300 600, (·.emergency)⟩, ⟨1, within 80 110, (·.pAtm)⟩,
   ⟨1, within 154 250, (·.lowFrac)⟩, ⟨1, within 128 250, (·.critFrac)⟩, ⟨1, within 5 100, (·.leak)⟩,
   ⟨1, within 5 120, (·.missing)⟩, ⟨1, within 0 1, fun r => bit r.parkWatch⟩, ⟨1, within 0 240, (·.parkDuration)⟩,
   ⟨1, oneOf [20, 50, 100, 200], (·.settle)⟩, ⟨2, within 100 300, (·.batteryLimit)⟩]

/-- TYRE_POSITION committed fields (section 8.3). -/
def tyreFields : List (FieldOf TyreRec) :=
  [⟨1, within 0 1, fun r => bit r.configured⟩, ⟨1, within 1 3, (·.group)⟩, ⟨1, within 1 2, fun r => r.side.code⟩,
   ⟨1, within 1 4, (·.axle)⟩, ⟨1, within 0 1, (·.slot)⟩, ⟨2, within 200 1000, (·.nominal)⟩,
   ⟨1, within 0 3, fun r => bit r.primary.present + 2 * bit r.alternate.present⟩,
   ⟨4, fun _ => true, fun r => r.primary.id.toNat⟩, ⟨4, fun _ => true, fun r => r.alternate.id.toNat⟩]

/-- The layout of a CLASS_ENTRY head or NARROW record (section 11.2). -/
def headLayout : List Field :=
  let f (hi : Nat) : Field := ⟨1, true, within 0 hi⟩
  [f 3, f 1, f 1, f 15, f 15, f 1, f 1, f 31, f 31, f 7, f 7, f 127, f 127, f 15, f 15,
   ⟨1, true, oneOf [0, 1, 2, 3, 15]⟩, ⟨1, true, oneOf [0, 1, 2, 3, 15]⟩, ⟨1, true, oneOf [0, 1, 15]⟩,
   ⟨1, true, oneOf [0, 1, 15]⟩, ⟨1, true, fun n => n ≤ 15 || n = 255⟩]

/-- The layout of the tail of a WIDE entry (section 11.2): byte 0 is no field of it. -/
def tailLayout : List Field :=
  [⟨1, false, fun _ => true⟩, ⟨1, true, within 0 15⟩, ⟨1, true, within 0 15⟩, ⟨2, true, fun _ => true⟩,
   ⟨2, true, fun _ => true⟩]

/-- The layout an image gives a slot (R166). -/
def slotLayout (img : Image) (n : Nat) : List Field := if img.isTail n then tailLayout else headLayout

/-- The number of bytes of a layout. -/
def layoutLength (l : List Field) : Nat := (l.map (·.width)).sum

/-! ### Records from bytes -/

/-- A PORT record from its bytes. -/
def portOfBytes (b : List Byte) : PortRec := ⟨beAt b 0 2, beAt b 2 1, beAt b 3 1, beAt b 4 1⟩

/-- A RANGE record from its bytes. -/
def rangeOfBytes (b : List Byte) : RangeRec := ⟨beAt b 0 1, beAt b 1 2, beAt b 3 2⟩

/-- The chain configuration from its bytes. -/
def chainOfBytes (b : List Byte) : ChainRec :=
  ⟨beAt b 0 1, (List.range 4).map (fun i => ChainKind.ofCode (beAt b (i + 1) 1)), beAt b 5 1⟩

/-- A GROUP record from its bytes. -/
def groupOfBytes (b : List Byte) : GroupRec :=
  ⟨beAt b 0 2, beAt b 2 2, beAt b 4 2, beAt b 6 2, beAt b 8 2, beAt b 10 1, beAt b 11 1, beAt b 12 2, beAt b 14 1⟩

/-- The STABILITY record from its bytes. -/
def stabOfBytes (b : List Byte) : StabRec :=
  { enable := beAt b 0 1 = 1, vMin := beAt b 1 2,
    points := (List.range 6).map (fun i => (beAt b (3 + 4 * i) 2, beAt b (5 + 4 * i) 2)),
    dLow := beAt b 27 1, dCrit := beAt b 28 2, aFloor := beAt b 30 2, w := beAt b 32 2, rr := beAt b 34 2,
    pTest := beAt b 36 1, window := beAt b 37 2, sLift := beAt b 39 2, spacing := beAt b 41 2, dInt := beAt b 43 2,
    recover := beAt b 45 2 }

/-- The TUNING record from its bytes. -/
def tuningOfBytes (b : List Byte) : TuningRec :=
  { decel := beAt b 0 2, absMin := beAt b 2 2, sRel := beAt b 4 2, aRel := signed16 (beAt b 6 2), sHold := beAt b 8 2,
    sReapply := beAt b 10 2, reapplyStep := beAt b 12 1, rLow := beAt b 13 2, rCrit := beAt b 15 2,
    demandTimeout := beAt b 17 2, emergency := beAt b 19 2, pAtm := beAt b 21 1, lowFrac := beAt b 22 1,
    critFrac := beAt b 23 1, leak := beAt b 24 1, missing := beAt b 25 1, parkWatch := beAt b 26 1 = 1,
    parkDuration := beAt b 27 1, settle := beAt b 28 1, batteryLimit := beAt b 29 2 }

/-- A TYRE_POSITION record's committed fields from their bytes. -/
def tyreOfBytes (b : List Byte) : TyreRec :=
  { configured := beAt b 0 1 = 1, group := beAt b 1 1, side := Side.ofCode (beAt b 2 1), axle := beAt b 3 1,
    slot := beAt b 4 1, nominal := beAt b 5 2,
    primary := ⟨(byteAt b 7).getLsbD 0, BitVec.ofNat 32 (beAt b 8 4)⟩,
    alternate := ⟨(byteAt b 7).getLsbD 1, BitVec.ofNat 32 (beAt b 12 4)⟩ }

/-! ### The record kinds -/

/-- The kinds of R185, CLASS_ENTRY 1 to HITS 11. -/
inductive RecKind where
  | classEntry | port | range | chain | group | channel | stability | tuning | tyrePosition | incident | hits
  deriving DecidableEq, Repr

/-- The kind of a code: 0 and 12..15 are none (R185). -/
def RecKind.ofCode (n : Nat) : Option RecKind :=
  if n = 0 then none
  else [RecKind.classEntry, .port, .range, .chain, .group, .channel, .stability, .tuning, .tyrePosition, .incident,
    .hits][n - 1]?

/-- The code of a kind. -/
def RecKind.code : RecKind → Nat
  | .classEntry => 1
  | .port => 2
  | .range => 3
  | .chain => 4
  | .group => 5
  | .channel => 6
  | .stability => 7
  | .tuning => 8
  | .tyrePosition => 9
  | .incident => 10
  | .hits => 11

/-- A kind and index READ may address (table of R163); the number of incident records is asked apart. -/
def readable (k : RecKind) (i : Nat) : Bool :=
  match k with
  | .classEntry => i ≤ 63
  | .port => i ≤ 1
  | .range => within 1 4 i
  | .chain => i ≤ 4
  | .group => within 1 3 i
  | .channel => i ≤ 6
  | .stability => i = 0
  | .tuning => i = 0
  | .tyrePosition => i ≤ 16
  | .incident => i ≤ 16
  | .hits => i ≤ 63

/-- A kind and index STAGE may address (table of R163, R166). -/
def stageable (k : RecKind) (i : Nat) : Bool :=
  match k with
  | .classEntry => within 4 63 i
  | .port => i ≤ 1
  | .range => within 1 4 i
  | .chain => i = 0
  | .group => within 1 3 i
  | .stability => i = 0
  | .tuning => i = 0
  | .tyrePosition => i ≤ 15
  | .channel => false
  | .incident => false
  | .hits => false

/-- A kind with configuration fields, for which the view of a READ counts (R163). -/
def RecKind.hasConfig : RecKind → Bool
  | .channel => false
  | .incident => false
  | .hits => false
  | _ => true

/-- The layout of a record's configuration fields in an image (section 11.2). -/
def configLayout (img : Image) (k : RecKind) (i : Nat) : List Field :=
  match k with
  | .classEntry => slotLayout img i
  | .port => recLayout portFields
  | .range => recLayout rangeFields
  | .chain => if i = 0 then recLayout chainFields else []
  | .group => recLayout groupFields
  | .stability => recLayout stabFields
  | .tuning => recLayout tuningFields
  | .tyrePosition => if i ≤ 15 then recLayout tyreFields else []
  | .channel => []
  | .incident => []
  | .hits => []

/-- The bytes of a record's configuration fields in an image (section 11.2). -/
def configBytes (img : Image) (k : RecKind) (i : Nat) : List Byte :=
  match k with
  | .classEntry => (img.slot i).take (layoutLength (slotLayout img i))
  | .port => recBytes portFields (if i = 0 then img.portA else img.portB)
  | .range => recBytes rangeFields (img.ranges.getD (i - 1) ⟨0, 0, 0⟩)
  | .chain => if i = 0 then recBytes chainFields img.chain else []
  | .group => recBytes groupFields (img.group i)
  | .stability => recBytes stabFields img.stab
  | .tuning => recBytes tuningFields img.tuning
  | .tyrePosition => if i ≤ 15 then recBytes tyreFields (img.tyre i) else []
  | .channel => []
  | .incident => []
  | .hits => []

/-- An image with the configuration bytes of one record replaced. -/
def setConfigBytes (img : Image) (k : RecKind) (i : Nat) (b : List Byte) : Image :=
  match k with
  | .classEntry => { img with slots := img.slots.modify (i - 4) (fun old => b ++ old.drop b.length) }
  | .port => if i = 0 then { img with portA := portOfBytes b } else { img with portB := portOfBytes b }
  | .range => { img with ranges := img.ranges.set (i - 1) (rangeOfBytes b) }
  | .chain => { img with chain := chainOfBytes b }
  | .group => { img with groups := img.groups.set (i - 1) (groupOfBytes b) }
  | .stability => { img with stab := stabOfBytes b }
  | .tuning => { img with tuning := tuningOfBytes b }
  | .tyrePosition => { img with tyres := img.tyres.set i (tyreOfBytes b) }
  | .channel => img
  | .incident => img
  | .hits => img

/-- Bytes with some of them replaced from an offset on. -/
def splice (b : List Byte) (off : Nat) (d : List Byte) : List Byte := b.take off ++ d ++ b.drop (off + d.length)

/-- The fields of a layout that a write of `len` bytes from offset `skip` covers: none when the offset does not begin a
field or the bytes do not end at the end of a field (R166). -/
def fieldsWritten : List Field → Nat → Nat → Option (List Field)
  | _, 0, 0 => some []
  | [], _, _ => none
  | f :: fs, 0, len + 1 =>
    if f.openTo && f.width ≤ len + 1 then (fieldsWritten fs 0 (len + 1 - f.width)).map (f :: ·) else none
  | f :: fs, skip + 1, len => if f.width ≤ skip + 1 then fieldsWritten fs (skip + 1 - f.width) len else none

/-- Every field written takes a value in its range (R166). -/
def valuesOk : List Field → List Byte → Bool
  | [], _ => true
  | f :: fs, d => f.ok (beNat (d.take f.width)) && valuesOk fs (d.drop f.width)

/-! ### Validation -/

/-- Every field of a layout holds a value it defines. -/
def layoutOk (l : List Field) (b : List Byte) : Bool := valuesOk l b

/-- The CLASS_ENTRY checks of R168 on slot 4..63: no WIDE on an odd slot, no undefined code, both under the layout the
even slot's width gives (R166). -/
def slotOk (img : Image) (n : Nat) : Bool :=
  layoutOk (slotLayout img n) (img.slot n) && (img.isTail n || n % 2 = 0 || !slotWide (img.slot n))

/-- The CHAIN checks of R168: node count 2..4, exactly one REF and MOD units elsewhere (R42), a period of 5, 10 or 20. -/
def chainOk (c : ChainRec) : Bool :=
  within 2 4 c.count && oneOf [5, 10, 20] c.period &&
    (c.positions.filter (fun n => c.kind n = .ref)).length = 1 && c.mods.length + 1 = c.count

/-- The GROUP checks of R168. -/
def groupOk (g : GroupRec) : Bool := recOk groupFields g && g.pE < g.pL && g.lE ≤ g.lL

/-- Strictly increasing. -/
def increasing : List Nat → Bool
  | a :: b :: l => a < b && increasing (b :: l)
  | _ => true

/-- The STABILITY checks of R119 and R168. -/
def stabOk (r : StabRec) : Bool :=
  recOk stabFields r && r.points.length = 6 && increasing (r.points.map (·.1)) && r.points.all (fun p => r.aFloor ≤ p.2)

/-- The number of ID fields of the sixteen records that hold an ID. -/
def Image.idCount (img : Image) (x : BitVec 32) : Nat :=
  (img.tyres.map (fun t => bit (t.primary.holds x) + bit (t.alternate.holds x))).sum

/-- An ID field's ID, if it holds one, is held in no other field. -/
def idAlone (img : Image) (f : IdField) : Bool := !f.present || img.idCount f.id ≤ 1

/-- The TYRE_POSITION checks of R145 and R168 on position i. -/
def tyreOk (img : Image) (i : Nat) : Bool :=
  let t := img.tyre i
  (!t.configured || (within 1 img.chain.groups t.group && within 200 1000 t.nominal)) &&
    idAlone img t.primary && idAlone img t.alternate

/-- The records of an image in the order of validation: kind by kind, index by index (R168). -/
def validationOrder : List (RecKind × Nat) :=
  (List.range 60).map (fun i => (RecKind.classEntry, i + 4)) ++ [(.port, 0), (.port, 1)] ++
  (List.range 4).map (fun i => (RecKind.range, i + 1)) ++ [(.chain, 0)] ++
  (List.range 3).map (fun i => (RecKind.group, i + 1)) ++ [(.stability, 0), (.tuning, 0)] ++
  (List.range 16).map (fun i => (RecKind.tyrePosition, i))

/-- The checks of R168 on one record. -/
def recordOk (img : Image) (k : RecKind) (i : Nat) : Bool :=
  match k with
  | .classEntry => slotOk img i
  | .port => recOk portFields (if i = 0 then img.portA else img.portB)
  | .range => recOk rangeFields (img.ranges.getD (i - 1) ⟨0, 0, 0⟩)
  | .chain => chainOk img.chain
  | .group => groupOk (img.group i)
  | .stability => stabOk img.stab
  | .tuning => recOk tuningFields img.tuning
  | .tyrePosition => tyreOk img i
  | .channel => true
  | .incident => true
  | .hits => true

/-- The first record that fails validation, if any (R168). -/
def firstFailure (img : Image) : Option (RecKind × Nat) := validationOrder.find? (fun p => !recordOk img p.1 p.2)

/-- An image is valid when every record passes (R168). -/
def Image.valid (img : Image) : Bool := (firstFailure img).isNone

end Sys2Proof.Machine
end

