-- ==== Sys2Proof/Machine/State.lean ====
section
/-! DEFINITION. Everything the manual gives the BT4 to hold, as plain data, with its faults, its refusals and its value
after reset. A field's docstring names the rule or table that gives it. -/

namespace Sys2Proof.Machine

/-- The BT4 has no fault that stops it: every rule gives each event an outcome in every state, so no constructor. -/
inductive Fault where
  deriving DecidableEq, Repr

/-- Why a command has no meaning. -/
inductive Refusal where
  /-- Raised by `exec` alone, for a command the model gives no meaning (none is left). Safe: the run stops. -/
  | notModelled (mnemonic : String)
  deriving DecidableEq, Repr

/-! ### Links and relay -/

/-- The two egress queues of a port (section 1.1). -/
inductive QueueClass where
  | safety | general
  deriving DecidableEq, Repr

/-- A queued frame. `restart` marks the response to a RESTART, whose fate begins the restart (R171). -/
structure Queued where
  frame   : Frame
  restart : Bool
  deriving DecidableEq, Repr

/-- A link port (section 1.1, R1 to R8). -/
structure PortState where
  present       : Bool               -- partner present
  presence      : Timer              -- presence timer
  lastReception : Option Time        -- last-reception time
  safety        : List Queued        -- SAFETY queue, head first
  general       : List Queued        -- GENERAL queue, head first
  discards      : Nat                -- discard count, 0..65535
  offer         : Option QueueClass  -- the queue whose head is on offer to the link (R4, R7)
  deriving DecidableEq, Repr

/-- The combination relay (R9 to R18). -/
structure Relay where
  own         : Option Nat   -- own position 1..6, or unplaced
  discovery   : Timer        -- discovery timer
  warn        : Timer        -- warn timer
  status      : Timer        -- status timer
  tyre        : Timer        -- tyre timer
  warnHeard   : Option Time  -- WARN-heard time
  reportIndex : Nat          -- tyre report index, 0..15
  deriving DecidableEq, Repr

/-! ### Valve chain -/

/-- Chain states (R53). -/
inductive ChainHealth where
  | starting | running | faulted
  deriving DecidableEq, Repr

/-- Reasons of a failed session (section 3.2). -/
inductive FailReason where
  | none | noResponse | count | kind | crc
  deriving DecidableEq, Repr

/-- A measurement record's fields by node kind (R55). -/
inductive Measures where
  | ref (supply control : Nat) (ay : Int) (battery : Nat)
  | mod (leftP leftV rightP rightV bag : Nat)
  deriving DecidableEq, Repr

/-- A measurement record with its freshness time (R55). -/
structure Record where
  values : Measures
  time   : Time
  deriving DecidableEq, Repr

/-- A node of the chain (section 3.2, R48 to R51, R55). -/
structure Node where
  degraded : Bool           -- node state DEGRADED
  stale    : Nat            -- stale count, 0..255
  solenoid : Bool           -- fault flags of the latest response
  sensor   : Bool
  record   : Option Record  -- measurement record
  deriving DecidableEq, Repr

/-- Command modes (section 6.1). Codes PASS_THROUGH 0, CONTROL 1. -/
inductive CommandMode where
  | passThrough | control
  deriving DecidableEq, Repr

/-- A requested command or command record (R57). -/
structure Command where
  mode     : CommandMode
  pressure : Nat
  deriving DecidableEq, Repr

/-- The valve chain controller (section 3.2). -/
structure Chain where
  bound       : Option ChainRec  -- configuration bound to the most recent session start (R42, R43)
  health      : ChainHealth      -- chain state
  period      : Timer            -- period timer
  session     : Nat              -- session number, 0..15
  outstanding : Option Nat       -- outstanding session
  failCount   : Nat              -- consecutive failure count, 0..255
  goodCount   : Nat              -- consecutive good count, 0..255
  goodTotal   : Nat              -- good session total, 0..65535
  failTotal   : Nat              -- failed session total, 0..65535
  lastFailure : FailReason       -- last failure reason
  nodes       : List Node        -- positions 1..4
  sent        : List Byte        -- the command list last sent on the chain output (R44)
  deriving DecidableEq, Repr

/-! ### Wheels, load, braking -/

/-- Slip-control states (section 4.7). -/
inductive SlipState where
  | follow | release | hold | reapply
  deriving DecidableEq, Repr

/-- The wheel and slip unit's own items (section 4.1). -/
structure Wheel where
  reference       : Nat    -- reference speed, 0..2500
  stationary      : Bool   -- stationary flag
  stationaryTimer : Timer  -- stationary timer
  deriving DecidableEq, Repr

/-- One channel: its slip-control items (section 4.1), source requests, target, commands and service test (sections 3.2
and 6.1), and the load unit's values for it (section 5.2). -/
structure Channel where
  prevSpeed    : Option Nat   -- previous speed
  accel        : Int          -- wheel acceleration
  slip         : Nat          -- slip, 0..1024
  slipState    : SlipState    -- slip-control state
  holdP        : Option Nat   -- hold pressure
  level        : Option Nat   -- reapply level
  cycles       : Nat          -- cycle count, 0..255
  testHold     : Bool         -- test hold
  driver       : Option Nat   -- DRIVER request
  serviceTest  : Option Nat   -- SERVICE_TEST request: the pressure of the running service test
  stabTest     : Option Nat   -- STAB_TEST request
  stabInt      : Option Nat   -- STAB_INT request
  target       : Nat          -- composed target T
  requested    : Command      -- requested command
  command      : Command      -- command record
  carried      : CommandMode  -- mode last carried
  driverValue  : Nat          -- DRIVER value
  intervention : Nat          -- intervention value
  testTimer    : Timer        -- service test timer
  deriving DecidableEq, Repr

/-- One axle group of the load unit (section 5.2). -/
structure GroupState where
  pf     : Option Nat  -- filtered bag pressure P_f
  lam    : Nat         -- load ratio λ, 0..1024
  load   : Nat         -- group load L_g
  target : Nat         -- group target G
  deriving DecidableEq, Repr

/-- The load unit (section 5.2). -/
structure Load where
  groups : List GroupState  -- groups 1..3
  total  : Nat              -- total load, 0..65535
  deriving DecidableEq, Repr

/-- The demand record (section 6.1, R99). -/
structure Demand where
  value   : Nat          -- D_elec
  stop    : Bool
  park    : Bool
  seq     : BitVec 8
  towing  : Option Nat   -- towing speed
  ingress : Port
  time    : Time         -- acceptance time
  deriving DecidableEq, Repr

/-- Brake modes (R102). Codes ELECTRONIC 0, BACKUP 1, FALLBACK 2. -/
inductive BrakeMode where
  | electronic | backup | fallback
  deriving DecidableEq, Repr

/-- The brake composer (section 6.1). The demand is FRESH exactly while its timer runs (R102). -/
structure Composer where
  demand    : Option Demand  -- demand record
  timer     : Timer          -- demand timer
  gaps      : Nat            -- sequence gap count, 0..65535
  effective : Nat            -- effective demand D
  mode      : BrakeMode      -- brake mode
  emergency : Bool           -- emergency flag
  deriving DecidableEq, Repr

/-! ### Stability -/

/-- Stability states (section 7.3). Codes OFF 0 to RECOVER 5. -/
inductive StabState where
  | off | armed | watch | test | intervene | recover
  deriving DecidableEq, Repr

/-- Severities (R153). Codes NONE 0, LOW 1, CRITICAL 2. -/
inductive Severity where
  | none | low | critical
  deriving DecidableEq, Repr

/-- The stability unit (sections 7.2 and 7.3). `pendingTest` is none while no test is held pending. -/
structure Stability where
  state         : StabState
  inner         : Side       -- inner side
  pendingTest   : Side       -- side of the pending test
  testChannels  : List Nat   -- test channels
  window        : Timer      -- test window timer
  spacing       : Timer      -- spacing timer
  recover       : Timer      -- recover timer
  load          : Nat        -- load in use
  severity      : Severity   -- severity in use
  threshold     : Nat        -- threshold in use
  watchLevel    : Nat        -- watch level
  releaseLevel  : Nat        -- release level
  tests         : Nat        -- test count, 0..65535
  lifts         : Nat        -- lift count
  interventions : Nat        -- intervention count
  deriving DecidableEq, Repr

/-! ### Tyres -/

/-- Tyre states (section 8.3). Codes UNUSED 0 to MISSING 8. -/
inductive TyreState where
  | unused | unassigned | learning | awaiting | ok | low | critical | leak | missing
  deriving DecidableEq, Repr

/-- Pressure levels (R149). -/
inductive Level where
  | normal | low | critical
  deriving DecidableEq, Repr

/-- The two ID fields (R156). Codes PRIMARY 0, ALTERNATE 1. -/
inductive IdChoice where
  | primary | alternate
  deriving DecidableEq, Repr

/-- A good telegram with its arrival time (R142). -/
structure Telegram where
  id         : BitVec 32
  pressure   : Nat
  temp       : Int
  learn      : Bool
  alert      : Bool
  batteryLow : Bool
  seq        : BitVec 4
  arrival    : Time
  deriving DecidableEq, Repr

/-- The runtime half of a wheel position record (section 8.3). -/
structure Position where
  state      : TyreState
  level      : Level                 -- pressure level
  leak       : Bool                  -- leak flag
  lastP      : Option Nat            -- last compensated pressure
  lastTemp   : Option Int            -- last temperature
  lastSeq    : Option (BitVec 4)     -- last sequence
  lastField  : Option IdChoice       -- last ID field
  lastTime   : Option Time           -- last telegram time
  batteryLow : Bool                  -- battery low
  history    : List (Time × Nat)     -- history ring, oldest first
  missing    : Timer                 -- missing timer
  deriving DecidableEq, Repr

/-- The learn context (R156). -/
structure Learn where
  pos   : Nat
  field : IdChoice
  saved : TyreState  -- saved state
  timer : Timer      -- learn timer
  deriving DecidableEq, Repr

/-- The tyre lamp line (R155). -/
inductive Lamp where
  | off | steady | blink
  deriving DecidableEq, Repr

/-- The tyre unit (chapter 8). -/
structure Tyre where
  fifo      : List Telegram  -- telegram FIFO, oldest first
  overflow  : Bool           -- overflow flag
  errors    : Nat            -- receive error count, 0..65535
  positions : List Position  -- positions 0..15
  learn     : Option Learn   -- learn context
  lamp      : Lamp           -- lamp line output
  lampOn    : Bool           -- the blinking lamp's phase: on or off
  blink     : Timer          -- time to the lamp's next alternation
  deriving DecidableEq, Repr

/-! ### Management, store, incidents, power -/

/-- Incident kinds (section 9.6). Codes 1..11. -/
inductive IncidentKind where
  | positionConflict | nodeDegraded | chainFaulted | demandLost | supplyEmergency | stabilityIntervention
  | tyreCritical | tyreLeak | tyreMissing | storeInvalid | storeWriteFailed
  deriving DecidableEq, Repr

/-- An incident record (R173): OPEN exactly while its closed time is absent. -/
structure Incident where
  kind    : IncidentKind
  detail  : Nat
  repeats : Nat          -- repeat count, 0..255
  opened  : Time
  closed  : Option Time
  deriving DecidableEq, Repr

/-- The nonvolatile store's content (section 9.4): an image, its generation, and whether its CRC-32 matches. -/
structure Store where
  image      : Image
  generation : BitVec 16
  crcOk      : Bool
  deriving DecidableEq, Repr

/-- The write in progress: the image being written with its generation; a commit's, or one that records learned IDs
(R169, R170). The store state is WRITING exactly while it is present. -/
structure Writing where
  image      : Image
  generation : BitVec 16
  commit     : Bool
  deriving DecidableEq, Repr

/-- The in-progress COMMIT (R162). -/
structure InProgress where
  tag    : Byte
  port   : Port
  origin : BitVec 3
  deriving DecidableEq, Repr

/-- The management unit (chapter 9). The service flag is set exactly while the shadow image is present (R164, R165). -/
structure Mgmt where
  shadow         : Option Image       -- shadow image; service flag
  dirty          : Bool               -- dirty flag
  idle           : Timer              -- service idle timer
  writing        : Option Writing     -- image being written; store state
  followOn       : Bool               -- follow-on write pending
  inProgress     : Option InProgress  -- in-progress request
  restartPending : Bool               -- restart pending
  restartTimer   : Timer              -- the 200 ms from the RESTART (R171)
  restartDue     : Bool               -- the restart's event has come and it awaits the store's report (R171)
  deriving DecidableEq, Repr

/-- Power states (section 10.1). Codes RUN 0, PARK_WATCH 1, SLEEP 2. -/
inductive PowerState where
  | run | parkWatch | sleep
  deriving DecidableEq, Repr

/-- Park watch phases (section 10.1). -/
inductive ParkPhase where
  | parked | listening
  deriving DecidableEq, Repr

/-- The power controller (section 10.1). -/
structure Power where
  state     : PowerState
  phase     : ParkPhase  -- park watch phase
  linkPower : Bool       -- link power present
  voltage   : Nat        -- battery voltage in use, 0..400
  low       : Bool       -- battery low flag
  lockout   : Bool       -- battery lockout
  settle    : Timer
  park      : Timer
  wake      : Timer
  listen    : Timer
  sample    : Timer      -- battery sample timer
  deriving DecidableEq, Repr

/-- The state of the BT4, with the queue of commands that wait. -/
structure State where
  time          : Time              -- operating time (R175)
  active        : Image             -- active image
  generation    : BitVec 16         -- generation of the active image
  configInvalid : Bool              -- CONFIG_INVALID (R172)
  store         : Store             -- the nonvolatile store
  incidents     : List Incident     -- incident list, oldest first
  portA         : PortState
  portB         : PortState
  relay         : Relay
  hits          : List Nat          -- hit counts of slots 0..63 (R38)
  chain         : Chain
  wheel         : Wheel
  channels      : List Channel      -- channels 1..6
  load          : Load
  composer      : Composer
  stability     : Stability
  tyre          : Tyre
  mgmt          : Mgmt
  power         : Power
  unapplied     : Option Image      -- the image before a swap that the blocks have yet to apply (R159, R176)
  pending       : List Instr        -- the model's own: the commands waiting, first in, first out
  deriving DecidableEq, Repr

/-! ### The values after cold start and restart -/

/-- A port after cold start and restart (R20). -/
def PortState.start : PortState :=
  { present := false, presence := none, lastReception := none, safety := [], general := [], discards := 0, offer := none }

/-- The relay after cold start and restart (R20). -/
def Relay.start : Relay :=
  { own := none, discovery := none, warn := none, status := none, tyre := none, warnHeard := none, reportIndex := 0 }

/-- A node at every chain start: NORMAL, stale count 0, no record (R59, R61). -/
def Node.start : Node := { degraded := false, stale := 0, solenoid := false, sensor := false, record := none }

/-- PASS_THROUGH with pressure 0. -/
def Command.pass : Command := { mode := .passThrough, pressure := 0 }

/-- The chain controller after cold start and restart (R61). -/
def Chain.start : Chain :=
  { bound := none, health := .starting, period := none, session := 0, outstanding := none, failCount := 0, goodCount := 0,
    goodTotal := 0, failTotal := 0, lastFailure := .none, nodes := List.replicate 4 Node.start, sent := [] }

/-- The wheel and slip unit after cold start and restart (R78). -/
def Wheel.start : Wheel := { reference := 0, stationary := false, stationaryTimer := none }

/-- A channel that does not exist, and an existing one before its values are computed (R78, R118). -/
def Channel.start : Channel :=
  { prevSpeed := none, accel := 0, slip := 0, slipState := .follow, holdP := none, level := none, cycles := 0,
    testHold := false, driver := none, serviceTest := none, stabTest := none, stabInt := none, target := 0,
    requested := .pass, command := .pass, carried := .passThrough, driverValue := 0, intervention := 0, testTimer := none }

/-- A group that does not exist, and an existing one before its values are computed (R97). -/
def GroupState.start : GroupState := { pf := none, lam := 0, load := 0, target := 0 }

/-- The load unit with no group in existence (R97). -/
def Load.start : Load := { groups := List.replicate 3 GroupState.start, total := 0 }

/-- The composer after cold start and restart (R118). -/
def Composer.start : Composer :=
  { demand := none, timer := none, gaps := 0, effective := 0, mode := .fallback, emergency := false }

/-- The stability unit after cold start and restart, before its threshold is computed (R141). -/
def Stability.start : Stability :=
  { state := .off, inner := .none, pendingTest := .none, testChannels := [], window := none, spacing := none,
    recover := none, load := 0, severity := .none, threshold := 0, watchLevel := 0, releaseLevel := 0, tests := 0,
    lifts := 0, interventions := 0 }

/-- A position with its runtime fields cleared (R145, R160). -/
def Position.cleared (st : TyreState) (missing : Timer) : Position :=
  { state := st, level := .normal, leak := false, lastP := none, lastTemp := none, lastSeq := none, lastField := none,
    lastTime := none, batteryLow := false, history := [], missing := missing }

/-- The tyre unit with no configured position (R160). -/
def Tyre.start : Tyre :=
  { fifo := [], overflow := false, errors := 0, positions := List.replicate 16 (Position.cleared .unused none),
    learn := none, lamp := .off, lampOn := false, blink := none }

/-- The management unit after cold start (R176). -/
def Mgmt.start : Mgmt :=
  { shadow := none, dirty := false, idle := none, writing := none, followOn := false, inProgress := none,
    restartPending := false, restartTimer := none, restartDue := false }

/-- The power controller in RUN right after a cold start with link power, under the factory settle time (R182, R183):
the supply sense reads 24.6 V, DESIGN CHOICE, log entry 2. -/
def Power.start : Power :=
  { state := .run, phase := .parked, linkPower := true, voltage := 246, low := false, lockout := false,
    settle := some 50, park := none, wake := none, listen := none, sample := some 1000 }

/-- The machine right after a cold start (R183) with link power present and a store that holds no valid image, so that
the factory default image is in use and STORE_INVALID is open with detail 1 (R172). DESIGN CHOICE of the two senses and
of the store's content, log entry 2. -/
def State.reset : State :=
  { time := 0, active := factoryImage, generation := 0, configInvalid := true,
    store := { image := factoryImage, generation := 0, crcOk := false },
    incidents := [{ kind := .storeInvalid, detail := 1, repeats := 0, opened := 0, closed := none }],
    portA := .start, portB := .start, relay := .start, hits := List.replicate 64 0, chain := .start, wheel := .start,
    channels := List.replicate 6 .start, load := .start, composer := .start,
    stability := { Stability.start with threshold := 450, watchLevel := 360, releaseLevel := 270 },
    tyre := .start, mgmt := .start, power := .start, unapplied := none, pending := [] }

end Sys2Proof.Machine
end

