-- ==== Sys2Proof/Machine/Operands.lean ====
section
/-! DEFINITION. The codes of chapter 11 for the state names, and the operand forms that arrive as bytes: frames, telegrams
and the responses of the valve chain. -/

namespace Sys2Proof.Machine

/-! ### Codes -/

/-- The code of a port: A 0, B 1. -/
def portCode : Port → Nat
  | .A => 0
  | .B => 1

/-- The other port. -/
def otherPort : Port → Port
  | .A => .B
  | .B => .A

def BrakeMode.code : BrakeMode → Nat
  | .electronic => 0
  | .backup => 1
  | .fallback => 2

def StabState.code : StabState → Nat
  | .off => 0
  | .armed => 1
  | .watch => 2
  | .test => 3
  | .intervene => 4
  | .recover => 5

def Severity.code : Severity → Nat
  | .none => 0
  | .low => 1
  | .critical => 2

def TyreState.code : TyreState → Nat
  | .unused => 0
  | .unassigned => 1
  | .learning => 2
  | .awaiting => 3
  | .ok => 4
  | .low => 5
  | .critical => 6
  | .leak => 7
  | .missing => 8

def Level.code : Level → Nat
  | .normal => 0
  | .low => 1
  | .critical => 2

def IdChoice.code : IdChoice → Nat
  | .primary => 0
  | .alternate => 1

def ChainHealth.code : ChainHealth → Nat
  | .starting => 0
  | .running => 1
  | .faulted => 2

def FailReason.code : FailReason → Nat
  | .none => 0
  | .noResponse => 1
  | .count => 2
  | .kind => 3
  | .crc => 4

def PowerState.code : PowerState → Nat
  | .run => 0
  | .parkWatch => 1
  | .sleep => 2

def SlipState.code : SlipState → Nat
  | .follow => 0
  | .release => 1
  | .hold => 2
  | .reapply => 3

def CommandMode.code : CommandMode → Nat
  | .passThrough => 0
  | .control => 1

def IncidentKind.code : IncidentKind → Nat
  | .positionConflict => 1
  | .nodeDegraded => 2
  | .chainFaulted => 3
  | .demandLost => 4
  | .supplyEmergency => 5
  | .stabilityIntervention => 6
  | .tyreCritical => 7
  | .tyreLeak => 8
  | .tyreMissing => 9
  | .storeInvalid => 10
  | .storeWriteFailed => 11

/-- The results of a management request (section 11.1). -/
inductive Result where
  | done | refusedMoving | notInService | badAddress | badValue | invalid | busy | unknown
  deriving DecidableEq, Repr

def Result.code : Result → Nat
  | .done => 0
  | .refusedMoving => 1
  | .notInService => 2
  | .badAddress => 3
  | .badValue => 4
  | .invalid => 5
  | .busy => 6
  | .unknown => 7

/-! ### Frame classes (section 11.1, R27, R28, R36) -/

def clsDemand : BitVec 5 := 0x01
def clsWarn : BitVec 5 := 0x03
def clsStability : BitVec 5 := 0x04
def clsDiscover : BitVec 5 := 0x06
def clsStatus : BitVec 5 := 0x08
def clsTyre : BitVec 5 := 0x0A
def clsMgmtReq : BitVec 5 := 0x10
def clsMgmtRsp : BitVec 5 := 0x11

/-! ### Demand frames -/

/-- The demand a DEMAND frame carries, with the ingress port and the acceptance time: none when the frame is ignored
(R98, R99). -/
def parseDemand (p : Port) (now : Time) (d : List Byte) : Option Demand :=
  if d.length < 6 || beAt d 0 2 = 0xFFFF then none
  else some
    { value := min 1000 (beAt d 0 2), stop := (byteAt d 2).getLsbD 0, park := (byteAt d 2).getLsbD 1, seq := byteAt d 3,
      towing := if beAt d 4 2 = 0xFFFF then none else some (min 2500 (beAt d 4 2)), ingress := p, time := now }

/-- MERGE_WARN on a data field of at least 3 bytes: the own word is ORed into the first two bytes and the contributor
count rises by one, to at most 15 (R14, R184). -/
def mergeWarn (own : BitVec 16) (d : List Byte) : List Byte :=
  if d.length < 3 then d
  else beBytes 2 (BitVec.ofNat 16 (beAt d 0 2) ||| own).toNat ++ [BitVec.ofNat 8 (min 15 (beAt d 2 1 + 1))] ++ d.drop 3

/-! ### Telegrams -/

/-- The good telegram that ten bytes spell: none when the length, the CRC, the temperature or the pressure fails (R142,
section 11.4). -/
def parseTelegram (now : Time) (b : List Byte) : Option Telegram :=
  let temp : Int := (beAt b 6 1 : Int) - 40
  if b.length ≠ 10 || crc8 (b.take 9) ≠ byteAt b 9 || decide (temp < -40) || decide (125 < temp) || 1400 < beAt b 4 2 then
    none
  else some
    { id := BitVec.ofNat 32 (beAt b 0 4), pressure := beAt b 4 2, temp := temp, learn := (byteAt b 7).getLsbD 0,
      alert := (byteAt b 7).getLsbD 1, batteryLow := (byteAt b 7).getLsbD 2, seq := (byteAt b 8).setWidth 4,
      arrival := now }

/-! ### Responses of the valve chain (section 11.3, R186) -/

/-- One unit's response: its kind code and flags, and its values clamped into their ranges (R48). -/
structure Response where
  kind     : Nat
  stale    : Bool
  solenoid : Bool
  sensor   : Bool
  values   : Measures
  deriving DecidableEq, Repr

/-- The number of bytes of a response by its kind byte: 10 for the REF, 12 for a MOD (R186). -/
def responseWidth (k : Byte) : Nat := if k = 1#8 then 10 else if k = 2#8 then 12 else 0

/-- The responses before the final two bytes, and those two bytes: none when a kind byte holds another code or a response
would run past the final two bytes (R186). The first argument bounds the number of responses. -/
def splitResponses : Nat → List Byte → Option (List (List Byte) × List Byte)
  | 0, _ => none
  | n + 1, l =>
    if l.length = 2 then some ([], l)
    else
      let w := responseWidth (byteAt l 0)
      if w = 0 || l.length < w + 2 then none
      else (splitResponses n (l.drop w)).map (fun r => (l.take w :: r.1, r.2))

/-- A response from its bytes: the REF reports no fault flag, and every value is clamped into its range (R48, section
11.3). -/
def parseResponse (b : List Byte) : Response :=
  let flags := byteAt b 1
  if byteAt b 0 = 1#8 then
    { kind := 1, stale := flags.getLsbD 0, solenoid := false, sensor := false,
      values := .ref (min 1000 (beAt b 2 2)) (min 1000 (beAt b 4 2)) (clampInt (-3000) 3000 (signed16 (beAt b 6 2)))
        (min 400 (beAt b 8 2)) }
  else
    { kind := (byteAt b 0).toNat, stale := flags.getLsbD 0, solenoid := flags.getLsbD 1, sensor := flags.getLsbD 2,
      values := .mod (min 1000 (beAt b 2 2)) (min 2500 (beAt b 4 2)) (min 1000 (beAt b 6 2)) (min 2500 (beAt b 8 2))
        (min 1000 (beAt b 10 2)) }

/-- The response for chain position n of a list that runs from position N down to 1 (R47). -/
def responseAt (count n : Nat) (rs : List (List Byte)) : List Byte := rs.getD (count - n) []

/-- What the check of a response list finds: the first failing of COUNT, KIND and CRC, or the responses (R47). -/
def checkList (c : ChainRec) (list : List Byte) : FailReason × List (List Byte) :=
  match splitResponses (list.length + 1) (list.drop 1) with
  | none => (.count, [])
  | some (rs, received) =>
    if rs.length ≠ c.count then (.count, [])
    else if c.positions.any (fun n => (byteAt (responseAt c.count n rs) 0).toNat ≠ (c.kind n).code) then (.kind, [])
    else if (crc16 (list.take (list.length - 2))).toNat ≠ beNat received then (.crc, [])
    else (.none, rs)

end Sys2Proof.Machine
end

