-- ==== Sys2Proof/Machine/Ops.lean ====
section
/-! DEFINITION. The operations every block shares: access to ports and channels, the running of timers, the incident list,
the egress queues and the transmitter. -/

namespace Sys2Proof.Machine

/-! ### Access -/

def State.port (s : State) : Port → PortState
  | .A => s.portA
  | .B => s.portB

def State.updPort (s : State) (p : Port) (f : PortState → PortState) : State :=
  match p with
  | .A => { s with portA := f s.portA }
  | .B => { s with portB := f s.portB }

def State.updRelay (s : State) (f : Relay → Relay) : State := { s with relay := f s.relay }
def State.updChain (s : State) (f : Chain → Chain) : State := { s with chain := f s.chain }
def State.updWheel (s : State) (f : Wheel → Wheel) : State := { s with wheel := f s.wheel }
def State.updComposer (s : State) (f : Composer → Composer) : State := { s with composer := f s.composer }
def State.updStab (s : State) (f : Stability → Stability) : State := { s with stability := f s.stability }
def State.updTyre (s : State) (f : Tyre → Tyre) : State := { s with tyre := f s.tyre }
def State.updMgmt (s : State) (f : Mgmt → Mgmt) : State := { s with mgmt := f s.mgmt }
def State.updPower (s : State) (f : Power → Power) : State := { s with power := f s.power }
def State.updLoad (s : State) (f : Load → Load) : State := { s with load := f s.load }

/-- Every channel rewritten, with its number 1..6. -/
def State.mapChannels (s : State) (f : Nat → Channel → Channel) : State :=
  { s with channels := s.channels.mapIdx (fun i c => f (i + 1) c) }

/-- One channel rewritten. -/
def State.updChannel (s : State) (c : Nat) (f : Channel → Channel) : State :=
  s.mapChannels (fun n ch => if n = c then f ch else ch)

/-- Channel 1..6. -/
def State.channel (s : State) (c : Nat) : Channel := s.channels.getD (c - 1) .start

/-- The load unit's items of group 1..3. -/
def State.group (s : State) (g : Nat) : GroupState := s.load.groups.getD (g - 1) .start

/-- The node at chain position 1..4. -/
def State.node (s : State) (n : Nat) : Node := s.chain.nodes.getD (n - 1) .start

/-- The runtime record of wheel position 0..15. -/
def State.position (s : State) (i : Nat) : Position := s.tyre.positions.getD i (Position.cleared .unused none)

/-- One wheel position rewritten. -/
def State.updPosition (s : State) (i : Nat) (f : Position → Position) : State :=
  s.updTyre fun t => { t with positions := t.positions.modify i f }

/-- The part is in RUN. -/
def State.inRun (s : State) : Bool := s.power.state = .run

/-- Service mode is active (R164). -/
def State.inService (s : State) : Bool := s.mgmt.shadow.isSome

/-- The store state is WRITING (R168). -/
def State.storeWriting (s : State) : Bool := s.mgmt.writing.isSome

/-! ### Time -/

/-- A timer after `r` more milliseconds: a running one comes no further than its end. -/
def runDown (r : Nat) (t : Timer) : Timer := t.map (· - r)

/-- `r` milliseconds pass: the operating time advances, wrapping (R175), and every running timer runs down. -/
def elapse (r : Nat) (s : State) : State :=
  { s with
    time := s.time + BitVec.ofNat 32 r
    portA := { s.portA with presence := runDown r s.portA.presence }
    portB := { s.portB with presence := runDown r s.portB.presence }
    relay := { s.relay with
      discovery := runDown r s.relay.discovery, warn := runDown r s.relay.warn,
      status := runDown r s.relay.status, tyre := runDown r s.relay.tyre }
    chain := { s.chain with period := runDown r s.chain.period }
    wheel := { s.wheel with stationaryTimer := runDown r s.wheel.stationaryTimer }
    channels := s.channels.map (fun c => { c with testTimer := runDown r c.testTimer })
    composer := { s.composer with timer := runDown r s.composer.timer }
    stability := { s.stability with
      window := runDown r s.stability.window, spacing := runDown r s.stability.spacing,
      recover := runDown r s.stability.recover }
    tyre := { s.tyre with
      positions := s.tyre.positions.map (fun q => { q with missing := runDown r q.missing })
      learn := s.tyre.learn.map (fun l => { l with timer := runDown r l.timer })
      blink := runDown r s.tyre.blink }
    mgmt := { s.mgmt with idle := runDown r s.mgmt.idle, restartTimer := runDown r s.mgmt.restartTimer }
    power := { s.power with
      settle := runDown r s.power.settle, park := runDown r s.power.park, wake := runDown r s.power.wake,
      listen := runDown r s.power.listen, sample := runDown r s.power.sample } }

/-- The expiry of a timer is the event at its end ("Time and events", 00_scope): a stopped timer has none, and where the
timer still has time left, that time passes first. DESIGN CHOICE, log entry 1. -/
def onExpiry (t : Timer) (effect : State → State) (s : State) : State :=
  match t with
  | none => s
  | some r => effect (elapse r s)

/-! ### Incidents (R173, R174) -/

/-- An OPEN record of a kind and detail. -/
def Incident.openFor (k : IncidentKind) (d : Nat) (i : Incident) : Bool := i.closed.isNone && i.kind = k && i.detail = d

/-- The list with room for one more record: a full list loses its oldest CLOSED record, or its oldest record (R173). -/
def makeRoom (l : List Incident) : List Incident :=
  if l.length < 16 then l
  else if l.any (·.closed.isSome) then l.eraseP (·.closed.isSome)
  else l.tail

/-- Opens an incident: an OPEN record of the kind and detail is merged into, otherwise a record is appended (R173). -/
def openIncident (k : IncidentKind) (d : Nat) (s : State) : State :=
  if s.incidents.any (Incident.openFor k d) then
    { s with incidents := s.incidents.map fun i =>
        if i.openFor k d then { i with repeats := satSucc 255 i.repeats } else i }
  else
    { s with incidents := makeRoom s.incidents ++
        [{ kind := k, detail := d, repeats := 0, opened := s.time, closed := none }] }

/-- Closes the OPEN records that a test picks, with the current operating time (R174). -/
def closeIncidents (which : Incident → Bool) (s : State) : State :=
  { s with incidents := s.incidents.map fun i =>
      if i.closed.isNone && which i then { i with closed := some s.time } else i }

/-- Closes the incident of a kind and detail; nothing changes when none is OPEN (R174). -/
def closeIncident (k : IncidentKind) (d : Nat) (s : State) : State :=
  closeIncidents (fun i => i.kind = k && i.detail = d) s

/-- Closes every OPEN record of a kind. -/
def closeKind (k : IncidentKind) (s : State) : State := closeIncidents (fun i => i.kind = k) s

/-- The open count: the number of OPEN records (R174). -/
def openCount (s : State) : Nat := (s.incidents.filter (·.closed.isNone)).length

/-! ### Queues and transmitter (R3 to R8) -/

/-- The transmitter chooses when no frame is on offer: the head of SAFETY, otherwise of GENERAL (R7). -/
def PortState.choose (ps : PortState) : PortState :=
  if ps.offer.isSome then ps
  else { ps with offer :=
      if !ps.safety.isEmpty then some .safety else if !ps.general.isEmpty then some .general else none }

/-- Two frames of the same class and origin (R5). -/
def Queued.sameSender (x y : Queued) : Bool := x.frame.cls = y.frame.cls && x.frame.origin = y.frame.origin

/-- The last frame of a list that has the class and origin of `x`, replaced by `x` in place (R5). -/
def replaceLast (x : Queued) : List Queued → Option (List Queued)
  | [] => none
  | y :: l =>
    match replaceLast x l with
    | some l' => some (y :: l')
    | none => if x.sameSender y then some (x :: l) else none

/-- A SAFETY queue that takes a frame: appended while fewer than 8 are held; into a full queue it replaces the newest frame
of its class and origin, or else the oldest frame not on offer is removed (R4, R5). -/
def PortState.pushSafety (ps : PortState) (x : Queued) : PortState :=
  if ps.safety.length < 8 then { ps with safety := ps.safety ++ [x] }
  else
    let held := if ps.offer = some .safety then 1 else 0
    let rest := ps.safety.drop held
    { ps with safety := ps.safety.take held ++ (replaceLast x rest).getD (rest.tail ++ [x]) }

/-- A GENERAL queue that takes a frame: appended while fewer than 24 are held; a full queue refuses it and the discard
count rises (R4, R6). -/
def PortState.pushGeneral (ps : PortState) (x : Queued) : PortState :=
  if ps.general.length < 24 then { ps with general := ps.general ++ [x] }
  else { ps with discards := satSucc 65535 ps.discards }

/-- An enqueue to a port and queue class: discarded uncounted while the partner is absent (R4). A port that has no frame on
offer then chooses (R7). -/
def PortState.enqueue (ps : PortState) (q : QueueClass) (x : Queued) : PortState :=
  if !ps.present then ps
  else
    match q with
    | .safety => (ps.pushSafety x).choose
    | .general => (ps.pushGeneral x).choose

/-- An enqueue of a frame (R4). -/
def enqueue (p : Port) (q : QueueClass) (f : Frame) (s : State) : State :=
  s.updPort p (·.enqueue q { frame := f, restart := false })

/-- A GENERAL queue takes a frame: the partner is present and the queue is not full (R4, R6). -/
def PortState.accepts (ps : PortState) : Bool := ps.present && decide (ps.general.length < 24)

/-- A flush: both queues lose every frame, the one on offer included (R3). -/
def PortState.flush (ps : PortState) : PortState := { ps with safety := [], general := [], offer := none }

/-- The frame on offer, if any (R4, R7). -/
def PortState.onOffer (ps : PortState) : Option Queued :=
  match ps.offer with
  | none => none
  | some .safety => ps.safety.head?
  | some .general => ps.general.head?

/-- TRANSMITTED: the frame on offer leaves its queue and the transmitter chooses again (R7). -/
def PortState.transmitted (ps : PortState) : PortState :=
  match ps.offer with
  | none => ps
  | some .safety => { ps with safety := ps.safety.tail, offer := none }.choose
  | some .general => { ps with general := ps.general.tail, offer := none }.choose

/-- NOT_SENT: the frame stays at the head, is no longer on offer, and the transmitter chooses again (R7). -/
def PortState.notSent (ps : PortState) : PortState :=
  match ps.offer with
  | none => ps
  | some _ => { ps with offer := none }.choose

/-- A port's queue holds the response to a RESTART (R171). -/
def PortState.holdsRestart (ps : PortState) : Bool := ps.safety.any (·.restart) || ps.general.any (·.restart)

end Sys2Proof.Machine
end

