-- ==== Sys2Proof/Machine/Flags.lean ====
section
/-! DEFINITION. What the manual makes a function of the state as it stands: which groups and channels exist, which nodes
are usable, the severities, the conditions of the brake mode and the own warning word. -/

namespace Sys2Proof.Machine

/-! ### Groups, channels and nodes (R42) -/

/-- The chain configuration in use: the one bound to the most recent session start, or before the first one that of the
active image (R42). -/
def inUse (s : State) : ChainRec := s.chain.bound.getD s.active.chain

/-- The number of axle groups in existence (R42). -/
def groupCount (s : State) : Nat := (inUse s).groups

/-- The group of a channel 1..6. -/
def groupOf (c : Nat) : Nat := (c + 1) / 2

/-- The side of a channel: 2g−1 is left, 2g is right. -/
def sideOf (c : Nat) : Side := if c % 2 = 1 then .left else .right

/-- A group exists while the chain in use serves it. -/
def groupExists (s : State) (g : Nat) : Bool := within 1 (groupCount s) g

/-- A channel exists while its group does. -/
def channelExists (s : State) (c : Nat) : Bool := groupExists s (groupOf c)

/-- The chain position of the MOD that serves a group. -/
def modPosition (s : State) (g : Nat) : Nat := (inUse s).mods.getD (g - 1) 0

/-- The MOD node of a channel. -/
def channelNode (s : State) (c : Nat) : Node := s.node (modPosition s (groupOf c))

/-- The REF node of the chain in use. -/
def refNode (s : State) : Option Node := (inUse s).ref.map s.node

/-- The REF node is NORMAL. -/
def refNormal (s : State) : Bool :=
  match refNode s with
  | none => false
  | some n => !n.degraded

/-- The REF node is DEGRADED. -/
def refDegraded (s : State) : Bool :=
  match refNode s with
  | none => false
  | some n => n.degraded

/-- The REF's measurement record, fresh or held. -/
def refRecord (s : State) : Option Record :=
  match refNode s with
  | none => none
  | some n => n.record

/-- The control-line pressure of a REF record. -/
def Record.control (r : Record) : Nat :=
  match r.values with
  | .ref _ c _ _ => c
  | .mod _ _ _ _ _ => 0

/-- The supply pressure of a REF record. -/
def Record.supply (r : Record) : Nat :=
  match r.values with
  | .ref p _ _ _ => p
  | .mod _ _ _ _ _ => 0

/-- The lateral acceleration of a REF record. -/
def Record.ay (r : Record) : Int :=
  match r.values with
  | .ref _ _ a _ => a
  | .mod _ _ _ _ _ => 0

/-- The battery voltage of a REF record. -/
def Record.battery (r : Record) : Nat :=
  match r.values with
  | .ref _ _ _ b => b
  | .mod _ _ _ _ _ => 0

/-- The bag pressure of a MOD record. -/
def Record.bag (r : Record) : Nat :=
  match r.values with
  | .ref _ _ _ _ => 0
  | .mod _ _ _ _ b => b

/-- The measured pressure of a channel in its MOD's record. -/
def Record.pressureOf (r : Record) (c : Nat) : Nat :=
  match r.values with
  | .ref _ _ _ _ => 0
  | .mod lp _ rp _ _ => if c % 2 = 1 then lp else rp

/-- The wheel speed of a channel in its MOD's record. -/
def Record.speedOf (r : Record) (c : Nat) : Nat :=
  match r.values with
  | .ref _ _ _ _ => 0
  | .mod _ lv _ rv _ => if c % 2 = 1 then lv else rv

/-- The lateral acceleration of the REF record as it stands, 0 when it is absent (R139). -/
def lateral (s : State) : Int :=
  match refRecord s with
  | none => 0
  | some r => r.ay

/-- The chain is RUNNING. -/
def chainRunning (s : State) : Bool := s.chain.health = .running

/-- A channel's command record is forced to PASS_THROUGH: its node is DEGRADED or the chain is not RUNNING (R57). -/
def forced (s : State) (c : Nat) : Bool := (channelNode s c).degraded || !chainRunning s

/-! ### Demand and brake mode -/

/-- The demand is FRESH while its timer runs (R100, R102). -/
def demandFresh (s : State) : Bool := s.composer.timer.isSome

/-- D_elec while the demand is FRESH. -/
def electronicDemand (s : State) : Nat :=
  match s.composer.demand with
  | none => 0
  | some d => if demandFresh s then d.value else 0

/-- The control-line pressure while the REF is NORMAL and holds a record. -/
def controlDemand (s : State) : Nat :=
  match refRecord s with
  | none => 0
  | some r => if refNormal s then r.control else 0

/-- The effective demand: the greatest contribution present, 0 when none is (R101). -/
def effectiveDemand (s : State) : Nat := max (electronicDemand s) (controlDemand s)

/-- The brake mode as a function of its five conditions (R102). -/
def brakeMode (s : State) : BrakeMode :=
  if !(s.inRun && chainRunning s && !s.configInvalid) then .fallback
  else if demandFresh s then .electronic
  else if refNormal s && (refRecord s).isSome then .backup
  else .fallback

/-! ### Severities (R153) -/

/-- The state a position is judged by: a position in LEARNING by its saved state (section 8.6). -/
def judged (s : State) (i : Nat) : TyreState :=
  match s.tyre.learn with
  | none => (s.position i).state
  | some l => if l.pos = i && (s.position i).state = .learning then l.saved else (s.position i).state

/-- The severity of a tyre state. -/
def severityOf : TyreState → Severity
  | .critical => .critical
  | .leak => .critical
  | .low => .low
  | .unused => .none
  | .unassigned => .none
  | .learning => .none
  | .awaiting => .none
  | .ok => .none
  | .missing => .none

/-- The worse of two severities. -/
def Severity.worse (a b : Severity) : Severity := if a.code < b.code then b else a

/-- The worst severity among positions. -/
def worstOf (s : State) (l : List Nat) : Severity := l.foldl (fun w i => w.worse (severityOf (judged s i))) .none

/-- A configured position maps to a channel by its group and side (R153). -/
def mapsTo (s : State) (c i : Nat) : Bool :=
  let t := s.active.tyre i
  t.configured && t.group = groupOf c && t.side = sideOf c

/-- The severity of a channel (R92, R153). -/
def channelSeverity (s : State) (c : Nat) : Severity := worstOf s ((List.range 16).filter (mapsTo s c))

/-- The trailer-wide severity (R153). -/
def trailerSeverity (s : State) : Severity := worstOf s (List.range 16)

/-- Some position is judged to be in a state. -/
def anyTyre (s : State) (p : TyreState → Bool) : Bool := (List.range 16).any (fun i => p (judged s i))

/-- CRITICAL or LEAK. -/
def TyreState.failing (t : TyreState) : Bool := t = .critical || t = .leak

/-- Some position is CRITICAL or LEAK, by its state or by its saved state while LEARNING (R155, R179). -/
def anyFailing (s : State) : Bool := anyTyre s TyreState.failing

/-! ### The own warning word (R13, R105, R138, R154, R164, R172) -/

/-- Some node of the chain in use is DEGRADED. -/
def anyDegraded (s : State) : Bool := (inUse s).positions.any (fun n => (s.node n).degraded)

def amber (s : State) : Bool := s.composer.mode = .backup || (s.composer.mode = .electronic && anyDegraded s)
def red (s : State) : Bool := s.composer.mode = .fallback || s.composer.emergency
def tyreLow (s : State) : Bool := anyTyre s (fun t => t = .low)
def tyreCrit (s : State) : Bool := anyFailing s
def tyreMissing (s : State) : Bool := anyTyre s (fun t => t = .missing)
def stabilityFlag (s : State) : Bool := s.stability.state = .intervene

/-- The own warning word, bits 0..7; bits 8..15 are 0 (section 11.1, R13). -/
def warningWord (s : State) : BitVec 16 :=
  BitVec.ofNat 16
    (bit (amber s) + 2 * bit (red s) + 4 * bit (tyreLow s) + 8 * bit (tyreCrit s) + 16 * bit (tyreMissing s) +
      32 * bit (stabilityFlag s) + 64 * bit s.configInvalid + 128 * bit s.inService)

end Sys2Proof.Machine
end

