-- ==== Sys2Proof/Machine/Relay.lean ====
section
/-! DEFINITION. The combination relay: own position, the frames the part originates, the DISCOVERY consumer, and the
meanings of the relay's timers. -/

namespace Sys2Proof.Machine

/-- The origin code of the part's own frames: own position, or 7 while unplaced (R12). -/
def ownCode (s : State) : Nat := s.relay.own.getD 7

/-- A frame the part originates (R12, R184). -/
def ownFrame (s : State) (cls : BitVec 5) (target : BitVec 3) (data : List Byte) : Frame :=
  { cls := cls, target := target, origin := BitVec.ofNat 3 (ownCode s), data := data }

/-- DISCOVER with own position, to port B, GENERAL, target 7 (R11). -/
def originateDiscover (s : State) : State :=
  enqueue .B .general (ownFrame s clsDiscover 7 (beBytes 1 (ownCode s))) s

/-- WARN with the own warning word and contributor count 1, to port A, SAFETY (R15). -/
def originateWarn (s : State) : State :=
  enqueue .A .safety (ownFrame s clsWarn 0 (beBytes 2 (warningWord s).toNat ++ [1#8])) s

/-- The 8 data bytes of a STATUS frame (R17, R184). -/
def statusData (s : State) : List Byte :=
  beBytes 1 (s.composer.mode.code * 16 + s.stability.state.code) ++ beBytes 2 s.load.total ++
    beBytes 2 s.wheel.reference ++ beBytes 1 (openCount s) ++ beBytes 1 (s.generation.toNat % 256) ++
    beBytes 1 (min 255 (s.portA.discards + s.portB.discards))

/-- STATUS, to port A, GENERAL (R17). -/
def originateStatus (s : State) : State := enqueue .A .general (ownFrame s clsStatus 0 (statusData s)) s

/-- The 6 data bytes of a TYRE frame for a position (R18). -/
def tyreData (s : State) (i : Nat) : List Byte :=
  let p := s.position i
  beBytes 1 i ++ beBytes 1 p.state.code ++ optBytes 2 p.lastP ++
    optBytes 1 (p.lastTemp.map (fun t => (t + 40).toNat)) ++ beBytes 1 (severityOf (judged s i)).code

/-- TYRE for a position, to port A, GENERAL (R18). -/
def originateTyre (i : Nat) (s : State) : State := enqueue .A .general (ownFrame s clsTyre 0 (tyreData s i)) s

/-- The inner side a STABILITY frame carries: none in OFF, ARMED and WATCH (R139). -/
def frameSide (s : State) : Side :=
  match s.stability.state with
  | .test => s.stability.inner
  | .intervene => s.stability.inner
  | .recover => s.stability.inner
  | .off => .none
  | .armed => .none
  | .watch => .none

/-- The 6 data bytes of a STABILITY frame (R16, R139). -/
def stabilityData (s : State) : List Byte :=
  beBytes 1 s.stability.state.code ++ beBytes 2 (code16 (lateral s)) ++ beBytes 2 s.stability.threshold ++
    beBytes 1 (frameSide s).code

/-- STABILITY, to port A, SAFETY (R16). -/
def originateStability (s : State) : State := enqueue .A .safety (ownFrame s clsStability 0 (stabilityData s)) s

/-- Own position becomes unplaced and the discovery timer stops (R10, R11). -/
def unplace (s : State) : State := s.updRelay fun r => { r with own := none, discovery := none }

/-- Own position takes a new value: the discovery timer starts with 1000 ms and a DISCOVER is sent at once (R9, R11). -/
def place (n : Nat) (s : State) : State :=
  originateDiscover (s.updRelay fun r => { r with own := some n, discovery := some 1000 })

/-- The DISCOVERY consumer takes a DISCOVER received on a port (R9). -/
def discoverConsume (p : Port) (d : List Byte) (s : State) : State :=
  if p = .B || d.isEmpty then s
  else
    let n := (byteAt d 0).toNat
    if n ≤ 5 then
      if s.relay.own = some (n + 1) then s else closeIncident .positionConflict 6 (place (n + 1) s)
    else if n = 6 then openIncident .positionConflict 6 (unplace s)
    else s

/-- The warn, status and tyre timers start with their periods when port A's partner becomes present (R12, R15, R17, R18). -/
def startReports (s : State) : State :=
  s.updRelay fun r => { r with warn := some 100, status := some 500, tyre := some 1000 }

/-- The warn, status and tyre timers stop (R12). -/
def stopReports (s : State) : State := s.updRelay fun r => { r with warn := none, status := none, tyre := none }

/-- R11: a DISCOVER with the current own position, and the timer restarts. -/
def discoveryExpired (s : State) : State :=
  originateDiscover (s.updRelay fun r => { r with discovery := some 1000 })

/-- A WARN is due from this part: port B's partner is absent, or the WARN-heard time is absent or 300 ms or more old (R15). -/
def warnDue (s : State) : Bool :=
  !s.portB.present ||
    match s.relay.warnHeard with
    | none => true
    | some t => 300 ≤ interval t s.time

/-- R15: a WARN when one is due, and the timer restarts. -/
def warnExpired (s : State) : State :=
  let s := s.updRelay fun r => { r with warn := some 100 }
  if warnDue s then originateWarn s else s

/-- R17: a STATUS, and the timer restarts. -/
def statusExpired (s : State) : State := originateStatus (s.updRelay fun r => { r with status := some 500 })

/-- The first assigned position from the report index on, wrapping from 15 to 0 (R18). -/
def nextReport (s : State) : Option Nat :=
  ((List.range 16).map (fun i => (s.relay.reportIndex + i) % 16)).find? (fun i => (s.active.tyre i).assigned)

/-- R18: a TYRE for the next assigned position, the index moves past it, and the timer restarts. -/
def tyreExpired (s : State) : State :=
  let s := s.updRelay fun r => { r with tyre := some 1000 }
  match nextReport s with
  | none => s
  | some i => (originateTyre i s).updRelay fun r => { r with reportIndex := (i + 1) % 16 }

/-! ### Meanings -/

/-- DISCOVERY_TIMER_EXPIRY (R11). -/
def execDiscoveryTimerExpiry (s : State) : Host.Outcome State Fault Refusal :=
  .next (onExpiry s.relay.discovery discoveryExpired s)

/-- WARN_TIMER_EXPIRY (R15). -/
def execWarnTimerExpiry (s : State) : Host.Outcome State Fault Refusal := .next (onExpiry s.relay.warn warnExpired s)

/-- STATUS_TIMER_EXPIRY (R17). -/
def execStatusTimerExpiry (s : State) : Host.Outcome State Fault Refusal :=
  .next (onExpiry s.relay.status statusExpired s)

/-- TYRE_TIMER_EXPIRY (R18). -/
def execTyreTimerExpiry (s : State) : Host.Outcome State Fault Refusal := .next (onExpiry s.relay.tyre tyreExpired s)

end Sys2Proof.Machine
end

