-- ==== Sys2Proof/Machine/Classifier.lean ====
section
/-! DEFINITION. The frame classifier: the key, the match-table entries, the two-pass lookup, the assembled action and the
hit counts (chapter 2). A lookup lies whole within its command, so no swap, restart or power change falls inside one. -/

namespace Sys2Proof.Machine

/-! ### Actions -/

/-- Dispositions (R35); KEEP in an entry only. -/
inductive Disposition where
  | pass | consume | copy | drop | keep
  deriving DecidableEq, Repr

/-- Consumers (R36). -/
inductive Consumer where
  | none | demand | discovery | management | keep
  deriving DecidableEq, Repr

/-- Rewrites (R14). -/
inductive Rewrite where
  | none | mergeWarn | keep
  deriving DecidableEq, Repr

/-- Queue classes of an action. -/
inductive QueueField where
  | safety | general | keep
  deriving DecidableEq, Repr

def Disposition.ofCode (n : Nat) : Disposition :=
  if n = 0 then .pass else if n = 1 then .consume else if n = 2 then .copy else if n = 3 then .drop else .keep

def Consumer.ofCode (n : Nat) : Consumer :=
  if n = 0 then .none else if n = 1 then .demand else if n = 2 then .discovery else if n = 3 then .management else .keep

def Rewrite.ofCode (n : Nat) : Rewrite := if n = 0 then .none else if n = 1 then .mergeWarn else .keep

def QueueField.ofCode (n : Nat) : QueueField := if n = 0 then .safety else if n = 1 then .general else .keep

/-- The result of a classification ("Action" of the glossary). -/
structure Action where
  disposition : Disposition
  consumer    : Consumer
  rewrite     : Rewrite
  queue       : QueueField
  next        : Option Nat
  deriving DecidableEq, Repr

/-- The action of a head or NARROW slot (section 11.2). -/
def slotAction (b : List Byte) : Action :=
  { disposition := .ofCode (beAt b 15 1), consumer := .ofCode (beAt b 16 1), rewrite := .ofCode (beAt b 17 1),
    queue := .ofCode (beAt b 18 1), next := if beAt b 19 1 ≤ 15 then some (beAt b 19 1) else none }

/-- A port's miss action (R29). -/
def missAction (r : PortRec) : Action :=
  { disposition := .ofCode r.missDisp, consumer := .none, rewrite := .none, queue := .ofCode r.missQueue, next := none }

/-! ### The key (R21 to R24) -/

/-- A key: its fields right-aligned in bytes, and word0 when present. -/
structure Key where
  pass     : BitVec 8
  group    : BitVec 8
  port     : BitVec 8
  cls      : BitVec 8
  relation : BitVec 8
  band     : BitVec 8
  range    : BitVec 8
  length   : BitVec 8
  word0    : Option (BitVec 16)
  deriving DecidableEq, Repr

/-- The relation code: ALL 0, SELF 1, REAR 2, FRONT 3, UNPLACED 4 (R22). -/
def relationCode (own : Option Nat) (target : Nat) : Nat :=
  if target = 7 then 0
  else
    match own with
    | none => 4
    | some o => if target = o then 1 else if o < target then 2 else 3

/-- The origin band: band bits 1..p set, held in bits 0..6 (R23). -/
def originBand (p : Nat) : Nat := 2 ^ p - 1

/-- The value a range checker compares, when its source yields one (R24). -/
def checkedValue (r : RangeRec) (reference : Nat) (d : List Byte) : Option Nat :=
  if r.source = 1 then some reference
  else if r.source = 2 then if 2 ≤ d.length then some (beAt d 0 2) else none
  else if r.source = 3 then if 4 ≤ d.length then some (beAt d 2 2) else none
  else none

/-- The bit a range checker yields (R24). -/
def rangeBit (r : RangeRec) (reference : Nat) (d : List Byte) : Bool :=
  match checkedValue r reference d with
  | none => false
  | some v => within r.low r.high v

/-- The range mask: bit j for checker j, held in bits 0..3 (R24). -/
def rangeMask (img : Image) (reference : Nat) (d : List Byte) : Nat :=
  ((List.range 4).map fun j => 2 ^ j * bit (rangeBit (img.ranges.getD j ⟨0, 0, 0⟩) reference d)).sum

/-- The key of a frame that arrives on a port, at pass 1 in the port's default group (R21). -/
def buildKey (s : State) (p : Port) (f : Frame) : Key :=
  { pass := 0, group := BitVec.ofNat 8 (s.active.port p).defaultGroup, port := BitVec.ofNat 8 (portCode p),
    cls := BitVec.ofNat 8 f.cls.toNat, relation := BitVec.ofNat 8 (relationCode s.relay.own f.target.toNat),
    band := BitVec.ofNat 8 (originBand f.origin.toNat),
    range := BitVec.ofNat 8 (rangeMask s.active s.wheel.reference f.data), length := BitVec.ofNat 8 f.data.length,
    word0 := if 2 ≤ f.data.length then some (BitVec.ofNat 16 (beAt f.data 0 2)) else none }

/-- The key of the second pass (R31). -/
def Key.second (k : Key) (group : Nat) : Key := { k with pass := 1, group := BitVec.ofNat 8 group }

/-! ### Entries (R25, R26) -/

/-- A ternary pair matches a key field: every mask bit that is 1 finds equal bits (R25). -/
def pairMatch {w : Nat} (key value mask : BitVec w) : Bool := (key ^^^ value) &&& mask = 0#w

/-- The seven pairs every entry compares (R25). -/
def headMatch (b : List Byte) (k : Key) : Bool :=
  pairMatch k.pass (byteAt b 1) (byteAt b 2) && pairMatch k.group (byteAt b 3) (byteAt b 4) &&
    pairMatch k.port (byteAt b 5) (byteAt b 6) && pairMatch k.cls (byteAt b 7) (byteAt b 8) &&
    pairMatch k.relation (byteAt b 9) (byteAt b 10) && pairMatch k.band (byteAt b 11) (byteAt b 12) &&
    pairMatch k.range (byteAt b 13) (byteAt b 14)

/-- The word0 pair: an absent word0 matches a mask of 0 only (R25). -/
def word0Match (w : Option (BitVec 16)) (value mask : BitVec 16) : Bool :=
  match w with
  | none => mask = 0#16
  | some x => pairMatch x value mask

/-- The two pairs a WIDE entry also compares, held in its tail slot (R26). -/
def tailMatch (b : List Byte) (k : Key) : Bool :=
  pairMatch k.length (byteAt b 1) (byteAt b 2) &&
    word0Match k.word0 (BitVec.ofNat 16 (beAt b 3 2)) (BitVec.ofNat 16 (beAt b 5 2))

/-- An entry competes at slot n and matches the key: its valid flag is set, the slot is no tail, and every field it
compares matches (R25, R26). -/
def entryMatches (img : Image) (k : Key) (n : Nat) : Bool :=
  let b := img.slot n
  slotValid b && !img.isTail n && headMatch b k && (!slotWide b || tailMatch (img.slot (n + 1)) k)

/-- The winner of a pass: the matching entry at the lowest slot number (R30). -/
def winner (img : Image) (k : Key) : Option Nat := (List.range 64).find? (entryMatches img k)

/-! ### Lookup and action (R30 to R32) -/

/-- Pass-1 fields refined by those of the pass-2 winner that are not KEEP (R32). -/
def refine (a b : Action) : Action :=
  { disposition := if b.disposition = .keep then a.disposition else b.disposition
    consumer := if b.consumer = .keep then a.consumer else b.consumer
    rewrite := if b.rewrite = .keep then a.rewrite else b.rewrite
    queue := if b.queue = .keep then a.queue else b.queue
    next := none }

/-- KEEP fields left standing take the port's miss values, NONE and NONE (R32): the miss action refined by the action. -/
def resolve (r : PortRec) (a : Action) : Action := refine (missAction r) a

/-- A lookup: the assembled action and the slots that won its passes (R30, R31, R38). -/
def lookup (img : Image) (p : Port) (k : Key) : Action × List Nat :=
  match winner img k with
  | none => (resolve (img.port p) (missAction (img.port p)), [])
  | some n =>
    let a := slotAction (img.slot n)
    match a.next with
    | none => (resolve (img.port p) a, [n])
    | some g =>
      match winner img (k.second g) with
      | none => (resolve (img.port p) a, [n])
      | some m => (resolve (img.port p) (refine a (slotAction (img.slot m))), [n, m])

/-- Each win is counted at its slot, saturating (R38). -/
def countHits (wins : List Nat) (s : State) : State :=
  { s with hits := wins.foldl (fun h n => h.modify n (satSucc 65535)) s.hits }

/-! ### Applying the action (R14, R35, R37) -/

/-- The queue class of an assembled action. -/
def Action.queueClass (a : Action) : QueueClass := if a.queue = .safety then .safety else .general

/-- The relay passes a frame out of the other port, rewritten as the action says (R14, R35). -/
def passFrame (p : Port) (f : Frame) (a : Action) (s : State) : State :=
  let data := if a.rewrite = .mergeWarn then mergeWarn (warningWord s) f.data else f.data
  enqueue (otherPort p) a.queueClass { f with data := data } s

/-- The disposition passes the frame (R35). -/
def Disposition.passes (d : Disposition) : Bool := d = .pass || d = .copy

/-- The disposition hands the frame to the consumer (R35). -/
def Disposition.hands (d : Disposition) : Bool := d = .consume || d = .copy

end Sys2Proof.Machine
end

