-- ==== Sys2Proof/Config.lean ====
section
/-! DEFINITION. What the manual leaves without a value: constants with no body, so that no proof can see what they are. -/

namespace Sys2Proof

/-- The two bytes that the freshness-time field of a CHAIN 1..4 record carries when the 32-bit freshness time does not
fit its two bytes (record table of section 11.2, R55, R175): the manual states no value there. DESIGN CHOICE, log entry 5. -/
opaque Config.wideFreshness : Time → BitVec 16

/-- Whether entering RUN keeps the chain's last failure reason. R59 gives NONE there and the table of R61 gives "Kept", so
neither is taken: every claim holds of both. DESIGN CHOICE, log entry 10. -/
opaque Config.runKeepsReason : Bool

end Sys2Proof
end

