-- ==== Sys2Proof/Machine/Brake.lean ====
section
/-! DEFINITION. The load unit's characteristic and the composition of channel targets into command records: every value
here is a function of its inputs as they stand, rewritten by `recompose` whenever one of them may have changed
(R57, R71, R76, R86 to R95, R104, R108 to R111). -/

namespace Sys2Proof.Machine

/-! ### Load ratio, loads and the characteristic (R86 to R90) -/

/-- The load ratio λ (R86). -/
def loadRatio (r : GroupRec) (pf : Option Nat) : Nat :=
  match pf with
  | none => 0
  | some p => if p ≤ r.pE then 0 else min 1024 (((p - r.pE) * 1024 + (r.pL - r.pE) / 2) / (r.pL - r.pE))

/-- The group load L_g (R87). -/
def groupLoad (r : GroupRec) (lam : Nat) : Nat := r.lE + (lam * (r.lL - r.lE) + 512) / 1024

/-- The characteristic of a group at a demand (R89, R90). -/
def characteristic (r : GroupRec) (lam demand : Nat) : Nat :=
  let d := min 1000 demand
  if d = 0 || d < r.d0 then 0
  else
    let laden := min 1000 (d + r.lead)
    let empty := (d * r.e + 128) / 256
    min r.pMax (empty + (lam * (laden - empty) + 512) / 1024)

/-- The derate ratio of a severity, in 1/256 (R81, R91). -/
def derateRatio (t : TuningRec) : Severity → Nat
  | .none => 256
  | .low => t.rLow
  | .critical => t.rCrit

/-- A value derated for a severity (R91). -/
def derate (t : TuningRec) (sev : Severity) (v : Nat) : Nat := v * derateRatio t sev / 256

/-- A group's items from its filtered bag pressure and the effective demand; none for a group that does not exist. -/
def groupNow (s : State) (g : Nat) : GroupState :=
  if groupExists s g then
    let r := s.active.group g
    let lam := loadRatio r (s.group g).pf
    { pf := (s.group g).pf, lam := lam, load := groupLoad r lam,
      target := characteristic r lam s.composer.effective }
  else GroupState.start

/-- The load unit's items: every group, and the total load over those that exist, saturating (R87). -/
def loadNow (s : State) : Load :=
  let gs := (List.range 3).map (fun i => groupNow s (i + 1))
  { groups := gs, total := min 65535 (gs.map (·.load)).sum }

/-! ### Targets and commands -/

/-- P_max of a channel's group. -/
def pMaxOf (s : State) (c : Nat) : Nat := (s.active.group (groupOf c)).pMax

/-- The greatest of a channel's present requests, 0 when none is present (R110). -/
def greatestRequest (ch : Channel) : Nat :=
  max (max (ch.driver.getD 0) (ch.serviceTest.getD 0)) (max (ch.stabTest.getD 0) (ch.stabInt.getD 0))

/-- The composed target T (R108, R110). -/
def targetOf (s : State) (c : Nat) (ch : Channel) : Nat :=
  if s.composer.emergency then pMaxOf s c else min (pMaxOf s c) (greatestRequest ch)

/-- The command pressure C (R71). -/
def commandPressure (ch : Channel) : Nat :=
  match ch.slipState with
  | .follow => ch.target
  | .release => 0
  | .hold => min ch.target (ch.holdP.getD 0)
  | .reapply => min ch.target (ch.level.getD 0)

/-- FOLLOW with the hold pressure and reapply level absent (R76). -/
def Channel.toFollow (ch : Channel) : Channel := { ch with slipState := .follow, holdP := none, level := none }

/-- The composer requests PASS_THROUGH in FALLBACK, and CONTROL at C otherwise (R104). -/
def requestedOf (s : State) (ch : Channel) : Command :=
  if s.composer.mode = .fallback then .pass else { mode := .control, pressure := commandPressure ch }

/-- The command record follows the requested command with the two forcings of R57. -/
def recordOf (s : State) (c : Nat) (req : Command) : Command :=
  if forced s c then .pass
  else
    match req.mode with
    | .passThrough => .pass
    | .control => { mode := .control, pressure := min (pMaxOf s c) req.pressure }

/-- The command record will be PASS_THROUGH: requested in FALLBACK, or forced (R57, R76). -/
def passesThrough (s : State) (c : Nat) : Bool := s.composer.mode = .fallback || forced s c

/-- The load unit's values of a channel and the requests that follow them (R91, R94, R109, R135). -/
def channelValues (s : State) (c : Nat) (ch : Channel) : Channel :=
  let r := s.active.group (groupOf c)
  let g := s.group (groupOf c)
  let sev := channelSeverity s c
  let drive := derate s.active.tuning sev g.target
  let interv := derate s.active.tuning sev (characteristic r g.lam s.active.stab.dInt)
  { ch with driverValue := drive, intervention := interv, driver := some drive, stabInt := ch.stabInt.map (fun _ => interv) }

/-- The target, the return to FOLLOW and the commands of a channel (R71, R76, R104, R110, R111, R57). -/
def channelCommands (s : State) (c : Nat) (ch : Channel) : Channel :=
  let t := targetOf s c ch
  let ch := { ch with target := t }
  let ch := if t = 0 || passesThrough s c then ch.toFollow else ch
  let req := requestedOf s ch
  { ch with requested := req, command := recordOf s c req }

/-- A channel from its inputs as they stand; none for a channel that does not exist (R42, R79, R109). -/
def channelNow (s : State) (c : Nat) (ch : Channel) : Channel :=
  if channelExists s c then channelCommands s c (channelValues s c ch) else Channel.start

/-- Every value of the load unit and of the channels is rewritten from its inputs as they stand (R93, R110, R111, R57). -/
def recompose (s : State) : State :=
  let s := s.updLoad fun _ => loadNow s
  s.mapChannels (channelNow s)

/-! ### Service tests (R114, R115) -/

/-- A channel's service test ends: its request is removed, its timer stopped, its target recomposed (R115). -/
def endTest (c : Nat) (s : State) : State :=
  recompose (s.updChannel c fun ch => { ch with serviceTest := none, testTimer := none })

/-- Every service test ends (R115). -/
def endTests (s : State) : State :=
  recompose (s.mapChannels fun _ ch => { ch with serviceTest := none, testTimer := none })

/-- An accepted SERVICE_TEST: a pressure above 0 starts or replaces the channel's test, a pressure of 0 ends it (R114). -/
def startTest (c pressure duration : Nat) (s : State) : State :=
  if pressure = 0 then endTest c s
  else recompose (s.updChannel c fun ch => { ch with serviceTest := some pressure, testTimer := some duration })

/-- SERVICE_TEST_TIMER_EXPIRY (R115). -/
def execServiceTestTimerExpiry (ch : Nat) (s : State) : Host.Outcome State Fault Refusal :=
  .next (if within 1 6 ch then onExpiry (s.channel ch).testTimer (endTest ch) s else s)

end Sys2Proof.Machine
end

