-- ==== Sys2Proof/Machine/StabilityUnit.lean ====
section
/-! DEFINITION. The stability unit: the threshold in use, the stability states, the test pulse, the intervention and the
recovery (chapter 7), and the composer's re-establishment of the brake mode, whose every change is an event of this unit
(R103, R123). -/

namespace Sys2Proof.Machine

/-! ### Threshold (R120, R121) -/

/-- The table value between two points, the quotient signed and truncated toward zero (R120). -/
def interpolate (p q : Nat × Nat) (l : Nat) : Int :=
  (p.2 : Int) + (((q.2 : Int) - p.2) * ((l : Int) - p.1)).tdiv ((q.1 : Int) - p.1)

/-- a(L) past the first point: the segment that holds L, or the last value (R120). -/
def tableFrom : List (Nat × Nat) → Nat → Int
  | [], _ => 0
  | [p], _ => p.2
  | p :: q :: rest, l => if l < q.1 then interpolate p q l else tableFrom (q :: rest) l

/-- The table value a(L) of the threshold table (R120). -/
def tableValue (points : List (Nat × Nat)) (l : Nat) : Int :=
  match points with
  | [] => 0
  | p :: rest => if l ≤ p.1 then p.2 else tableFrom (p :: rest) l

/-- The tyre reduction of a severity (R120). -/
def reduction (r : StabRec) : Severity → Nat
  | .none => 0
  | .low => r.dLow
  | .critical => r.dCrit

/-- The rollover threshold in use (R120). -/
def thresholdOf (r : StabRec) (l : Nat) (sev : Severity) : Nat :=
  max r.aFloor (tableValue r.points l - reduction r sev).toNat

/-- The threshold and the two levels from the load and severity in use (R121). -/
def rethreshold (s : State) : State :=
  let t := thresholdOf s.active.stab s.stability.load s.stability.severity
  s.updStab fun u =>
    { u with threshold := t, watchLevel := t * s.active.stab.w / 256, releaseLevel := t * s.active.stab.rr / 256 }

/-- At a fresh REF reading the load and severity in use are taken and the threshold follows (R121). -/
def takeThreshold (s : State) : State :=
  rethreshold (s.updStab fun u => { u with load := s.load.total, severity := trailerSeverity s })

/-! ### OFF (R122, R123) -/

/-- An OFF condition holds (R122). -/
def offCondition (s : State) : Bool :=
  !s.active.stab.enable || s.composer.mode = .fallback || refDegraded s || s.wheel.reference < s.active.stab.vMin

/-- The requests and test holds of a test are removed and its window timer stopped. -/
def endTestPulse (s : State) : State :=
  (s.mapChannels fun c ch =>
      if c ∈ s.stability.testChannels then { ch with stabTest := none, testHold := false } else ch).updStab
    fun u => { u with testChannels := [], window := none }

/-- Every STAB_INT request is removed. -/
def dropStabInt (s : State) : State := s.mapChannels fun _ ch => { ch with stabInt := none }

/-- Every STAB_TEST request and test hold is removed. -/
def dropStabTest (s : State) : State := s.mapChannels fun _ ch => { ch with stabTest := none, testHold := false }

/-- A change of the stability state: a STABILITY frame reports it (R139). -/
def changeStab (st : StabState) (s : State) : State := originateStability (s.updStab fun u => { u with state := st })

/-- Entry to OFF from another state (R122); a unit already OFF stays as it is. -/
def enterOff (s : State) : State :=
  if s.stability.state = .off then s
  else
    let s := dropStabInt (dropStabTest s)
    let s := s.updStab fun u =>
      { u with testChannels := [], window := none, spacing := none, recover := none, pendingTest := .none, inner := .none }
    recompose (changeStab .off (closeIncident .stabilityIntervention 0 s))

/-- The OFF conditions are tested (R123). -/
def testOff (s : State) : State := if offCondition s then enterOff s else s

/-! ### Tests (R126 to R133) -/

/-- The inner side by the sign of the lateral acceleration. -/
def sideOfAy (a : Int) : Side := if 0 < a then .left else if a < 0 then .right else .none

/-- The candidate channels of a side: those in existence whose MOD node is NORMAL (R126). -/
def candidates (s : State) (side : Side) : List Nat :=
  [1, 2, 3, 4, 5, 6].filter fun c => sideOf c = side && channelExists s c && !(channelNode s c).degraded

/-- Every channel of a list is in FOLLOW. -/
def allFollow (s : State) (l : List Nat) : Bool := l.all fun c => (s.channel c).slipState = .follow

/-- A TEST request of a side is acknowledged (R129). -/
def acknowledgeTest (side : Side) (s : State) : State :=
  let chans := candidates s side
  let s := s.mapChannels fun c ch =>
    if c ∈ chans then { ch with testHold := true, stabTest := some s.active.stab.pTest } else ch
  let s := s.updStab fun u =>
    { u with testChannels := chans, inner := side, pendingTest := .none, window := some s.active.stab.window,
             tests := satSucc 65535 u.tests }
  recompose (changeStab .test s)

/-- A TEST request offered in WATCH: acknowledged when every candidate channel is in FOLLOW, otherwise held pending
(R127, R128). -/
def offerTest (side : Side) (s : State) : State :=
  if allFollow s (candidates s side) then acknowledgeTest side s
  else s.updStab fun u => { u with pendingTest := side }

/-- A test is abandoned or its window has run out: it ends with no result, the spacing timer starts, the state becomes
WATCH (R131, R132, R133). -/
def abandonTest (s : State) : State :=
  let s := (endTestPulse s).updStab fun u => { u with inner := .none, spacing := some s.active.stab.spacing }
  recompose (changeStab .watch s)

/-! ### Intervention and recovery (R134 to R137) -/

/-- An acknowledged intervention request (R134). A running test has ended before. -/
def intervene (side : Side) (s : State) : State :=
  let s := s.mapChannels fun c ch => if channelExists s c then { ch with stabInt := some ch.intervention } else ch
  let s := s.updStab fun u =>
    { u with spacing := none, recover := none, pendingTest := .none, inner := side,
             interventions := satSucc 65535 u.interventions }
  recompose (changeStab .intervene (openIncident .stabilityIntervention 0 s))

/-- The intervention is released (R136). -/
def enterRecover (s : State) : State :=
  let s := (dropStabInt s).updStab fun u => { u with recover := some s.active.stab.recover }
  recompose (changeStab .recover s)

/-- A lift: the test ends with a result and the unit intervenes on the test's side (R130). -/
def lift (s : State) : State :=
  let side := s.stability.inner
  intervene side ((endTestPulse s).updStab fun u => { u with lifts := satSucc 65535 u.lifts })

/-- The state becomes ARMED or WATCH on an evaluation; no timer or request changes but a pending test is dropped. -/
def moveTo (st : StabState) (s : State) : State := changeStab st (s.updStab fun u => { u with pendingTest := .none })

/-- An evaluation in WATCH below the threshold and at or above the watch level: the test request is considered (R126). -/
def considerTest (ay : Int) (s : State) : State :=
  let side := sideOfAy ay
  if s.stability.pendingTest ≠ .none && s.stability.pendingTest ≠ side then
    s.updStab fun u => { u with pendingTest := .none }
  else if s.stability.spacing.isNone && s.stability.pendingTest = .none && !(candidates s side).isEmpty then
    offerTest side s
  else s

/-- The lateral acceleration has the sign opposite to a side (R132). -/
def reversed (side : Side) (ay : Int) : Bool := (side = .left && decide (ay < 0)) || (side = .right && decide (0 < ay))

/-- The evaluation at a fresh REF reading (R124 to R126, R132, R136, R137). -/
def evaluate (s : State) : State :=
  let ay := lateral s
  let mag := ay.natAbs
  if offCondition s then enterOff s
  else
    match s.stability.state with
    | .off => moveTo .armed s
    | .armed =>
      if s.stability.threshold ≤ mag then intervene (sideOfAy ay) s
      else if s.stability.watchLevel ≤ mag then moveTo .watch s
      else s
    | .watch =>
      if s.stability.threshold ≤ mag then intervene (sideOfAy ay) s
      else if mag < s.stability.watchLevel then moveTo .armed s
      else considerTest ay s
    | .test =>
      if s.stability.threshold ≤ mag then intervene (sideOfAy ay) (endTestPulse s)
      else if reversed s.stability.inner ay then abandonTest s
      else s
    | .intervene => if s.stability.releaseLevel ≤ mag then s else enterRecover s
    | .recover => if s.stability.threshold ≤ mag then intervene (sideOfAy ay) s else s

/-- A test channel whose MOD node is DEGRADED leaves the test channels (R132). -/
def removeDegraded (s : State) : State :=
  let gone := s.stability.testChannels.filter fun c => (channelNode s c).degraded
  let s := s.mapChannels fun c ch => if c ∈ gone then { ch with stabTest := none, testHold := false } else ch
  recompose (s.updStab fun u => { u with testChannels := u.testChannels.filter (fun c => !gone.contains c) })

/-- A lift is found: some test channel's slip is at or above s_lift (R130). -/
def liftFound (s : State) : Bool :=
  s.stability.testChannels.any fun c => s.active.stab.sLift ≤ (s.channel c).slip

/-- The work in TEST at a completion that has made no change of state (R124, R130, R132). -/
def workTest (s : State) : State :=
  let s := removeDegraded s
  if s.stability.testChannels.isEmpty then abandonTest s else if liftFound s then lift s else s

/-- The re-examination of a pending test in WATCH (R128). -/
def workWatch (s : State) : State :=
  let side := s.stability.pendingTest
  if side = .none then s
  else if (candidates s side).isEmpty then s.updStab fun u => { u with pendingTest := .none }
  else if allFollow s (candidates s side) then acknowledgeTest side s
  else s

/-- The work on the state the unit is in, at a completion that has made no change of state (R124). -/
def workInState (s : State) : State :=
  match s.stability.state with
  | .test => workTest s
  | .watch => workWatch s
  | .off => s
  | .armed => s
  | .intervene => s
  | .recover => s

/-- The unit's work at a session completion, with or without a fresh REF record (R124). -/
def stabilityWork (refFresh : Bool) (s : State) : State :=
  let s' := if refFresh then evaluate (takeThreshold s) else testOff s
  if s'.stability.state = s.stability.state then workInState s' else s'

/-- The swap of a commit reaches the unit: the threshold from the held load and severity, the STAB_TEST requests of a
running test, and the OFF conditions (R119, R121, R123). -/
def stabilitySwap (s : State) : State :=
  let s := rethreshold s
  let s := s.mapChannels fun c ch =>
    if c ∈ s.stability.testChannels then { ch with stabTest := some s.active.stab.pTest } else ch
  testOff s

/-! ### The composer's modes (R101 to R106) -/

/-- The DEMAND_LOST incident follows the brake mode: entering BACKUP opens it, leaving BACKUP closes it (R106). -/
def demandLost (old new : BrakeMode) (s : State) : State :=
  if new = .backup && old ≠ .backup then openIncident .demandLost 0 s
  else if old = .backup && new ≠ .backup then closeIncident .demandLost 0 s
  else s

/-- The composer recomputes the effective demand and re-establishes the brake mode; a change of mode is an event for the
incident list and the stability unit; every value that follows is rewritten (R101, R103, R104, R106, R123). No rule orders
the DEMAND_LOST that a change to BACKUP opens (R106) and the STABILITY_INTERVENTION that closes where the change finds an OFF
condition (R122, R123); DEMAND_LOST comes first here: DESIGN CHOICE, log entry 42. -/
def reestablish (s : State) : State :=
  let old := s.composer.mode
  let new := brakeMode s
  let d := effectiveDemand s
  let s := s.updComposer fun c => { c with effective := d, mode := new }
  let s := recompose (demandLost old new s)
  if old = new then s else testOff s

/-! ### Meanings -/

/-- TEST_WINDOW_EXPIRY (R131): in TEST the test ends with no result. -/
def execTestWindowExpiry (s : State) : Host.Outcome State Fault Refusal :=
  .next (onExpiry s.stability.window
    (fun s => if s.stability.state = .test then abandonTest s else s.updStab fun u => { u with window := none }) s)

/-- SPACING_TIMER_EXPIRY (R133): the timer stops and nothing else changes. -/
def execSpacingTimerExpiry (s : State) : Host.Outcome State Fault Refusal :=
  .next (onExpiry s.stability.spacing (fun s => s.updStab fun u => { u with spacing := none }) s)

/-- The recover time has run out: ARMED, no inner side, the incident closes (R137). -/
def recovered (s : State) : State :=
  changeStab .armed (closeIncident .stabilityIntervention 0
    (s.updStab fun u => { u with recover := none, inner := .none }))

/-- RECOVER_TIMER_EXPIRY (R137). -/
def execRecoverTimerExpiry (s : State) : Host.Outcome State Fault Refusal :=
  .next (onExpiry s.stability.recover recovered s)

end Sys2Proof.Machine
end

