-- ==== Sys2Proof/Machine/TyreUnit.lean ====
section
/-! DEFINITION. The tyre unit: the receive line and FIFO, matching, compensation, the judging of a tyre, the lamp, the
sensor learn, and the swap of a commit (chapter 8). -/

namespace Sys2Proof.Machine

/-! ### Lamp and what follows a change of state (R153 to R155) -/

/-- The lamp output the tyre states ask for; OFF in SLEEP (R155). -/
def lampWanted (s : State) : Lamp :=
  if s.power.state = .sleep then .off else if anyFailing s then .blink else if tyreLow s then .steady else .off

/-- The lamp line follows; BLINK starts with the lamp on, for 500 ms (R155). -/
def driveLamp (s : State) : State :=
  let l := lampWanted s
  if l = s.tyre.lamp then s
  else s.updTyre fun t =>
    { t with lamp := l, lampOn := l = .blink, blink := if l = .blink then some 500 else none }

/-- The severities reach the load unit and the lamp line follows (R92, R153, R155). -/
def tyreSettle (s : State) : State := recompose (driveLamp s)

/-- A position takes a state; a change of state originates a TYRE frame (R18, R151). -/
def setTyreState (i : Nat) (st : TyreState) (s : State) : State :=
  let old := (s.position i).state
  let s := s.updPosition i fun q => { q with state := st }
  if old = st then s else originateTyre i s

/-! ### Compensation and judging (R147 to R151) -/

/-- The compensated gauge pressure (R147). -/
def compensate (pAtm pressure : Nat) (temp : Int) : Nat :=
  let d := (temp + 273).toNat
  min 1200 ((pressure * 293 + d / 2) / d - pAtm)

/-- P_comp is below f: compared without division (R149). -/
def belowFrac (p nominal f : Nat) : Bool := p * 256 < nominal * f

/-- The pressure level that follows a level at a pressure (R149). -/
def nextLevel (t : TuningRec) (nominal p : Nat) (old : Level) : Level :=
  match old with
  | .normal =>
    if belowFrac p nominal t.critFrac then .critical else if belowFrac p nominal t.lowFrac then .low else .normal
  | .low =>
    if belowFrac p nominal t.critFrac then .critical
    else if belowFrac p nominal t.lowFrac then .low
    else if belowFrac p nominal (t.lowFrac + 6) then .low
    else .normal
  | .critical =>
    if belowFrac p nominal t.critFrac then .critical
    else if belowFrac p nominal (t.critFrac + 6) then .critical
    else if belowFrac p nominal (t.lowFrac + 6) then .low
    else .normal

/-- The loss rate in kPa/min of a history of four entries that spans at least 30000 ms (R150). -/
def lossRate (h : List (Time × Nat)) : Option Int :=
  match h with
  | [a, _, _, d] =>
    let span := interval a.1 d.1
    if 30000 ≤ span then some ((((a.2 : Int) - d.2) * 60000).tdiv span) else none
  | _ => none

/-- The leak flag that follows (R150). -/
def nextLeak (threshold : Nat) (rate : Option Int) (alert old : Bool) : Bool :=
  if alert then true
  else
    match rate with
    | none => old
    | some r => if old then !decide (2 * r < threshold) else decide ((threshold : Int) ≤ r)

/-- The state derived from the leak flag and the level (R151). -/
def deriveState (leak : Bool) (l : Level) : TyreState :=
  if leak then .leak
  else
    match l with
    | .critical => .critical
    | .low => .low
    | .normal => .ok

/-- The history ring with an entry appended, the oldest removed beyond four (R148). -/
def pushHistory (h : List (Time × Nat)) (e : Time × Nat) : List (Time × Nat) :=
  let l := h ++ [e]
  if 4 < l.length then l.tail else l

/-- The TYRE_CRITICAL and TYRE_LEAK incidents of a position follow its level and leak flag (R154). -/
def tyreIncidents (i : Nat) (old new : Position) (s : State) : State :=
  let s :=
    if new.level = .critical && old.level ≠ .critical then openIncident .tyreCritical i s
    else if old.level = .critical && new.level ≠ .critical then closeIncident .tyreCritical i s
    else s
  if new.leak && !old.leak then openIncident .tyreLeak i s
  else if old.leak && !new.leak then closeIncident .tyreLeak i s
  else s

/-- The missing timeout in ms (section 8.2). -/
def missingTimeout (img : Image) : Nat := img.tuning.missing * 60000

/-- A position's record after an accepted telegram, its state still the old one (R148, steps 1 to 4 and the timer). -/
def acceptRecord (img : Image) (i : Nat) (field : IdChoice) (t : Telegram) (q : Position) : Position :=
  let p := compensate img.tuning.pAtm t.pressure t.temp
  let h := pushHistory q.history (t.arrival, p)
  { q with
    lastP := some p, lastTemp := some t.temp, lastSeq := some t.seq, lastField := some field,
    lastTime := some t.arrival, batteryLow := t.batteryLow, history := h,
    level := nextLevel img.tuning (img.tyre i).nominal p q.level
    leak := nextLeak img.tuning.leak (lossRate h) t.alert q.leak
    missing := some (missingTimeout img) }

/-- A telegram is accepted for a position (R148, R151, R154). Its incidents follow level, leak flag and state in the order of
R148's steps 3 to 5: DEDUCED, log entry 44. -/
def acceptTelegram (i : Nat) (field : IdChoice) (t : Telegram) (s : State) : State :=
  let old := s.position i
  let new := acceptRecord s.active i field t old
  let s := tyreIncidents i old new (s.updPosition i fun _ => new)
  let s := if old.state = .missing then closeIncident .tyreMissing i s else s
  tyreSettle (setTyreState i (deriveState new.leak new.level) s)

/-! ### Learning (R156 to R158) -/

/-- An ID written into a field of a position's record: its present bit is set (R145, R157). -/
def writeId (i : Nat) (field : IdChoice) (x : BitVec 32) (img : Image) : Image :=
  { img with tyres := img.tyres.modify i fun t =>
      match field with
      | .primary => { t with primary := ⟨true, x⟩ }
      | .alternate => { t with alternate := ⟨true, x⟩ } }

/-- An ID is held: in a field of the active image, of the shadow, or of the image a commit is writing (R157, R170). -/
def idHeld (s : State) (x : BitVec 32) : Bool :=
  s.active.holdsId x ||
    (match s.mgmt.shadow with
      | none => false
      | some img => img.holdsId x) ||
    (match s.mgmt.writing with
      | none => false
      | some w => w.commit && w.image.holdsId x)

/-- A store write of the active image with its generation begins (R170). -/
def beginLearnWrite (s : State) : State :=
  s.updMgmt fun m => { m with writing := some { image := s.active, generation := s.generation, commit := false } }

/-- A learned ID is handed over for the store: its write begins at once, or follows the write in progress (R170). -/
def storeLearned (s : State) : State :=
  if s.storeWriting then s.updMgmt fun m => { m with followOn := true } else beginLearnWrite s

/-- A learned ID enters the active image, the shadow, and the image a commit is writing (R157, R170). -/
def writeLearned (i : Nat) (field : IdChoice) (x : BitVec 32) (s : State) : State :=
  { s with
    active := writeId i field x s.active
    mgmt := { s.mgmt with
      shadow := s.mgmt.shadow.map (writeId i field x)
      writing := s.mgmt.writing.map fun w => if w.commit then { w with image := writeId i field x w.image } else w } }

/-- The three incidents of a position close (R154). -/
def closeTyreIncidents (i : Nat) (s : State) : State :=
  closeIncident .tyreMissing i (closeIncident .tyreLeak i (closeIncident .tyreCritical i s))

/-- The first candidate whose ID is held nowhere completes the learn (R157). -/
def completeLearn (l : Learn) (t : Telegram) (s : State) : State :=
  let s := storeLearned (writeLearned l.pos l.field t.id s)
  let s := s.updPosition l.pos fun _ => Position.cleared .learning (some (missingTimeout s.active))
  let s := closeTyreIncidents l.pos s
  let s := s.updTyre fun u => { u with learn := none }
  acceptTelegram l.pos l.field t s

/-- A running learn ends without an ID: the position returns to its saved state (R158). -/
def endLearn (s : State) : State :=
  match s.tyre.learn with
  | none => s
  | some l => tyreSettle (setTyreState l.pos l.saved (s.updTyre fun u => { u with learn := none }))

/-- A learn starts on a position and ID field with 120 s (R156). -/
def startLearn (i : Nat) (field : IdChoice) (s : State) : State :=
  let saved := (s.position i).state
  let s := s.updTyre fun u => { u with learn := some { pos := i, field := field, saved := saved, timer := some 120000 } }
  tyreSettle (setTyreState i .learning s)

/-! ### Starts, SLEEP and the swap (R145, R159, R160) -/

/-- The state of a position that starts afresh under its committed fields (R145). -/
def startState (t : TyreRec) : TyreState :=
  if !t.configured then .unused else if t.assigned then .awaiting else .unassigned

/-- A position's runtime record at cold start and restart (R145, R160). -/
def startPosition (img : Image) (i : Nat) : Position :=
  let t := img.tyre i
  Position.cleared (startState t) (if t.assigned then some (missingTimeout img) else none)

/-- The tyre unit at cold start and restart under the active image (R160). -/
def startTyres (s : State) : State :=
  s.updTyre fun _ => { Tyre.start with positions := (List.range 16).map (startPosition s.active) }

/-- On entry to SLEEP the FIFO is emptied, the missing timers stop and the lamp is OFF (R143, R152, R160). -/
def tyreSleep (s : State) : State :=
  driveLamp (s.updTyre fun u =>
    { u with fifo := [], positions := u.positions.map fun q => { q with missing := none } })

/-- On leaving SLEEP every assigned position that is not MISSING has its missing timer started, and the lamp is driven
(R152, R160). -/
def tyreWake (s : State) : State :=
  let full := some (missingTimeout s.active)
  driveLamp (s.updTyre fun u =>
    { u with positions := u.positions.mapIdx fun i q =>
        if (s.active.tyre i).assigned && q.state ≠ .missing then { q with missing := full } else q })

/-- The missing timer of a position that a swap starts: not in SLEEP (R152, R159). -/
def swapTimer (s : State) : Timer := if s.power.state = .sleep then none else some (missingTimeout s.active)

/-- A position takes a state at a swap: while it is LEARNING and stays so, its saved state takes it (R159). -/
def setAtSwap (i : Nat) (st : TyreState) (s : State) : State :=
  match s.tyre.learn with
  | none => setTyreState i st s
  | some l =>
    if l.pos = i && (s.position i).state = .learning then s.updTyre fun u => { u with learn := some { l with saved := st } }
    else setTyreState i st s

/-- A position's runtime fields are cleared at a swap, its incidents close and it takes a state (R154, R159). -/
def clearAtSwap (i : Nat) (st : TyreState) (timer : Timer) (s : State) : State :=
  let s := s.updPosition i fun q => Position.cleared q.state timer
  setAtSwap i st (closeTyreIncidents i s)

/-- The pressure level of a position that keeps its IDs is re-evaluated, and its state with it (R144, R159). -/
def reevaluate (i : Nat) (s : State) : State :=
  let old := s.position i
  match old.lastP with
  | none => s
  | some p =>
    let new := { old with level := nextLevel s.active.tuning (s.active.tyre i).nominal p old.level }
    let s := tyreIncidents i old new (s.updPosition i fun _ => new)
    match judged s i with
    | .missing => s
    | .awaiting => s
    | .unused => s
    | .unassigned => s
    | _ => setAtSwap i (deriveState new.leak new.level) s

/-- Two records hold the same IDs: the same fields present, and the same ID in each that is (R145, R159). -/
def sameIds (a b : TyreRec) : Bool :=
  a.primary.present = b.primary.present && a.alternate.present = b.alternate.present &&
    (!a.primary.present || a.primary.id = b.primary.id) && (!a.alternate.present || a.alternate.id = b.alternate.id)

/-- A learn on a position that the new image leaves unconfigured ends (R158, R159). -/
def endLearnAt (i : Nat) (s : State) : State :=
  match s.tyre.learn with
  | none => s
  | some l => if l.pos = i then endLearn s else s

/-- One position at the swap of a commit, from its committed fields before (R159). -/
def swapPosition (before : Image) (i : Nat) (s : State) : State :=
  let t := s.active.tyre i
  if !t.configured then clearAtSwap i .unused none (endLearnAt i s)
  else if !t.assigned then clearAtSwap i .unassigned none s
  else if !(before.tyre i).configured || !sameIds (before.tyre i) t then clearAtSwap i .awaiting (swapTimer s) s
  else reevaluate i s

/-- The swap of a commit reaches the tyre unit, position by position (R159). R159 gives the positions no order; the ascending
order of their indices is the model's, and fixes the order of the frames and of the incidents that several positions cause at
once: DESIGN CHOICE, log entry 43. -/
def tyreSwap (before : Image) (s : State) : State :=
  tyreSettle ((List.range 16).foldl (fun s i => swapPosition before i s) s)

/-! ### A swap whose report came out of RUN (R176) -/

/-- The composer, the load unit and the tyre unit apply a swap: the brake mode is re-established, the positions take their
new committed fields, and the loads, targets and commands follow (R88, R116, R159). The order: log entry 23. -/
def applySwap (before : Image) (s : State) : State := tyreSwap before (reestablish s)

/-- A swap whose report came out of RUN is applied at the next event that reaches the blocks: a telegram, the expiry of a
missing timer, going to SLEEP or waking from it, or entering RUN (R176; which events, log entry 23). -/
def applyHeld (s : State) : State :=
  match s.unapplied with
  | none => s
  | some before => applySwap before { s with unapplied := none }

/-! ### Receive line and FIFO (R142, R143, R146) -/

/-- A delivered telegram: checked, counted when bad, otherwise stamped and offered to the FIFO; not read in SLEEP (R142,
R143). -/
def deliver (b : List Byte) (s : State) : State :=
  if s.power.state = .sleep then s
  else
    let s := applyHeld s
    match parseTelegram s.time b with
    | none => s.updTyre fun u => { u with errors := satSucc 65535 u.errors }
    | some t => s.updTyre fun u => if u.fifo.length < 16 then { u with fifo := u.fifo ++ [t] } else { u with overflow := true }

/-- The configured position and field that hold an ID (R146). -/
def findMatch (img : Image) (x : BitVec 32) : Option (Nat × IdChoice) :=
  (List.range 16).findSome? fun i =>
    let t := img.tyre i
    if !t.configured then none
    else if t.primary.holds x then some (i, .primary)
    else if t.alternate.holds x then some (i, .alternate)
    else none

/-- A matched telegram is a duplicate: the position's last sequence and ID field, less than 2000 ms after its last
telegram (R146). -/
def isDuplicate (q : Position) (field : IdChoice) (t : Telegram) : Bool :=
  q.lastSeq = some t.seq && q.lastField = some field &&
    match q.lastTime with
    | none => false
    | some u => interval u t.arrival < 2000

/-- A telegram that matches no configured position is offered to a running learn (R146, R157). -/
def offerLearn (t : Telegram) (s : State) : State :=
  match s.tyre.learn with
  | none => s
  | some l => if t.learn && !idHeld s t.id then completeLearn l t s else s

/-- The handling of a telegram taken from the FIFO (R146). -/
def handleTelegram (t : Telegram) (s : State) : State :=
  match findMatch s.active t.id with
  | none => offerLearn t s
  | some (i, field) =>
    if (s.position i).state = .learning then s
    else if isDuplicate (s.position i) field t then s
    else acceptTelegram i field t s

/-- The unit takes the oldest telegram and handles it whole (R143). -/
def takeTelegram (s : State) : State :=
  match s.tyre.fifo with
  | [] => s
  | t :: rest => handleTelegram t ((applyHeld s).updTyre fun u => { u with fifo := rest })

/-! ### Silence (R152) -/

/-- A position's saved state becomes MISSING while it is LEARNING (R152, R156). -/
def savedMissing (i : Nat) (s : State) : State :=
  match s.tyre.learn with
  | none => s
  | some l =>
    if l.pos = i && l.saved ≠ .missing then
      tyreSettle (openIncident .tyreMissing i (s.updTyre fun u => { u with learn := some { l with saved := .missing } }))
    else s

/-- A position whose missing timer has run out becomes MISSING (R152, R154). -/
def fallSilent (i : Nat) (s : State) : State :=
  let s := s.updPosition i fun q => { q with missing := none }
  match (s.position i).state with
  | .learning => savedMissing i s
  | .missing => s
  | _ => tyreSettle (openIncident .tyreMissing i (setTyreState i .missing s))

/-- A position's missing timer has run out (R152). A swap applied at this event may have stopped or restarted the timer, and
the expiry then does not occur (R176, log entry 23). -/
def missingExpired (i : Nat) (s : State) : State :=
  let t := applyHeld s
  if (t.position i).missing = some 0 then fallSilent i t else t

/-! ### Meanings -/

/-- TELEGRAM_DELIVERED (R142, R143). -/
def execTelegramDelivered (b : List Byte) (s : State) : Host.Outcome State Fault Refusal := .next (deliver b s)

/-- TELEGRAM_TAKEN (R146). -/
def execTelegramTaken (s : State) : Host.Outcome State Fault Refusal := .next (takeTelegram s)

/-- MISSING_TIMER_EXPIRY (R152). -/
def execMissingTimerExpiry (i : Nat) (s : State) : Host.Outcome State Fault Refusal :=
  .next (if i < 16 then onExpiry (s.position i).missing (missingExpired i) s else s)

/-- The learn timer of the learn context. -/
def learnTimer (s : State) : Timer :=
  match s.tyre.learn with
  | none => none
  | some l => l.timer

/-- LEARN_TIMER_EXPIRY (R158). -/
def execLearnTimerExpiry (s : State) : Host.Outcome State Fault Refusal := .next (onExpiry (learnTimer s) endLearn s)

/-- LAMP_BLINK_TOGGLE (R155): while BLINK the lamp alternates every 500 ms. -/
def execLampBlinkToggle (s : State) : Host.Outcome State Fault Refusal :=
  .next (onExpiry s.tyre.blink (fun s => s.updTyre fun u => { u with lampOn := !u.lampOn, blink := some 500 }) s)

end Sys2Proof.Machine
end

