-- ==== Sys2Proof/Machine/Completion.lean ====
section
/-! DEFINITION. The end of service mode, the motion event, and the work of the five blocks at a session completion: the
wheel and slip unit (R63 to R79), the load unit (R82 to R85), the composer (R103, R107), the stability unit (R124) and the
power controller (R177). -/

namespace Sys2Proof.Machine

/-! ### Service mode and motion (R165, R70) -/

/-- Service mode ends: the shadow is discarded, the dirty flag and the service flag clear, the idle timer stops and every
service test ends (R165, R115). Nothing changes when it is not active. -/
def endService (s : State) : State :=
  if s.inService then endTests (s.updMgmt fun m => { m with shadow := none, dirty := false, idle := none }) else s

/-- A motion event: service mode, a running learn and every service test end (R70). -/
def motionEvent (s : State) : State := endTests (endLearn (endService s))

/-! ### The wheel and slip unit (R63 to R76) -/

/-- A channel's reading at a completion whose fresh positions are listed: its MOD's record when that was updated by this
session (R63). -/
def freshReading (s : State) (fresh : List Nat) (c : Nat) : Option Record :=
  if channelExists s c && fresh.contains (modPosition s (groupOf c)) then (channelNode s c).record else none

/-- The session period that the completion carries (R56): that of the configuration the session is bound to (R43). -/
def sessionPeriod (s : State) : Nat := (inUse s).period

/-- The wheel acceleration over one session period (R67). -/
def wheelAccel (prev : Option Nat) (now period : Nat) : Int :=
  match prev with
  | none => 0
  | some p => clampInt (-32000) 32000 ((((now : Int) - p) * 10000).tdiv (36 * period))

/-- Stage 1: acceleration of a fresh channel, then the previous speed of every channel (R63, R67). -/
def stage1 (s : State) (fresh : List Nat) : State :=
  s.mapChannels fun c ch =>
    match freshReading s fresh c with
    | some r => { ch with accel := wheelAccel ch.prevSpeed (r.speedOf c) (sessionPeriod s), prevSpeed := some (r.speedOf c) }
    | none => { ch with prevSpeed := none }

/-- The channels in FOLLOW. -/
def followers (s : State) : List Nat := [1, 2, 3, 4, 5, 6].filter fun c => (s.channel c).slipState = .follow

/-- The wheel speed of a channel that is eligible for the reference speed: chain RUNNING, node NORMAL, a record present, and
in FOLLOW before this completion (R64). -/
def eligibleSpeed (s : State) (before : List Nat) (c : Nat) : Option Nat :=
  if channelExists s c && chainRunning s && !(channelNode s c).degraded && before.contains c then
    (channelNode s c).record.map (·.speedOf c)
  else none

/-- The candidate: the highest speed among the eligible wheels (R65). -/
def candidateSpeed (s : State) (before : List Nat) : Option Nat := ([1, 2, 3, 4, 5, 6].filterMap (eligibleSpeed s before)).max?

/-- The decay step (R65). -/
def decayStep (limit period : Nat) : Nat := max 1 (limit * 36 * period / 10000)

/-- The reference speed that follows (R65). -/
def nextReference (previous step : Nat) (candidate : Option Nat) : Nat :=
  match candidate with
  | none => previous - step
  | some v => if previous ≤ v then v else max v (previous - step)

/-- Stage 2: the reference speed (R65, R66). -/
def stage2 (s : State) (before : List Nat) : State :=
  s.updWheel fun w =>
    { w with reference := nextReference w.reference (decayStep s.active.tuning.decel (sessionPeriod s)) (candidateSpeed s before) }

/-- The slip of a wheel against the reference (R68). The rule also says that the quotient lies in 1..1024, which its formula
does not give at a reference above 1024 and a small difference; the formula's 0 stands: DESIGN CHOICE, log entry 41. -/
def slipOf (absMin reference speed : Nat) : Nat :=
  if reference < absMin || reference ≤ speed then 0 else (reference - speed) * 1024 / reference

/-- Stage 3: the slip of every channel with a fresh reading (R68). -/
def stage3 (s : State) (fresh : List Nat) : State :=
  s.mapChannels fun c ch =>
    match freshReading s fresh c with
    | some r => { ch with slip := slipOf s.active.tuning.absMin s.wheel.reference (r.speedOf c) }
    | none => ch

/-- The release condition (R72). -/
def releaseCondition (t : TuningRec) (reference : Nat) (ch : Channel) : Bool :=
  (t.sRel < ch.slip || decide (ch.accel < t.aRel)) && t.absMin ≤ reference && 0 < ch.target

/-- The entry to RELEASE (R72). -/
def enterRelease (ch : Channel) : Channel :=
  { ch with slipState := .release, cycles := satSucc 255 ch.cycles, holdP := none, level := none }

/-- REAPPLY at a fresh reading without release: the level rises, and at or above T the channel enters FOLLOW (R75). -/
def reapplyRise (t : TuningRec) (ch : Channel) : Channel :=
  let l := min 1000 (ch.level.getD 0 + t.reapplyStep)
  if ch.target ≤ l then ch.toFollow else { ch with level := some l }

/-- The one transition of a channel at a fresh reading with measured pressure p (R72 to R75). -/
def transition (t : TuningRec) (reference p : Nat) (ch : Channel) : Channel :=
  match ch.slipState with
  | .follow => if releaseCondition t reference ch && !ch.testHold then enterRelease ch else ch
  | .release =>
    if decide (0 < ch.accel) || ch.slip < t.sHold then { ch with slipState := .hold, holdP := some p } else ch
  | .hold =>
    if releaseCondition t reference ch then enterRelease ch
    else if ch.slip < t.sReapply then { ch with slipState := .reapply, level := ch.holdP }
    else ch
  | .reapply => if releaseCondition t reference ch then enterRelease ch else reapplyRise t ch

/-- A return condition of R76 stands for a channel. -/
def returns (s : State) (c : Nat) (ch : Channel) : Bool :=
  s.wheel.reference < s.active.tuning.absMin || ch.target = 0 || passesThrough s c

/-- Stage 4: the returns of R76, then the transitions; the commands follow (R63, R71). -/
def stage4 (s : State) (fresh : List Nat) : State :=
  recompose (s.mapChannels fun c ch =>
    if returns s c ch then ch.toFollow
    else
      match freshReading s fresh c with
      | some r => transition s.active.tuning s.wheel.reference (r.pressureOf c) ch
      | none => ch)

/-- The completion shows motion (R69). -/
def motionSeen (s : State) (fresh : List Nat) : Bool :=
  0 < s.wheel.reference ||
    [1, 2, 3, 4, 5, 6].any fun c =>
      !(channelNode s c).degraded &&
        match freshReading s fresh c with
        | none => false
        | some r => 0 < r.speedOf c

/-- Stage 5: the stationary evaluation (R69, R70). -/
def stage5 (s : State) (fresh : List Nat) : State :=
  if motionSeen s fresh then
    let t := s.updWheel fun w => { w with stationary := false, stationaryTimer := none }
    if s.wheel.stationary then motionEvent t else t
  else if chainRunning s then
    if s.wheel.stationary || s.wheel.stationaryTimer.isSome then s
    else s.updWheel fun w => { w with stationaryTimer := some 2000 }
  else s.updWheel fun w => { w with stationaryTimer := none }

/-- The wheel and slip unit's work at a completion, in its five stages (R63). -/
def wheelWork (fresh before : List Nat) (s : State) : State :=
  stage5 (stage4 (stage3 (stage2 (stage1 s fresh) before) fresh) fresh) fresh

/-! ### The load unit (R82 to R85) -/

/-- The filter of a group is open (R83). -/
def filterOpen (s : State) (g : Nat) : Bool := s.composer.mode ≠ .fallback && s.composer.effective < (s.active.group g).d0

/-- The filtered bag pressure after a bag reading: the first is taken, later ones are filtered while the filter is open
(R82, R84). -/
def filterStep (k : Nat) (isOpen : Bool) (pf : Option Nat) (p : Nat) : Nat :=
  match pf with
  | none => p
  | some q => if isOpen then ((q : Int) + ((p : Int) - q).tdiv (2 ^ k)).toNat else q

/-- One group of the load unit at a completion (R82, R85). -/
def bagFilter (s : State) (fresh : List Nat) (g : Nat) (st : GroupState) : GroupState :=
  if groupExists s g && fresh.contains (modPosition s g) then
    match (s.node (modPosition s g)).record with
    | none => st
    | some r => { st with pf := some (filterStep (s.active.group g).k (filterOpen s g) st.pf r.bag) }
  else st

/-- The load unit's work at a completion (R82 to R87, R93). -/
def loadWork (fresh : List Nat) (s : State) : State :=
  recompose (s.updLoad fun l => { l with groups := l.groups.mapIdx fun i st => bagFilter s fresh (i + 1) st })

/-! ### The composer (R103, R107, R108) -/

/-- The emergency flag takes a value: setting it opens the incident, clearing it closes it (R107, R108). -/
def setEmergency (b : Bool) (s : State) : State :=
  if s.composer.emergency = b then s
  else
    let s := s.updComposer fun c => { c with emergency := b }
    recompose (if b then openIncident .supplyEmergency 0 s else closeIncident .supplyEmergency 0 s)

/-- The flag after an evaluation (R107). -/
def nextEmergency (threshold supply : Nat) (flag : Bool) : Bool :=
  if flag then supply < threshold + 50 else supply < threshold

/-- The REF's record is fresh at the completion (R56). -/
def refFresh (s : State) (fresh : List Nat) : Bool :=
  match (inUse s).ref with
  | none => false
  | some n => fresh.contains n

/-- The emergency evaluation of a completion (R107). -/
def judgeEmergency (fresh : List Nat) (s : State) : State :=
  if refDegraded s then setEmergency false s
  else
    match refRecord s with
    | none => s
    | some r =>
      if s.inRun && refNormal s && refFresh s fresh then
        setEmergency (nextEmergency s.active.tuning.emergency r.supply s.composer.emergency) s
      else s

/-- The composer's work at a completion (R101, R103, R107). The rules give its two parts no order: that the emergency is
judged before the mode is the model's choice, DESIGN CHOICE, log entry 38. -/
def composerWork (fresh : List Nat) (s : State) : State := reestablish (judgeEmergency fresh s)

/-! ### The power controller (R177, R180) -/

/-- Entry to SLEEP: the park and listen timers stop, the wake timer starts unless locked out, and the tyre unit sleeps
(R180), a swap that waits applied first (R176). -/
def enterSleep (s : State) : State :=
  tyreSleep ((applyHeld s).updPower fun p =>
    { p with state := .sleep, park := none, listen := none, wake := if p.lockout then none else some 600000 })

/-- The battery lockout sets: the wake and sample timers stop (R177). -/
def setLockout (s : State) : State := s.updPower fun p => { p with lockout := true, wake := none, sample := none }

/-- The battery low flag that follows a voltage (R177). -/
def nextLow (limit voltage : Nat) (flag : Bool) : Bool :=
  if voltage < limit then true else if limit + 10 ≤ voltage then false else flag

/-- The voltage in use takes a value and the flag is re-judged; out of RUN its setting locks the part out in SLEEP (R177). -/
def updateVoltage (v : Nat) (s : State) : State :=
  let low := nextLow s.active.tuning.batteryLimit v s.power.low
  let t := s.updPower fun p => { p with voltage := v, low := low }
  if low && !s.power.low && !s.inRun then
    let t := setLockout t
    if t.power.state = .sleep then t else enterSleep t
  else t

/-- The power controller's work at a completion (R177). -/
def powerWork (fresh : List Nat) (s : State) : State :=
  match refRecord s with
  | none => s
  | some r => if s.inRun && refFresh s fresh then updateVoltage r.battery s else s

/-! ### The completion (R56) -/

/-- One block's work at a completion. `before` lists the channels that were in FOLLOW before it (R64). -/
def blockWork (fresh before : List Nat) (b : Block) (s : State) : State :=
  match b with
  | .wheel => wheelWork fresh before s
  | .load => loadWork fresh s
  | .composer => composerWork fresh s
  | .stability => stabilityWork (refFresh s fresh) s
  | .power => powerWork fresh s

/-- Each block once, in the order of a list and then of the manual's list (R56). -/
def blockOrder (o : List Block) : List Block := (o ++ [Block.wheel, .load, .composer, .stability, .power]).eraseDups

/-- A session completion is delivered to the five blocks, in an order the manual leaves open (R56, log entry 4). -/
def complete (fresh before : List Nat) (o : List Block) (s : State) : State :=
  (blockOrder o).foldl (fun s b => blockWork fresh before b s) s

/-! ### Meanings -/

/-- STATIONARY_TIMER_EXPIRY (R70): the stationary flag sets. -/
def execStationaryTimerExpiry (s : State) : Host.Outcome State Fault Refusal :=
  .next (onExpiry s.wheel.stationaryTimer
    (fun s => s.updWheel fun w => { w with stationary := true, stationaryTimer := none }) s)

/-- DEMAND_TIMER_EXPIRY (R100): the demand becomes STALE, and the effective demand and the brake mode follow. -/
def execDemandTimerExpiry (s : State) : Host.Outcome State Fault Refusal :=
  .next (onExpiry s.composer.timer (fun s => reestablish (s.updComposer fun c => { c with timer := none })) s)

end Sys2Proof.Machine
end

