-- ==== Sys2Proof/Machine/ChainUnit.lean ====
section
/-! DEFINITION. The valve chain controller: session starts and command lists (R43 to R45), returned lists (R46, R47), good
and failed sessions (R48 to R54), and the chain's starts and stops (R59 to R61). -/

namespace Sys2Proof.Machine

/-! ### Nodes at a good session (R48 to R51) -/

/-- A response carries a fault flag. -/
def Response.faulted (r : Response) : Bool := r.solenoid || r.sensor

/-- A response updates its node's record: fresh and without a fault flag (R48). -/
def Response.updates (r : Response) : Bool := !r.stale && !r.faulted

/-- A node after a response at a good session (table of R48). -/
def nextNode (now : Time) (r : Response) (n : Node) : Node :=
  let count := if r.stale then satSucc 255 n.stale else 0
  { degraded := if r.updates then false else n.degraded || r.faulted || 5 ≤ count
    stale := count
    solenoid := r.solenoid
    sensor := r.sensor
    record := if r.updates then some { values := r.values, time := now } else n.record }

/-- A node rewritten at its chain position. -/
def updNode (pos : Nat) (f : Node → Node) (s : State) : State :=
  s.updChain fun c => { c with nodes := c.nodes.modify (pos - 1) f }

/-- The NODE_DEGRADED incident of a position follows the node's state (R50, R51). -/
def nodeIncident (pos : Nat) (old new : Bool) (s : State) : State :=
  if new && !old then openIncident .nodeDegraded pos s
  else if old && !new then closeIncident .nodeDegraded pos s
  else s

/-- One node takes its response at a good session (R48). -/
def applyResponse (pos : Nat) (r : Response) (s : State) : State :=
  let old := s.node pos
  let new := nextNode s.time r old
  nodeIncident pos old.degraded new.degraded (updNode pos (fun _ => new) s)

/-- The response for a chain position of a checked list. -/
def responseFor (c : ChainRec) (rs : List (List Byte)) (pos : Nat) : Response := parseResponse (responseAt c.count pos rs)

/-- Every node takes its response (R48). R48 gives the nodes no order; the ascending order of positions is the model's, and
fixes the order of the incidents that they open and close together: DESIGN CHOICE, log entry 37. -/
def applyResponses (rs : List (List Byte)) (s : State) : State :=
  (inUse s).positions.foldl (fun t pos => applyResponse pos (responseFor (inUse s) rs pos) t) s

/-- The chain positions whose record a good session's responses update. -/
def freshPositions (c : ChainRec) (rs : List (List Byte)) : List Nat :=
  c.positions.filter fun pos => (responseFor c rs pos).updates

/-! ### Good and failed sessions (R48, R52 to R54) -/

/-- The counts of a good session, and the session is no longer outstanding (R46, R48). -/
def countGood (s : State) : State :=
  s.updChain fun c =>
    { c with outstanding := none, failCount := 0, goodCount := satSucc 255 c.goodCount,
             goodTotal := satSucc 65535 c.goodTotal }

/-- The counts and the reason of a failed session (R52). -/
def countFailed (reason : FailReason) (s : State) : State :=
  s.updChain fun c =>
    { c with outstanding := none, failCount := satSucc 255 c.failCount, goodCount := 0,
             failTotal := satSucc 65535 c.failTotal, lastFailure := reason }

/-- The chain becomes RUNNING; from FAULTED the incident closes (R53, R54). -/
def moveGood (s : State) : State :=
  match s.chain.health with
  | .starting => s.updChain fun c => { c with health := .running }
  | .running => s
  | .faulted =>
    if 10 ≤ s.chain.goodCount then closeIncident .chainFaulted 0 (s.updChain fun c => { c with health := .running }) else s

/-- The chain becomes FAULTED at the third consecutive failure, and the incident opens (R53, R54). -/
def moveFailed (s : State) : State :=
  if s.chain.health ≠ .faulted && 3 ≤ s.chain.failCount then
    openIncident .chainFaulted 0 (s.updChain fun c => { c with health := .faulted })
  else s

/-- A good session and its completion (R48, R53, R56). No rule orders the incidents that its responses open and close and the
CHAIN_FAULTED that it closes (R48, R54); the nodes come first here: DESIGN CHOICE, log entry 40. -/
def goodSession (rs : List (List Byte)) (o : List Block) (s : State) : State :=
  complete (freshPositions (inUse s) rs) (followers s) o (recompose (moveGood (countGood (applyResponses rs s))))

/-- A failed session and its completion: every record held, node states and stale counts unchanged (R52, R53, R56). -/
def failSession (reason : FailReason) (o : List Block) (s : State) : State :=
  complete [] (followers s) o (recompose (moveFailed (countFailed reason s)))

/-! ### Session starts (R43 to R45) -/

/-- Every chain start: STARTING, records absent, nodes NORMAL, counts and session number 0, last failure reason NONE (R43,
R59). -/
def chainReset (s : State) : State :=
  s.updChain fun c =>
    { c with health := .starting, session := 0, outstanding := none, failCount := 0, goodCount := 0,
             lastFailure := .none, nodes := List.replicate 4 Node.start }

/-- The wheel and slip unit at a chain reinitialisation: the reference, the stationary flag and the cycle counts are kept
(R79). -/
def wheelReinit (s : State) : State :=
  (s.updWheel fun w => { w with stationaryTimer := none }).mapChannels fun _ ch =>
    { ch.toFollow with prevSpeed := none, accel := 0, slip := 0 }

/-- The chain configuration of the active image is bound to the session that starts (R43). -/
def bindChain (s : State) : State := s.updChain fun c => { c with bound := some s.active.chain }

/-- The chain is reinitialised under the active chain configuration, and the other blocks apply it (R43, R54, R79, R88,
R107, R109). -/
def reinitialise (s : State) : State :=
  let s := closeKind .nodeDegraded (closeKind .chainFaulted (bindChain (chainReset s)))
  reestablish (setEmergency false (recompose (wheelReinit s)))

/-- The chain configuration of the active image differs in node count or kinds from the one bound before (R43). -/
def chainDiffers (s : State) : Bool :=
  match s.chain.bound with
  | none => false
  | some c => !c.sameNodes s.active.chain

/-- One channel's word in a MOD command: CONTROL in bit 15 and the pressure in bits 9..0 (R45, section 11.3). -/
def commandWord (c : Command) : Nat :=
  match c.mode with
  | .passThrough => 0
  | .control => 0x8000 + c.pressure % 1024

/-- The REF command's flags: the lamp in bit 0, the sampling enable in bit 1 (R45). -/
def refFlags (s : State) : Nat :=
  bit (amber s || red s) + 2 * bit (s.active.chain.period ≠ 5 || s.chain.session % 2 = 0)

/-- The command for a chain position (R45, section 11.3). -/
def commandFor (s : State) (pos : Nat) : List Byte :=
  match (inUse s).kind pos with
  | .ref => [1#8, BitVec.ofNat 8 (refFlags s)]
  | .mod =>
    let g := (inUse s).mods.idxOf pos + 1
    [2#8] ++ beBytes 2 (commandWord (s.channel (2 * g - 1)).command) ++ beBytes 2 (commandWord (s.channel (2 * g)).command)
  | .none => []

/-- The header and the commands, from position N down to 1 (R44). -/
def commandBody (s : State) : List Byte :=
  [BitVec.ofNat 8 (0xA0 + s.chain.session)] ++ (inUse s).positions.reverse.flatMap (commandFor s)

/-- A command list: header, commands, ring CRC (R44, section 11.3). -/
def commandList (s : State) : List Byte := commandBody s ++ beBytes 2 (crc16 (commandBody s)).toNat

/-- The session number rises and becomes the outstanding session (R44, step 1). -/
def numberSession (s : State) : State :=
  s.updChain fun c => { c with session := (c.session + 1) % 16, outstanding := some ((c.session + 1) % 16) }

/-- The command list leaves the part, and each existing channel's mode is the one last carried (R44, R57). -/
def sendCommands (s : State) : State :=
  (s.updChain fun c => { c with sent := commandList s }).mapChannels fun c ch =>
    if channelExists s c then { ch with carried := ch.command.mode } else ch

/-- A session starts; `anew` when the chain is reinitialised whatever the configurations (R43, R44). -/
def sessionStart (anew : Bool) (s : State) : State :=
  sendCommands (numberSession (if anew || chainDiffers s then reinitialise s else bindChain s))

/-- The period timer starts with the session period of the active image (R44, R59). -/
def startPeriod (s : State) : State := s.updChain fun c => { c with period := some s.active.chain.period }

/-- The chain starts its first session and its period timer, if it is configured and the part is in RUN (R43, R59). -/
def startChain (anew : Bool) (s : State) : State :=
  if s.inRun && s.active.chain.configured then startPeriod (sessionStart anew s) else s

/-- R44: the timer restarts, an outstanding session fails with NO_RESPONSE, and a session starts unless the chain is
unconfigured. -/
def periodExpired (o : List Block) (s : State) : State :=
  let s := startPeriod s
  let s := if s.chain.outstanding.isSome then failSession .noResponse o s else s
  if s.active.chain.configured then sessionStart false s else s

/-- A returned list answers the outstanding session: its header's upper nibble is 0xA and its lower one echoes the number
(R46, R186). A list of no bytes, of which neither rule speaks, has no header and answers none: DESIGN CHOICE, log entry
39. -/
def answers (s : State) (list : List Byte) : Bool :=
  match s.chain.outstanding, list with
  | some n, h :: _ => h.toNat / 16 = 0xA && h.toNat % 16 = n
  | _, _ => false

/-- R46: a list that answers the outstanding session completes it, good or failed; any other is disregarded. -/
def listReturned (list : List Byte) (o : List Block) (s : State) : State :=
  if answers s list then
    match checkList (inUse s) list with
    | (.none, rs) => goodSession rs o s
    | (reason, _) => failSession reason o s
  else s

/-! ### Leaving and entering RUN (R59, R60) -/

/-- The chain stops at once: the period timer stops, an outstanding session is abandoned, STARTING, and the incidents close
(R54, R60, R61). -/
def stopChain (s : State) : State :=
  let s := s.updChain fun c =>
    { c with health := .starting, period := none, session := 0, outstanding := none, failCount := 0, goodCount := 0,
             nodes := List.replicate 4 Node.start }
  closeKind .nodeDegraded (closeKind .chainFaulted s)

/-! ### Meanings -/

/-- PERIOD_TIMER_EXPIRY (R44). -/
def execPeriodTimerExpiry (o : List Block) (s : State) : Host.Outcome State Fault Refusal :=
  .next (onExpiry s.chain.period (periodExpired o) s)

/-- RESPONSE_LIST_RETURN (R46). -/
def execResponseListReturn (list : List Byte) (o : List Block) (s : State) : Host.Outcome State Fault Refusal :=
  .next (listReturned list o s)

end Sys2Proof.Machine
end

