-- ==== Sys2Proof/Machine/PowerControl.lean ====
section
/-! DEFINITION. The power controller: leaving and entering RUN, park watch, SLEEP and wake (R177 to R182), the store load
(R172), cold start and restart (R171, R183). -/

namespace Sys2Proof.Machine

/-! ### Leaving RUN (R178) -/

/-- A port on leaving RUN: partner absent, presence timer stopped, flushed (R20). -/
def PortState.leave (ps : PortState) : PortState := { ps.flush with present := false, presence := none }

/-- The ports and the relay on leaving RUN (R20). -/
def leaveLinks (s : State) : State :=
  let s := (s.updPort .A PortState.leave).updPort .B PortState.leave
  stopReports (unplace (s.updRelay fun r => { r with warnHeard := none }))

/-- A channel's slip-control items on leaving RUN: the cycle count is kept (R78). -/
def Channel.leave (ch : Channel) : Channel :=
  { ch.toFollow with prevSpeed := none, accel := 0, slip := 0, testHold := false }

/-- The wheel and slip unit on leaving RUN (R78). -/
def leaveWheel (s : State) : State := (s.updWheel fun _ => Wheel.start).mapChannels fun _ ch => ch.leave

/-- The load unit on leaving RUN: every P_f absent (R96). -/
def leaveLoad (s : State) : State :=
  s.updLoad fun l => { l with groups := l.groups.map fun g => { g with pf := none } }

/-- The composer on leaving RUN, but for what `reestablish` recomputes (R117). -/
def leaveComposer (s : State) : State :=
  closeKind .supplyEmergency (closeKind .demandLost
    (s.updComposer fun c => { c with demand := none, timer := none, emergency := false }))

/-- The management unit on leaving RUN: service mode ends, a pending restart is dropped, the in-progress request becomes
absent (R162, R165, R178). -/
def leaveMgmt (s : State) : State :=
  (endService s).updMgmt fun m => { m with inProgress := none, restartPending := false, restartTimer := none, restartDue := false }

/-- Every block acts on leaving RUN, in PARK_WATCH phase PARKED; the settle timer stops (R178). The ports come first, so
that no frame of the event is queued: log entry 17. -/
def leaveRun (s : State) : State :=
  let s := s.updPower fun p => { p with state := .parkWatch, phase := .parked, settle := none }
  let s := leaveComposer (leaveLoad (leaveWheel (stopChain (leaveLinks s))))
  endTests (leaveMgmt (endLearn (enterOff (reestablish s))))

/-- The park timer's start: none for a duration of 0 (R179). -/
def parkTimer (s : State) : Timer :=
  if s.active.tuning.parkDuration = 0 then none else some (s.active.tuning.parkDuration * 60000)

/-- A link-power-off event in RUN (R178): the supply sense is read first. -/
def powerOff (supply : Nat) (s : State) : State :=
  let s := leaveRun (updateVoltage (min 400 supply) (s.updPower fun p => { p with linkPower := false }))
  if s.active.tuning.parkWatch && !s.power.low then s.updPower fun p => { p with park := parkTimer s }
  else enterSleep (if s.power.low then setLockout s else s)

/-! ### PARK_WATCH and SLEEP (R179 to R181) -/

/-- The part enters PARK_WATCH, phase LISTENING, from SLEEP: the listen timer starts with 60 s and the tyre unit wakes
(R180), a swap that waits applied first (R176). -/
def startListening (s : State) : State :=
  tyreWake ((applyHeld s).updPower fun p => { p with state := .parkWatch, phase := .listening, wake := none, listen := some 60000 })

/-- The park timer's expiry, in PARK_WATCH phase PARKED (R179). -/
def parkExpired (s : State) : State :=
  if s.power.state ≠ .parkWatch || s.power.phase ≠ .parked then s.updPower fun p => { p with park := none }
  else if anyFailing s then s.updPower fun p => { p with park := parkTimer s }
  else enterSleep (s.updPower fun p => { p with park := none })

/-- The listen timer's expiry, in PARK_WATCH phase LISTENING (R181). -/
def listenExpired (s : State) : State :=
  if s.power.state ≠ .parkWatch || s.power.phase ≠ .listening then s.updPower fun p => { p with listen := none }
  else if anyFailing s then s.updPower fun p => { p with phase := .parked, listen := none, park := parkTimer s }
  else enterSleep (s.updPower fun p => { p with listen := none })

/-- The wake timer's expiry, in SLEEP (R180). -/
def wakeExpired (s : State) : State :=
  if s.power.state = .sleep then startListening s else s.updPower fun p => { p with wake := none }

/-- The wake line is asserted (R180): disregarded outside SLEEP and under the lockout. -/
def wakeLine (s : State) : State := if s.power.state = .sleep && !s.power.lockout then startListening s else s

/-- The supply sense is read at a sample: out of RUN, or in RUN while the REF is DEGRADED or holds no record (R177). -/
def samples (s : State) : Bool := !s.inRun || refDegraded s || (refRecord s).isNone

/-- The battery sample timer's expiry (R177). -/
def sampleExpired (supply : Nat) (s : State) : State :=
  let s := s.updPower fun p => { p with sample := some 1000 }
  if samples s then updateVoltage (min 400 supply) s else s

/-! ### Entering RUN (R182) -/

/-- The power controller's items on entering RUN (R182). -/
def runPower (s : State) : State :=
  s.updPower fun p =>
    { p with state := .run, lockout := false, park := none, wake := none, listen := none,
             sample := some (p.sample.getD 1000), settle := some s.active.tuning.settle }

/-- The last failure reason after entering RUN: NONE by R59, kept by the table of R61; which, is left open (log entry
10). -/
def reasonInRun : FailReason → FailReason
  | .none => .none
  | r => if Config.runKeepsReason then r else .none

/-- The chain start on entering RUN (R59, R61). -/
def chainEntersRun (s : State) : State :=
  (chainReset s).updChain fun c => { c with lastFailure := reasonInRun s.chain.lastFailure }

/-- Entering RUN, an event for every block: a swap that waits is applied, the power controller's items change, and the chain
starts (R59, R176, R182). -/
def enterRun (s : State) : State := reestablish (setEmergency false (chainEntersRun (runPower (applyHeld s))))

/-- A link-power-on event (R182): from SLEEP the tyre unit wakes as well; in RUN it is only recorded (log entry 12). -/
def powerOn (s : State) : State :=
  let asleep := s.power.state = .sleep
  let running := s.inRun
  let s := s.updPower fun p => { p with linkPower := true }
  if running then s
  else if asleep then tyreWake (enterRun s)
  else enterRun s

/-- The settle timer's expiry in RUN starts the chain (R59, R182). -/
def settleExpired (s : State) : State := startChain false (s.updPower fun p => { p with settle := none })

/-! ### The store load (R172) -/

/-- The detail of a STORE_INVALID incident, or none for a valid store: 1 for the CRC, 2 for a failed check (R172). -/
def storeFailure (st : Store) : Option Nat := if !st.crcOk then some 1 else if !st.image.valid then some 2 else none

/-- The store is loaded: its image with its generation, or the factory default image with generation 0 (R172). -/
def loadStore (s : State) : State :=
  match storeFailure s.store with
  | none => { s with active := s.store.image, generation := s.store.generation, configInvalid := false }
  | some d =>
    openIncident .storeInvalid d { s with active := factoryImage, generation := 0, configInvalid := true }

/-! ### Cold start and restart (R171, R183) -/

/-- Every block at the values of the column "cold start and restart", under the active image (R20, R41, R61, R78, R97,
R118, R141, R160, R176). The management unit, the incident list, the operating time and the power controller are apart. -/
def startBlocks (s : State) : State :=
  let s := { s with
    portA := PortState.start, portB := PortState.start, relay := Relay.start, hits := List.replicate 64 0,
    chain := Chain.start, wheel := Wheel.start, channels := List.replicate 6 Channel.start, load := Load.start,
    composer := Composer.start, stability := Stability.start, mgmt := Mgmt.start, unapplied := none }
  recompose (rethreshold (startTyres s))

/-- Every OPEN incident closes (R171). -/
def closeAll (s : State) : State := closeIncidents (fun _ => true) s

/-- The restart: service mode ends, OPEN incidents close, every block takes its restart values, the store is loaded, and
RUN is entered once more (R171, R183). -/
def beginRestart (s : State) : State := enterRun (startBlocks (loadStore (closeAll s)))

/-- One of the events of R171 that begin a pending restart: while the store is WRITING it waits for the report. -/
def triggerRestart (s : State) : State :=
  if !s.mgmt.restartPending then s
  else if s.storeWriting then s.updMgmt fun m => { m with restartDue := true, restartTimer := none }
  else beginRestart s

/-- The store's content as a cold start finds it: a write that was in progress leaves its CRC failing (R170, caution). -/
def interrupted (s : State) : Store := if s.storeWriting then { s.store with crcOk := false } else s.store

/-- The power controller's items at a cold start, before the first state is entered (R183). -/
def coldPower (s : State) (supply : Nat) (linkPower : Bool) : Power :=
  { state := .sleep, phase := .parked, linkPower := linkPower, voltage := min 400 supply,
    low := nextLow s.active.tuning.batteryLimit (min 400 supply) false, lockout := false, settle := none, park := none,
    wake := none, listen := none, sample := some 1000 }

/-- The first state of a cold start without link power: SLEEP, with the wake timer or the lockout (R183). -/
def coldSleep (s : State) : State := enterSleep (if s.power.low then setLockout s else s)

/-- Cold start (R183): the operating time is 0, the incident list is empty, the store is loaded, every block takes its
cold-start values, and the first state follows the link power and the battery. -/
def coldStart (supply : Nat) (linkPower : Bool) (s : State) : State :=
  let s := loadStore { s with time := 0, incidents := [], store := interrupted s }
  let s := startBlocks { s with power := coldPower s supply linkPower }
  if linkPower then enterRun s else coldSleep s

/-! ### Meanings -/

/-- COLD_START (R183). -/
def execColdStart (supply : Nat) (linkPower : Bool) (s : State) : Host.Outcome State Fault Refusal :=
  .next (coldStart supply linkPower s)

/-- LINK_POWER_OFF (R178): in PARK_WATCH and SLEEP it only records link power as absent. -/
def execLinkPowerOff (supply : Nat) (s : State) : Host.Outcome State Fault Refusal :=
  .next (if s.inRun then powerOff supply s else s.updPower fun p => { p with linkPower := false })

/-- LINK_POWER_ON (R182). -/
def execLinkPowerOn (s : State) : Host.Outcome State Fault Refusal := .next (powerOn s)

/-- SETTLE_TIMER_EXPIRY (R182, R59). -/
def execSettleTimerExpiry (s : State) : Host.Outcome State Fault Refusal :=
  .next (onExpiry s.power.settle settleExpired s)

/-- PARK_TIMER_EXPIRY (R179). -/
def execParkTimerExpiry (s : State) : Host.Outcome State Fault Refusal := .next (onExpiry s.power.park parkExpired s)

/-- WAKE_TIMER_EXPIRY (R180). -/
def execWakeTimerExpiry (s : State) : Host.Outcome State Fault Refusal := .next (onExpiry s.power.wake wakeExpired s)

/-- WAKE_LINE_ASSERTED (R180). -/
def execWakeLineAsserted (s : State) : Host.Outcome State Fault Refusal := .next (wakeLine s)

/-- LISTEN_TIMER_EXPIRY (R181). -/
def execListenTimerExpiry (s : State) : Host.Outcome State Fault Refusal := .next (onExpiry s.power.listen listenExpired s)

/-- BATTERY_SAMPLE_TIMER_EXPIRY (R177). -/
def execBatterySampleTimerExpiry (supply : Nat) (s : State) : Host.Outcome State Fault Refusal :=
  .next (onExpiry s.power.sample (sampleExpired supply) s)

/-- RESTART_DELAY_EXPIRY (R171): 200 ms after the RESTART. -/
def execRestartDelayExpiry (s : State) : Host.Outcome State Fault Refusal :=
  .next (onExpiry s.mgmt.restartTimer triggerRestart s)

end Sys2Proof.Machine
end

