-- ==== Sys2Proof/Machine/Records.lean ====
section
/-! DEFINITION. The bytes of the management records as READ returns them: configuration fields, then runtime fields
(R163, section 11.2). Absent values read as all ones in their field width. -/

namespace Sys2Proof.Machine

/-- `w` bytes of all ones: the absent code. -/
def absentBytes (w : Nat) : List Byte := List.replicate w 0xFF#8

/-- An optional operating time: four bytes. -/
def timeBytes (t : Option Time) : List Byte := optBytes 4 (t.map (·.toNat))

/-- PORT runtime fields (offsets 5 to 13). -/
def portBytes (ps : PortState) : List Byte :=
  beBytes 1 (bit ps.present + 2 * bit ps.lastReception.isSome) ++ timeBytes ps.lastReception ++
    beBytes 1 ps.safety.length ++ beBytes 1 ps.general.length ++ beBytes 2 ps.discards

/-- CHAIN 0 runtime fields (offsets 6 to 18). -/
def chainBytes (s : State) : List Byte :=
  let c := s.chain
  beBytes 1 c.health.code ++ beBytes 1 c.session ++ beBytes 1 c.failCount ++ beBytes 1 c.goodCount ++
    beBytes 2 c.goodTotal ++ beBytes 2 c.failTotal ++ beBytes 1 c.lastFailure.code ++ beBytes 1 s.power.state.code ++
    beBytes 2 s.power.voltage ++ beBytes 1 (bit s.power.low + 2 * bit s.power.lockout)

/-- The freshness time of a node's record in its two bytes: the time itself where it fits, and otherwise a value the manual
does not state (log entry 5). -/
def freshnessBytes (t : Time) : List Byte :=
  beBytes 2 (if t.toNat < 65536 then t.toNat else (Config.wideFreshness t).toNat)

/-- The measured fields in the order of the node's response. -/
def measureBytes (m : Measures) : List Byte :=
  match m with
  | .ref p c a b => beBytes 2 p ++ beBytes 2 c ++ beBytes 2 (code16 a) ++ beBytes 2 b
  | .mod lp lv rp rv b => beBytes 2 lp ++ beBytes 2 lv ++ beBytes 2 rp ++ beBytes 2 rv ++ beBytes 2 b

/-- The number of bytes of the measured fields of a kind. -/
def measureWidth : ChainKind → Nat
  | .ref => 8
  | .mod => 10
  | .none => 0

/-- CHAIN 1..4: a position of the chain in use, or the absent codes of one that does not exist (R163). -/
def nodeBytes (s : State) (n : Nat) : List Byte :=
  if n ≤ (inUse s).count then
    let q := s.node n
    beBytes 1 (bit q.degraded) ++ beBytes 1 q.stale ++ beBytes 1 (2 * bit q.solenoid + 4 * bit q.sensor) ++
      match q.record with
      | none => absentBytes (2 + measureWidth ((inUse s).kind n))
      | some r => freshnessBytes r.time ++ measureBytes r.values
  else absentBytes 5

/-- GROUP runtime fields (offsets 15 to 24). -/
def groupBytes (s : State) (g : Nat) : List Byte :=
  if groupExists s g then
    let q := s.group g
    optBytes 2 q.pf ++ beBytes 2 q.lam ++ beBytes 2 q.load ++ beBytes 2 q.target ++ beBytes 2 s.load.total
  else absentBytes 10

/-- The demand record's fields of CHANNEL 0 (offsets 0 to 10). -/
def demandBytes (d : Option Demand) : List Byte :=
  match d with
  | none => absentBytes 11
  | some d =>
    beBytes 2 d.value ++ beBytes 1 (bit d.stop + 2 * bit d.park) ++ beBytes 1 d.seq.toNat ++ optBytes 2 d.towing ++
      beBytes 1 (portCode d.ingress) ++ timeBytes (some d.time)

/-- CHANNEL 0. -/
def composerBytes (s : State) : List Byte :=
  demandBytes s.composer.demand ++ beBytes 1 (bit (demandFresh s)) ++ beBytes 2 s.composer.gaps ++
    beBytes 2 s.composer.effective ++ beBytes 1 s.composer.mode.code ++ beBytes 1 (bit s.composer.emergency) ++
    beBytes 2 s.wheel.reference ++ beBytes 1 (bit s.wheel.stationary)

/-- A command: its mode, then its pressure. -/
def commandBytes (c : Command) : List Byte := beBytes 1 c.mode.code ++ beBytes 2 c.pressure

/-- CHANNEL 1..6. -/
def channelBytes (s : State) (c : Nat) : List Byte :=
  if channelExists s c then
    let ch := s.channel c
    optBytes 2 ch.driver ++ optBytes 2 ch.serviceTest ++ optBytes 2 ch.stabTest ++ optBytes 2 ch.stabInt ++
      beBytes 2 ch.target ++ beBytes 1 ch.slipState.code ++ beBytes 2 ch.slip ++ beBytes 2 (code16 ch.accel) ++
      optBytes 2 ch.holdP ++ optBytes 2 ch.level ++ beBytes 1 ch.cycles ++ beBytes 1 (bit ch.testHold) ++
      commandBytes ch.requested ++ commandBytes ch.command ++ beBytes 1 ch.carried.code ++ beBytes 2 ch.driverValue ++
      beBytes 2 ch.intervention ++ optBytes 2 ch.testTimer
  else absentBytes 34

/-- STABILITY runtime fields (offsets 47 to 63). -/
def stabilityBytes (u : Stability) : List Byte :=
  beBytes 1 u.state.code ++ beBytes 2 u.threshold ++ beBytes 2 u.watchLevel ++ beBytes 2 u.releaseLevel ++
    beBytes 2 u.load ++ beBytes 1 (u.severity.code + 4 * u.inner.code + 16 * u.pendingTest.code) ++
    beBytes 1 (bit u.window.isSome + 2 * bit u.spacing.isSome + 4 * bit u.recover.isSome) ++ beBytes 2 u.tests ++
    beBytes 2 u.lifts ++ beBytes 2 u.interventions

/-- One place of the history ring: time and pressure, or the absent code. -/
def historyBytes (h : List (Time × Nat)) (i : Nat) : List Byte :=
  match h[i]? with
  | none => absentBytes 6
  | some e => beBytes 4 e.1.toNat ++ beBytes 2 e.2

/-- TYRE_POSITION 0..15 runtime fields (offsets 16 to 51). -/
def positionBytes (q : Position) : List Byte :=
  beBytes 1 q.state.code ++ beBytes 1 q.level.code ++ beBytes 1 (bit q.leak + 2 * bit q.batteryLow) ++
    optBytes 2 q.lastP ++ optBytes 1 (q.lastTemp.map (fun t => (t + 40).toNat)) ++
    optBytes 1 (q.lastSeq.map (·.toNat)) ++ timeBytes q.lastTime ++ beBytes 1 q.history.length ++
    (List.range 4).flatMap (historyBytes q.history)

/-- The learn context's fields of TYRE_POSITION 16. -/
def learnBytes (l : Option Learn) : List Byte :=
  match l with
  | none => absentBytes 3
  | some l => beBytes 1 l.pos ++ beBytes 1 l.field.code ++ beBytes 1 l.saved.code

/-- TYRE_POSITION 16. -/
def tyreUnitBytes (t : Tyre) : List Byte :=
  beBytes 1 t.fifo.length ++ beBytes 1 (bit t.overflow) ++ beBytes 2 t.errors ++ learnBytes t.learn

/-- INCIDENT 0..15. -/
def incidentBytes (i : Incident) : List Byte :=
  beBytes 1 i.kind.code ++ beBytes 1 i.detail ++ beBytes 1 i.repeats ++ beBytes 1 (bit i.closed.isSome) ++
    timeBytes (some i.opened) ++ timeBytes i.closed

/-- INCIDENT 16. -/
def mgmtBytes (s : State) : List Byte :=
  beBytes 1 s.incidents.length ++ beBytes 1 (openCount s) ++ beBytes 4 s.time.toNat ++ beBytes 1 (bit s.storeWriting) ++
    beBytes 1 (bit s.inService + 2 * bit s.mgmt.dirty + 4 * bit s.mgmt.followOn) ++ beBytes 2 s.generation.toNat

/-- The runtime fields of a record (section 11.2). -/
def runtimeBytes (s : State) (k : RecKind) (i : Nat) : List Byte :=
  match k with
  | .classEntry => []
  | .port => portBytes (if i = 0 then s.portA else s.portB)
  | .range => []
  | .chain => if i = 0 then chainBytes s else nodeBytes s i
  | .group => groupBytes s i
  | .channel => if i = 0 then composerBytes s else channelBytes s i
  | .stability => stabilityBytes s.stability
  | .tuning => []
  | .tyrePosition => if i ≤ 15 then positionBytes (s.position i) else tyreUnitBytes s.tyre
  | .incident =>
    if i ≤ 15 then
      match s.incidents[i]? with
      | none => []
      | some r => incidentBytes r
    else mgmtBytes s
  | .hits => beBytes 2 (s.hits.getD i 0)

/-- A sensor ID as READ shows it: all ones while its present bit is 0 (section 11.2, R145). -/
def IdField.shown (f : IdField) : IdField := if f.present then f else { f with id := BitVec.allOnes 32 }

/-- The configuration fields of a record as READ shows them. -/
def shownConfig (img : Image) (k : RecKind) (i : Nat) : List Byte :=
  match k with
  | .tyrePosition =>
    if i ≤ 15 then
      let t := img.tyre i
      recBytes tyreFields { t with primary := t.primary.shown, alternate := t.alternate.shown }
    else []
  | k => configBytes img k i

/-- A record as READ returns it from an image (R163). -/
def recordBytes (img : Image) (s : State) (k : RecKind) (i : Nat) : List Byte := shownConfig img k i ++ runtimeBytes s k i

end Sys2Proof.Machine
end

