-- ==== Sys2Proof/WellFormed.lean ====
section
/-! DEFINITION. The checks a command's operands satisfy when they come from the part's lines. -/

namespace Sys2Proof

/-- A frame holds 0..8 data bytes (section 1.1). -/
def Frame.wf (f : Frame) : Bool := f.data.length ≤ 8

/-- A request frame holds its code, its tag and at most six argument bytes (section 9.1). -/
def Request.wf (r : Request) : Bool := r.args.length ≤ 6

/-- The codes of the twelve known requests (section 11.1). -/
def knownCode (c : Byte) : Bool := 1#8 ≤ c && c ≤ 12#8

/-- A reading of the supply sense lies in 0..400 (0.1 V, section 10.1). -/
def supplyWf (v : Nat) : Bool := v ≤ 400

/-- A list of blocks is an order of the five blocks when each occurs once (R56). -/
def orderWf (o : List Block) : Bool :=
  o.length = 5 && [Block.wheel, .load, .composer, .stability, .power].all (fun b => b ∈ o)

/-- The well-formed commands. An ill-formed one cannot come from the part's lines. -/
def Instr.wf : Instr → Bool
  | .frameReceived _ f _ => f.wf
  | .presenceTimerExpiry _ => true
  | .linkReportTransmitted _ _ => true
  | .linkReportNotSent _ _ => true
  | .discoveryTimerExpiry => true
  | .warnTimerExpiry => true
  | .statusTimerExpiry => true
  | .tyreTimerExpiry => true
  | .periodTimerExpiry o => orderWf o
  | .responseListReturn _ o => orderWf o
  | .stationaryTimerExpiry => true
  | .demandTimerExpiry => true
  | .testWindowExpiry => true
  | .spacingTimerExpiry => true
  | .recoverTimerExpiry => true
  | .telegramDelivered _ => true
  | .telegramTaken => true
  | .missingTimerExpiry pos => pos < 16
  | .learnTimerExpiry => true
  | .lampBlinkToggle => true
  | .identify r => r.wf
  | .read r => r.wf
  | .enterService r => r.wf
  | .leaveService r => r.wf
  | .stage r => r.wf
  | .commit r => r.wf
  | .discard r => r.wf
  | .clearIncidents r => r.wf
  | .learnTyre r => r.wf
  | .cancelLearn r => r.wf
  | .serviceTest r => r.wf
  | .restart r => r.wf
  | .unknownRequest c r => !knownCode c && r.wf
  | .serviceIdleTimerExpiry => true
  | .restartDelayExpiry => true
  | .storeWriteSucceeded => true
  | .storeWriteFailed => true
  | .coldStart v _ => supplyWf v
  | .linkPowerOff v => supplyWf v
  | .linkPowerOn => true
  | .settleTimerExpiry => true
  | .parkTimerExpiry => true
  | .wakeTimerExpiry => true
  | .wakeLineAsserted => true
  | .listenTimerExpiry => true
  | .batterySampleTimerExpiry v => supplyWf v
  | .serviceTestTimerExpiry ch => 1 ≤ ch && ch ≤ 6

end Sys2Proof
end

