-- ==== Sys2Proof/Machine/Management.lean ====
section
/-! DEFINITION. The management unit: requests and responses (R161, R162), READ and STAGE (R163, R166), service mode (R164,
R165), COMMIT and the store (R168 to R170), and RESTART (R171). -/

namespace Sys2Proof.Machine

/-! ### Responses and the common checks (R161, R162) -/

/-- A response frame's data: code, tag, result, data (section 11.1). -/
def responseFrame (s : State) (code tag : Byte) (origin : BitVec 3) (res : Result) (data : List Byte) : Frame :=
  ownFrame s clsMgmtRsp origin ([code, tag, BitVec.ofNat 8 res.code] ++ data)

/-- A response is enqueued to the port its request arrived on (R19, R162). -/
def respond (code : Byte) (r : Request) (res : Result) (data : List Byte) (s : State) : State :=
  enqueue r.port .general (responseFrame s code r.tag r.origin res data) s

/-- While service mode is active a request restarts the idle timer with 300 s (R161). -/
def touchIdle (s : State) : State := if s.inService then s.updMgmt fun m => { m with idle := some 300000 } else s

/-- The second check of R161: a store write is in progress or a restart is pending. -/
def busy (s : State) : Bool := s.storeWriting || s.mgmt.restartPending

/-- A request is taken only in RUN and with the six argument bytes a frame can carry. -/
def takes (r : Request) (s : State) : Bool := s.inRun && r.wf

/-- The checks of R161 before a request's own: `exempt` for IDENTIFY and READ, `need` the argument bytes it needs. -/
def manage (code : Byte) (need : Nat) (exempt : Bool) (act : State → State) (r : Request) (s : State) : State :=
  if takes r s then
    let s := touchIdle s
    if !exempt && busy s then respond code r .busy [] s
    else if r.args.length < need then respond code r .badValue [] s
    else act s
  else s

/-- Argument byte `i` as a number. -/
def argByte (r : Request) (i : Nat) : Nat := beAt r.args i 1

/-! ### IDENTIFY and READ (R163) -/

/-- The data of IDENTIFY: part code 0x34, revision 0x01, own position or 7, generation (section 11.1). -/
def identifyData (s : State) : List Byte := [0x34#8, 0x01#8] ++ beBytes 1 (ownCode s) ++ beBytes 2 s.generation.toNat

/-- IDENTIFY (R163). -/
def doIdentify (r : Request) (s : State) : State :=
  manage 1#8 0 true (fun s => respond 1#8 r .done (identifyData s) s) r s

/-- The address of READ and STAGE: kind, index and offset (R185). -/
def addressOf (args : List Byte) : Nat × Nat × Nat := (beAt args 0 2 / 4096, beAt args 0 2 / 64 % 64, beAt args 0 2 % 64)

/-- A kind and index READ may return: in the table of R163, and for an incident, held in the list. -/
def readExists (s : State) (k : RecKind) (i : Nat) : Bool :=
  readable k i && !(k = .incident && i ≤ 15 && s.incidents.length ≤ i)

/-- A view READ may not take: the shadow of a kind with configuration fields, while service mode is not active (R163). -/
def shadowMissing (s : State) (k : RecKind) (view : Nat) : Bool := view = 1 && k.hasConfig && s.mgmt.shadow.isNone

/-- The image a view names. -/
def viewImage (s : State) (view : Nat) : Image := if view = 1 then s.mgmt.shadow.getD s.active else s.active

/-- READ's answer from the offset of an addressed record (R163). -/
def readFrom (s : State) (k : RecKind) (i off view : Nat) : Result × List Byte :=
  let b := recordBytes (viewImage s view) s k i
  if b.length ≤ off then (.badAddress, []) else (.done, (b.drop off).take 5)

/-- READ's answer: view, kind and index, shadow, offset in this order (R163, log entry 18). -/
def readAnswer (s : State) (args : List Byte) : Result × List Byte :=
  let a := addressOf args
  let view := beAt args 2 1
  if 1 < view then (.badValue, [])
  else
    match RecKind.ofCode a.1 with
    | none => (.badAddress, [])
    | some k =>
      if !readExists s k a.2.1 then (.badAddress, [])
      else if shadowMissing s k view then (.notInService, [])
      else readFrom s k a.2.1 a.2.2 view

/-- READ (R163). -/
def doRead (r : Request) (s : State) : State :=
  manage 2#8 3 true (fun s => respond 2#8 r (readAnswer s r.args).1 (readAnswer s r.args).2 s) r s

/-! ### Service mode (R164, R167) -/

/-- Service mode starts: the shadow is a copy of the active image, the dirty flag clears, the idle timer starts (R164). -/
def startService (s : State) : State :=
  s.updMgmt fun m => { m with shadow := some s.active, dirty := false, idle := some 300000 }

/-- ENTER_SERVICE (R164). -/
def doEnterService (r : Request) (s : State) : State :=
  manage 3#8 0 false (fun s =>
    if !s.wheel.stationary then respond 3#8 r .refusedMoving [] s
    else respond 3#8 r .done [] (if s.inService then s else startService s)) r s

/-- LEAVE_SERVICE (R164, R165). -/
def doLeaveService (r : Request) (s : State) : State :=
  manage 4#8 0 false (fun s =>
    if s.inService then respond 4#8 r .done [BitVec.ofNat 8 (bit s.mgmt.dirty)] (endService s)
    else respond 4#8 r .notInService [] s) r s

/-- DISCARD (R167). -/
def doDiscard (r : Request) (s : State) : State :=
  manage 7#8 0 false (fun s =>
    if s.inService then respond 7#8 r .done [] (s.updMgmt fun m => { m with shadow := some s.active, dirty := false })
    else respond 7#8 r .notInService [] s) r s

/-- The CLOSED records leave the list and the overflow flag clears (R143, R167). -/
def clearIncidents (s : State) : State :=
  { s with incidents := s.incidents.filter (·.closed.isNone) }.updTyre fun t => { t with overflow := false }

/-- CLEAR_INCIDENTS (R167). -/
def doClearIncidents (r : Request) (s : State) : State :=
  manage 11#8 0 false (fun s =>
    if s.inService then respond 11#8 r .done [] (clearIncidents s) else respond 11#8 r .notInService [] s) r s

/-! ### STAGE (R166) -/

/-- STAGE's effect on a shadow: its result, and the shadow that follows (R166). -/
def stageInto (img : Image) (args : List Byte) : Result × Image :=
  let a := addressOf args
  let data := args.drop 2
  match RecKind.ofCode a.1 with
  | none => (.badAddress, img)
  | some k =>
    if !stageable k a.2.1 then (.badAddress, img)
    else
      match fieldsWritten (configLayout img k a.2.1) a.2.2 data.length with
      | none => (.badAddress, img)
      | some fs =>
        if valuesOk fs data then
          (.done, setConfigBytes img k a.2.1 (splice (configBytes img k a.2.1) a.2.2 data))
        else (.badValue, img)

/-- A shadow staged in service mode: the dirty flag sets (R166). -/
def stageShadow (img : Image) (r : Request) (s : State) : State :=
  match stageInto img r.args with
  | (.done, img') => respond 5#8 r .done [] (s.updMgmt fun m => { m with shadow := some img', dirty := true })
  | (res, _) => respond 5#8 r res [] s

/-- STAGE (R166). -/
def doStage (r : Request) (s : State) : State :=
  manage 5#8 3 false (fun s =>
    match s.mgmt.shadow with
    | none => respond 5#8 r .notInService [] s
    | some img => stageShadow img r s) r s

/-! ### COMMIT (R168) -/

/-- A shadow that passes becomes the image being written, and the request the in-progress request (R162, R168). -/
def beginCommit (img : Image) (r : Request) (s : State) : State :=
  s.updMgmt fun m =>
    { m with writing := some { image := img, generation := s.generation + 1, commit := true },
             inProgress := some { tag := r.tag, port := r.port, origin := r.origin } }

/-- COMMIT of a shadow while stationary (R168). -/
def commitShadow (img : Image) (r : Request) (s : State) : State :=
  match firstFailure img with
  | some f => respond 6#8 r .invalid (beBytes 1 f.1.code ++ beBytes 1 f.2) s
  | none => beginCommit img r s

/-- COMMIT (R168). -/
def doCommit (r : Request) (s : State) : State :=
  manage 6#8 0 false (fun s =>
    match s.mgmt.shadow with
    | none => respond 6#8 r .notInService [] s
    | some img => if !s.wheel.stationary then respond 6#8 r .refusedMoving [] s else commitShadow img r s) r s

/-! ### Requests handed to other blocks (R113, R156, R158, R167) -/

/-- The result of LEARN_TYRE for a position and ID field code (R156). -/
def learnResult (s : State) (i field : Nat) : Result :=
  if s.storeWriting || s.tyre.learn.isSome then .busy
  else if !s.wheel.stationary then .refusedMoving
  else if 15 < i || !(s.active.tyre i).configured then .badAddress
  else if 1 < field then .badValue
  else .done

/-- The ID field of a code. -/
def IdChoice.ofCode (n : Nat) : IdChoice := if n = 0 then .primary else .alternate

/-- LEARN_TYRE (R156). -/
def doLearnTyre (r : Request) (s : State) : State :=
  manage 8#8 2 false (fun s =>
    match learnResult s (argByte r 0) (argByte r 1) with
    | .done => respond 8#8 r .done [] (startLearn (argByte r 0) (IdChoice.ofCode (argByte r 1)) s)
    | res => respond 8#8 r res [] s) r s

/-- CANCEL_LEARN (R158). -/
def doCancelLearn (r : Request) (s : State) : State :=
  manage 9#8 0 false (fun s => respond 9#8 r .done [] (endLearn s)) r s

/-- The result of SERVICE_TEST (R113). -/
def serviceTestResult (s : State) (c pressure duration : Nat) : Result :=
  if s.storeWriting then .busy
  else if !s.inService then .notInService
  else if !s.wheel.stationary then .refusedMoving
  else if !(within 1 6 c && channelExists s c) then .badAddress
  else if pMaxOf s c < pressure || !within 100 10000 duration then .badValue
  else .done

/-- SERVICE_TEST (R113, R114). -/
def doServiceTest (r : Request) (s : State) : State :=
  manage 10#8 5 false (fun s =>
    match serviceTestResult s (argByte r 0) (beAt r.args 1 2) (beAt r.args 3 2) with
    | .done => respond 10#8 r .done [] (startTest (argByte r 0) (beAt r.args 1 2) (beAt r.args 3 2) s)
    | res => respond 10#8 r res [] s) r s

/-! ### RESTART (R171) -/

/-- The response to an accepted RESTART, marked in its queue (R171). -/
def enqueueRestart (r : Request) (s : State) : State :=
  s.updPort r.port (·.enqueue .general { frame := responseFrame s 12#8 r.tag r.origin .done [], restart := true })

/-- A RESTART in service mode: the restart is pending, and begins at once when the response is discarded (R171). -/
def acceptRestart (r : Request) (s : State) : State :=
  let taken := (s.port r.port).accepts
  let s := enqueueRestart r (s.updMgmt fun m => { m with restartPending := true, restartTimer := some 200 })
  if taken then s else triggerRestart s

/-- RESTART (R171). -/
def doRestart (r : Request) (s : State) : State :=
  manage 12#8 0 false (fun s =>
    if s.inService then acceptRestart r s else respond 12#8 r .notInService [] s) r s

/-! ### The store's reports (R169, R170) -/

/-- The in-progress COMMIT is answered and becomes absent (R162, R169, R170). -/
def answerCommit (res : Result) (data : List Byte) (s : State) : State :=
  match s.mgmt.inProgress with
  | none => s
  | some q =>
    (respond 6#8 { port := q.port, origin := q.origin, tag := q.tag, args := [] } res data s).updMgmt
      fun m => { m with inProgress := none }

/-- The write in progress ends (R169, R170). -/
def endWrite (s : State) : State := s.updMgmt fun m => { m with writing := none }

/-- A pending follow-on write begins (R170). -/
def followOn (s : State) : State :=
  if s.mgmt.followOn then beginLearnWrite (s.updMgmt fun m => { m with followOn := false }) else s

/-- After a report: a restart that awaited it begins, otherwise a pending follow-on write does (R170, R171). -/
def afterReport (s : State) : State := if s.mgmt.restartDue then beginRestart s else followOn s

/-- The store holds what was written, and every OPEN STORE_WRITE_FAILED record closes (R170). -/
def written (w : Writing) (s : State) : State :=
  closeKind .storeWriteFailed
    { s with store := { image := w.image, generation := w.generation, crcOk := true } }

/-- The active image becomes the image that was written: generation, hit counts, CONFIG_INVALID, shadow (R169). -/
def swapImage (w : Writing) (s : State) : State :=
  closeKind .storeInvalid
    { s with
      active := w.image, generation := w.generation, hits := List.replicate 64 0, configInvalid := false
      mgmt := { s.mgmt with shadow := s.mgmt.shadow.map (fun _ => w.image), dirty := false } }

/-- The chain was unconfigured and the settle timer has expired in RUN: the swap starts it at once (R43). -/
def startsAtSwap (s : State) : Bool := s.inRun && s.power.settle.isNone && s.chain.period.isNone

/-- The blocks apply the new image at the swap (R43, R88, R116, R119, R159), in an order that R169 leaves open: DESIGN
CHOICE, log entry 23. -/
def swapBlocks (before : Image) (s : State) : State :=
  let s := applySwap before (stabilitySwap s)
  if startsAtSwap s then startChain true s else s

/-- Out of RUN the blocks keep what they hold until their own events next reach them (R176). -/
def holdSwap (before : Image) (s : State) : State := { s with unapplied := some (s.unapplied.getD before) }

/-- The store reports that the write of a commit succeeded (R169): in RUN the blocks apply the swap within this event,
after the management unit's own effects (log entry 23). -/
def commitSucceeded (w : Writing) (s : State) : State :=
  let t := answerCommit .done [] (endWrite (swapImage w (written w s)))
  if s.inRun then swapBlocks s.active t else holdSwap s.active t

/-- STORE_WRITE_SUCCEEDED (R169, R170). -/
def writeSucceeded (s : State) : State :=
  match s.mgmt.writing with
  | none => s
  | some w => afterReport (if w.commit then commitSucceeded w s else endWrite (written w s))

/-- The store's content fails its CRC after a failed write (R170). -/
def spoilStore (s : State) : State := { s with store := { s.store with crcOk := false } }

/-- STORE_WRITE_FAILED (R170). -/
def writeFailed (s : State) : State :=
  match s.mgmt.writing with
  | none => s
  | some w =>
    let s := endWrite (spoilStore s)
    afterReport (
      if w.commit then openIncident .storeWriteFailed 1 (answerCommit .invalid [0xFF#8, 0xFF#8] s)
      else openIncident .storeWriteFailed 2 s)

/-! ### Unknown codes (R161) -/

/-- A request whose code is none of the twelve is answered UNKNOWN and changes nothing else (R161). -/
def doUnknown (code : Byte) (r : Request) (s : State) : State :=
  if takes r s && !knownCode code then respond code r .unknown [] s else s

/-! ### Meanings -/

/-- IDENTIFY (R163). -/
def execIdentify (r : Request) (s : State) : Host.Outcome State Fault Refusal := .next (doIdentify r s)

/-- READ (R163). -/
def execRead (r : Request) (s : State) : Host.Outcome State Fault Refusal := .next (doRead r s)

/-- ENTER_SERVICE (R164). -/
def execEnterService (r : Request) (s : State) : Host.Outcome State Fault Refusal := .next (doEnterService r s)

/-- LEAVE_SERVICE (R164). -/
def execLeaveService (r : Request) (s : State) : Host.Outcome State Fault Refusal := .next (doLeaveService r s)

/-- STAGE (R166). -/
def execStage (r : Request) (s : State) : Host.Outcome State Fault Refusal := .next (doStage r s)

/-- COMMIT (R168). -/
def execCommit (r : Request) (s : State) : Host.Outcome State Fault Refusal := .next (doCommit r s)

/-- DISCARD (R167). -/
def execDiscard (r : Request) (s : State) : Host.Outcome State Fault Refusal := .next (doDiscard r s)

/-- CLEAR_INCIDENTS (R167). -/
def execClearIncidents (r : Request) (s : State) : Host.Outcome State Fault Refusal := .next (doClearIncidents r s)

/-- LEARN_TYRE (R156). -/
def execLearnTyre (r : Request) (s : State) : Host.Outcome State Fault Refusal := .next (doLearnTyre r s)

/-- CANCEL_LEARN (R158). -/
def execCancelLearn (r : Request) (s : State) : Host.Outcome State Fault Refusal := .next (doCancelLearn r s)

/-- SERVICE_TEST (R113). -/
def execServiceTest (r : Request) (s : State) : Host.Outcome State Fault Refusal := .next (doServiceTest r s)

/-- RESTART (R171). -/
def execRestart (r : Request) (s : State) : Host.Outcome State Fault Refusal := .next (doRestart r s)

/-- UNKNOWN_REQUEST (R161). -/
def execUnknownRequest (code : Byte) (r : Request) (s : State) : Host.Outcome State Fault Refusal :=
  .next (doUnknown code r s)

/-- SERVICE_IDLE_TIMER_EXPIRY (R165). -/
def execServiceIdleTimerExpiry (s : State) : Host.Outcome State Fault Refusal := .next (onExpiry s.mgmt.idle endService s)

/-- STORE_WRITE_SUCCEEDED (R169). -/
def execStoreWriteSucceeded (s : State) : Host.Outcome State Fault Refusal := .next (writeSucceeded s)

/-- STORE_WRITE_FAILED (R170). -/
def execStoreWriteFailed (s : State) : Host.Outcome State Fault Refusal := .next (writeFailed s)

end Sys2Proof.Machine
end

