-- ==== Sys2Proof/Machine/Links.lean ====
section
/-! DEFINITION. The links: frames received, classified, relayed and handed to their consumers (R1, R21 to R40), the presence
timers (R2), and the links' reports (R7, R8). -/

namespace Sys2Proof.Machine

/-! ### The DEMAND consumer (R98 to R100) -/

/-- The sequence does not follow the recorded one (R99). -/
def sequenceGap (old : Option Demand) (new : Demand) : Bool :=
  match old with
  | none => false
  | some d => new.seq ≠ d.seq + 1

/-- An accepted demand: gap count, record, timer, effective demand and mode (R99, R100, R101, R103). -/
def acceptDemand (d : Demand) (s : State) : State :=
  reestablish (s.updComposer fun c =>
    { c with gaps := if sequenceGap c.demand d then satSucc 65535 c.gaps else c.gaps, demand := some d,
             timer := some s.active.tuning.demandTimeout })

/-- The composer takes a DEMAND handed to it (R98). -/
def consumeDemand (p : Port) (d : List Byte) (s : State) : State :=
  match parseDemand p s.time d with
  | none => s
  | some x => acceptDemand x s

/-! ### The MANAGEMENT consumer (R161) -/

/-- A request by its code (section 11.1). -/
def takeRequest (code : Byte) (r : Request) (s : State) : State :=
  if code = 1#8 then doIdentify r s
  else if code = 2#8 then doRead r s
  else if code = 3#8 then doEnterService r s
  else if code = 4#8 then doLeaveService r s
  else if code = 5#8 then doStage r s
  else if code = 6#8 then doCommit r s
  else if code = 7#8 then doDiscard r s
  else if code = 8#8 then doLearnTyre r s
  else if code = 9#8 then doCancelLearn r s
  else if code = 10#8 then doServiceTest r s
  else if code = 11#8 then doClearIncidents r s
  else if code = 12#8 then doRestart r s
  else doUnknown code r s

/-- The management unit takes a MGMT_REQ handed to it and handles it whole; fewer than 2 data bytes are ignored (R161). -/
def consumeRequest (p : Port) (f : Frame) (s : State) : State :=
  match f.data with
  | code :: tag :: args => takeRequest code { port := p, origin := f.origin, tag := tag, args := args } s
  | _ => s

/-! ### Applying an action (R35, R36) -/

/-- The hand-off to the named consumer, when the frame's class is the one it takes (R36). -/
def handOff (p : Port) (f : Frame) (c : Consumer) (s : State) : State :=
  match c with
  | .demand => if f.cls = clsDemand then consumeDemand p f.data s else s
  | .discovery => if f.cls = clsDiscover then discoverConsume p f.data s else s
  | .management => if f.cls = clsMgmtReq then consumeRequest p f s else s
  | .none => s
  | .keep => s

/-- The hand-off that a disposition makes. -/
def applyHandOff (p : Port) (f : Frame) (a : Action) (s : State) : State :=
  if a.disposition.hands then handOff p f a.consumer s else s

/-- The pass that a disposition makes. -/
def applyPass (p : Port) (f : Frame) (a : Action) (s : State) : State :=
  if a.disposition.passes then passFrame p f a s else s

/-- The assembled action is applied; under COPY the two are not ordered, and the command carries the order (R35, log
entry 3). -/
def applyAction (p : Port) (f : Frame) (a : Action) (o : CopyOrder) (s : State) : State :=
  match o with
  | .passFirst => applyHandOff p f a (applyPass p f a s)
  | .handOffFirst => applyPass p f a (applyHandOff p f a s)

/-! ### Reception (R1, R15) -/

/-- The port's own work at a reception (R1). -/
def receiveAt (p : Port) (s : State) : State :=
  s.updPort p fun ps =>
    { ps with present := true, lastReception := some s.time, presence := some (s.active.port p).timeout }

/-- Port A's partner becoming present starts the warn, status and tyre timers (R12). -/
def startIfNew (p : Port) (present : Bool) (s : State) : State := if p = .A && !present then startReports s else s

/-- A WARN of at least 3 data bytes received on port B is heard (R15). -/
def hearWarn (p : Port) (f : Frame) (s : State) : State :=
  if p = .B && f.cls = clsWarn && 3 ≤ f.data.length then s.updRelay fun r => { r with warnHeard := some s.time } else s

/-- The state in which a received frame's key is built. -/
def received (p : Port) (f : Frame) (s : State) : State :=
  hearWarn p f (startIfNew p (s.port p).present (receiveAt p s))

/-- The frame is classified and its action applied (R30 to R38). -/
def classify (p : Port) (f : Frame) (o : CopyOrder) (s : State) : State :=
  let l := lookup s.active p (buildKey s p f)
  applyAction p f l.1 o (countHits l.2 s)

/-- A link delivers a frame: only in RUN, and with at most 8 data bytes (R1). -/
def receiveFrame (p : Port) (f : Frame) (o : CopyOrder) (s : State) : State :=
  if s.inRun && f.wf then classify p f o (received p f s) else s

/-! ### Presence (R2) -/

/-- The partner is lost: the flag clears, the queues are flushed, the last-reception time is kept (R2, R3). -/
def PortState.lose (ps : PortState) : PortState := { ps.flush with present := false, presence := none }

/-- What the relay loses with a port's partner (R2, R10, R12, R15). -/
def relayLoses (p : Port) (s : State) : State :=
  match p with
  | .A => stopReports (unplace s)
  | .B => s.updRelay fun r => { r with warnHeard := none }

/-- The presence timer has run out; a flush of the response to a RESTART begins the restart (R2, R171). -/
def presenceExpired (p : Port) (s : State) : State :=
  let t := relayLoses p (s.updPort p PortState.lose)
  if (s.port p).holdsRestart then triggerRestart t else t

/-! ### Reports (R3, R7, R8) -/

/-- The frame on offer at a port is the response to a RESTART. -/
def PortState.offersRestart (ps : PortState) : Bool :=
  match ps.onOffer with
  | none => false
  | some q => q.restart

/-- The link reports the frame on offer TRANSMITTED; the response to a RESTART then begins the restart (R7, R171). -/
def reportTransmitted (p : Port) (s : State) : State :=
  let t := s.updPort p PortState.transmitted
  if (s.port p).offersRestart then triggerRestart t else t

/-! ### Meanings -/

/-- FRAME_RECEIVED (R1). -/
def execFrameReceived (p : Port) (f : Frame) (o : CopyOrder) (s : State) : Host.Outcome State Fault Refusal :=
  .next (receiveFrame p f o s)

/-- PRESENCE_TIMER_EXPIRY (R2). -/
def execPresenceTimerExpiry (p : Port) (s : State) : Host.Outcome State Fault Refusal :=
  .next (onExpiry (s.port p).presence (presenceExpired p) s)

/-- LINK_REPORT_TRANSMITTED (R7): a report on a frame that a flush removed is disregarded (R3). -/
def execLinkReportTransmitted (p : Port) (r : ReportOn) (s : State) : Host.Outcome State Fault Refusal :=
  .next (if r = .onOffer then reportTransmitted p s else s)

/-- LINK_REPORT_NOT_SENT (R7, R8): a report on a frame that a flush removed is disregarded (R3). -/
def execLinkReportNotSent (p : Port) (r : ReportOn) (s : State) : Host.Outcome State Fault Refusal :=
  .next (if r = .onOffer then s.updPort p PortState.notSent else s)

end Sys2Proof.Machine
end

