-- ==== Sys2Proof/Machine/Dispatch.lean ====
section
/-! DEFINITION. The meaning of every command: one arm per constructor of Instr. -/

namespace Sys2Proof.Machine

/-- A command's effect on everything but the queue of commands. -/
def exec (i : Instr) (s : State) : Host.Outcome State Fault Refusal :=
  match i with
  | .frameReceived p f o => Sys2Proof.Machine.execFrameReceived p f o s
  | .presenceTimerExpiry p => Sys2Proof.Machine.execPresenceTimerExpiry p s
  | .linkReportTransmitted p r => Sys2Proof.Machine.execLinkReportTransmitted p r s
  | .linkReportNotSent p r => Sys2Proof.Machine.execLinkReportNotSent p r s
  | .discoveryTimerExpiry => Sys2Proof.Machine.execDiscoveryTimerExpiry s
  | .warnTimerExpiry => Sys2Proof.Machine.execWarnTimerExpiry s
  | .statusTimerExpiry => Sys2Proof.Machine.execStatusTimerExpiry s
  | .tyreTimerExpiry => Sys2Proof.Machine.execTyreTimerExpiry s
  | .periodTimerExpiry o => Sys2Proof.Machine.execPeriodTimerExpiry o s
  | .responseListReturn l o => Sys2Proof.Machine.execResponseListReturn l o s
  | .stationaryTimerExpiry => Sys2Proof.Machine.execStationaryTimerExpiry s
  | .demandTimerExpiry => Sys2Proof.Machine.execDemandTimerExpiry s
  | .testWindowExpiry => Sys2Proof.Machine.execTestWindowExpiry s
  | .spacingTimerExpiry => Sys2Proof.Machine.execSpacingTimerExpiry s
  | .recoverTimerExpiry => Sys2Proof.Machine.execRecoverTimerExpiry s
  | .telegramDelivered b => Sys2Proof.Machine.execTelegramDelivered b s
  | .telegramTaken => Sys2Proof.Machine.execTelegramTaken s
  | .missingTimerExpiry pos => Sys2Proof.Machine.execMissingTimerExpiry pos s
  | .learnTimerExpiry => Sys2Proof.Machine.execLearnTimerExpiry s
  | .lampBlinkToggle => Sys2Proof.Machine.execLampBlinkToggle s
  | .identify r => Sys2Proof.Machine.execIdentify r s
  | .read r => Sys2Proof.Machine.execRead r s
  | .enterService r => Sys2Proof.Machine.execEnterService r s
  | .leaveService r => Sys2Proof.Machine.execLeaveService r s
  | .stage r => Sys2Proof.Machine.execStage r s
  | .commit r => Sys2Proof.Machine.execCommit r s
  | .discard r => Sys2Proof.Machine.execDiscard r s
  | .clearIncidents r => Sys2Proof.Machine.execClearIncidents r s
  | .learnTyre r => Sys2Proof.Machine.execLearnTyre r s
  | .cancelLearn r => Sys2Proof.Machine.execCancelLearn r s
  | .serviceTest r => Sys2Proof.Machine.execServiceTest r s
  | .restart r => Sys2Proof.Machine.execRestart r s
  | .unknownRequest c r => Sys2Proof.Machine.execUnknownRequest c r s
  | .serviceIdleTimerExpiry => Sys2Proof.Machine.execServiceIdleTimerExpiry s
  | .restartDelayExpiry => Sys2Proof.Machine.execRestartDelayExpiry s
  | .storeWriteSucceeded => Sys2Proof.Machine.execStoreWriteSucceeded s
  | .storeWriteFailed => Sys2Proof.Machine.execStoreWriteFailed s
  | .coldStart v l => Sys2Proof.Machine.execColdStart v l s
  | .linkPowerOff v => Sys2Proof.Machine.execLinkPowerOff v s
  | .linkPowerOn => Sys2Proof.Machine.execLinkPowerOn s
  | .settleTimerExpiry => Sys2Proof.Machine.execSettleTimerExpiry s
  | .parkTimerExpiry => Sys2Proof.Machine.execParkTimerExpiry s
  | .wakeTimerExpiry => Sys2Proof.Machine.execWakeTimerExpiry s
  | .wakeLineAsserted => Sys2Proof.Machine.execWakeLineAsserted s
  | .listenTimerExpiry => Sys2Proof.Machine.execListenTimerExpiry s
  | .batterySampleTimerExpiry v => Sys2Proof.Machine.execBatterySampleTimerExpiry v s
  | .serviceTestTimerExpiry c => Sys2Proof.Machine.execServiceTestTimerExpiry c s

end Sys2Proof.Machine
end

