-- ==== Sys2Proof/Safety.lean ====
section
/-! DEFINITION. What the claims speak of: which parts of the state a command leaves alone, and the conditions that every
step keeps. -/

namespace Sys2Proof.Machine

/-! ### Frames -/

/-- The parts of the state: its fields. -/
inductive Part where
  | time | active | generation | configInvalid | store | incidents | portA | portB | relay | hits | chain | wheel
  | channels | load | composer | stability | tyre | mgmt | power | unapplied | pending
  deriving DecidableEq, Repr

/-- Two states hold the same in a part. -/
def State.agreeOn (s t : State) : Part → Prop
  | .time => t.time = s.time
  | .active => t.active = s.active
  | .generation => t.generation = s.generation
  | .configInvalid => t.configInvalid = s.configInvalid
  | .store => t.store = s.store
  | .incidents => t.incidents = s.incidents
  | .portA => t.portA = s.portA
  | .portB => t.portB = s.portB
  | .relay => t.relay = s.relay
  | .hits => t.hits = s.hits
  | .chain => t.chain = s.chain
  | .wheel => t.wheel = s.wheel
  | .channels => t.channels = s.channels
  | .load => t.load = s.load
  | .composer => t.composer = s.composer
  | .stability => t.stability = s.stability
  | .tyre => t.tyre = s.tyre
  | .mgmt => t.mgmt = s.mgmt
  | .power => t.power = s.power
  | .unapplied => t.unapplied = s.unapplied
  | .pending => t.pending = s.pending

/-- From s to t every part is unchanged but those listed. -/
def SameBut (changed : List Part) (s t : State) : Prop := ∀ p, p ∉ changed → s.agreeOn t p

/-! ### Conditions that every step keeps -/

/-- A port's queues keep their bounds, an absent partner's queues are empty, and a frame is on offer exactly while a queue
holds one, from a queue that holds one (R3 to R7). -/
structure PortWf (ps : PortState) : Prop where
  safety   : ps.safety.length ≤ 8
  general  : ps.general.length ≤ 24
  discards : ps.discards ≤ 65535
  absent   : ps.present = false → ps.safety = [] ∧ ps.general = []
  idle     : ps.offer = none ↔ ps.safety = [] ∧ ps.general = []
  offersS  : ps.offer = some .safety → ps.safety ≠ []
  offersG  : ps.offer = some .general → ps.general ≠ []

/-- Both ports keep the form of R3 to R7. -/
def PortsWf (s : State) : Prop := PortWf s.portA ∧ PortWf s.portB

/-- Two records that R173 lets no list hold together: OPEN both, of one kind and detail. -/
def Incident.clash (a b : Incident) : Prop := a.closed = none ∧ b.closed = none ∧ a.kind = b.kind ∧ a.detail = b.detail

/-- The incident list holds at most 16 records, with repeat counts of at most 255, and at most one OPEN record of a kind
and detail (R173). -/
structure IncidentsWf (s : State) : Prop where
  length  : s.incidents.length ≤ 16
  repeats : ∀ i ∈ s.incidents, i.repeats ≤ 255
  single  : s.incidents.Pairwise fun a b => ¬ a.clash b

/-- The six channels. -/
def channelNumbers : List Nat := [1, 2, 3, 4, 5, 6]

/-- The command that R57 makes of a requested command, for a channel whose node is NORMAL on a RUNNING chain. -/
def Command.limited (r : Command) (pMax : Nat) : Command :=
  match r.mode with
  | .passThrough => { mode := .passThrough, pressure := 0 }
  | .control => { mode := .control, pressure := min r.pressure pMax }

/-- An existing channel's target is composed of its requests (R108, R110), it is in FOLLOW while its target is 0 or it
passes through (R76), its requested command follows the brake mode and the command pressure (R71, R104), and its command
record follows the requested command, forced to PASS_THROUGH while its node is DEGRADED or the chain is not RUNNING, and
never above P_max (R57). -/
structure ChannelFollows (s : State) (c : Nat) : Prop where
  target    : (s.channel c).target = targetOf s c (s.channel c)
  released  : (s.channel c).target = 0 → (s.channel c).slipState = .follow
  passing   : s.composer.mode = .fallback ∨ (channelNode s c).degraded = true ∨ s.chain.health ≠ .running →
    (s.channel c).slipState = .follow
  fallback  : s.composer.mode = .fallback → (s.channel c).requested = { mode := .passThrough, pressure := 0 }
  control   : s.composer.mode ≠ .fallback →
    (s.channel c).requested = { mode := .control, pressure := commandPressure (s.channel c) }
  degraded  : (channelNode s c).degraded = true → (s.channel c).command = { mode := .passThrough, pressure := 0 }
  stopped   : s.chain.health ≠ .running → (s.channel c).command = { mode := .passThrough, pressure := 0 }
  follows   : (channelNode s c).degraded = false → s.chain.health = .running →
    (s.channel c).command = (s.channel c).requested.limited (pMaxOf s c)

/-- Every existing channel's values follow their inputs, and a channel that does not exist holds nothing (R42, R57, R71,
R104, R108, R110), but while a swap that came out of RUN waits for the blocks to apply it (R176). -/
structure ChannelsFollow (s : State) : Prop where
  six     : s.channels.length = 6
  follows : s.unapplied = none → ∀ c ∈ channelNumbers, channelExists s c = true → ChannelFollows s c
  absent  : s.unapplied = none → ∀ c ∈ channelNumbers, channelExists s c = false → s.channel c = Channel.start

/-- The laden pressure at a demand (R90). -/
def ladenPressure (r : GroupRec) (demand : Nat) : Nat := min 1000 (min 1000 demand + r.lead)

/-- The empty pressure at a demand, the product rounded (R90). -/
def emptyPressure (r : GroupRec) (demand : Nat) : Nat := (min 1000 demand * r.e + 128) / 256

/-- An existing group's load ratio, load and target follow its filtered bag pressure and the effective demand (R86 to R90). -/
structure GroupFollows (s : State) (g : Nat) : Prop where
  absent : (s.group g).pf = none → (s.group g).lam = 0
  empty  : ∀ p, (s.group g).pf = some p → p ≤ (s.active.group g).pE → (s.group g).lam = 0
  ratio  : ∀ p, (s.group g).pf = some p → (s.active.group g).pE < p →
    (s.group g).lam = min 1024 (((p - (s.active.group g).pE) * 1024 +
      ((s.active.group g).pL - (s.active.group g).pE) / 2) / ((s.active.group g).pL - (s.active.group g).pE))
  load   : (s.group g).load =
    (s.active.group g).lE + ((s.group g).lam * ((s.active.group g).lL - (s.active.group g).lE) + 512) / 1024
  none   : s.composer.effective = 0 ∨ min 1000 s.composer.effective < (s.active.group g).d0 → (s.group g).target = 0
  target : s.composer.effective ≠ 0 → (s.active.group g).d0 ≤ min 1000 s.composer.effective →
    (s.group g).target = min (s.active.group g).pMax
      (emptyPressure (s.active.group g) s.composer.effective + ((s.group g).lam *
        (ladenPressure (s.active.group g) s.composer.effective - emptyPressure (s.active.group g) s.composer.effective)
          + 512) / 1024)

/-- An existing channel's DRIVER value is its group's target derated for its tyres, and is its DRIVER request (R91, R109). -/
structure DriverFollows (s : State) (c : Nat) : Prop where
  value   : (s.channel c).driverValue =
    (s.group (groupOf c)).target * derateRatio s.active.tuning (channelSeverity s c) / 256
  request : (s.channel c).driver = some (s.channel c).driverValue

/-- The load unit's values follow their inputs; a group that does not exist holds nothing, and the total load is the sum over
the groups, saturating (R86 to R91), but while a swap that came out of RUN waits for the blocks to apply it (R176). -/
structure LoadFollows (s : State) : Prop where
  three  : s.load.groups.length = 3
  six    : s.channels.length = 6
  groups : s.unapplied = none → ∀ g ∈ [1, 2, 3], groupExists s g = true → GroupFollows s g
  absent : s.unapplied = none → ∀ g ∈ [1, 2, 3], groupExists s g = false → s.group g = GroupState.start
  total  : s.load.total = min 65535 ((s.group 1).load + (s.group 2).load + (s.group 3).load)
  driver : s.unapplied = none → ∀ c ∈ channelNumbers, channelExists s c = true → DriverFollows s c

/-- The conditions of R102 for a mode other than FALLBACK. -/
def braking (s : State) : Prop := s.power.state = .run ∧ s.chain.health = .running ∧ s.configInvalid = false

/-- The REF is NORMAL and holds a record. -/
def refServes (s : State) : Prop := refNormal s = true ∧ (refRecord s).isSome = true

/-- The brake mode is the one R102 gives, and the effective demand the one R101 gives, but while a swap that came out of RUN
waits for the blocks to apply it (R176). -/
structure ModeFollows (s : State) : Prop where
  electronic : s.unapplied = none → (s.composer.mode = .electronic ↔ braking s ∧ s.composer.timer.isSome = true)
  backup     : s.unapplied = none → (s.composer.mode = .backup ↔ braking s ∧ s.composer.timer = none ∧ refServes s)
  effective  : s.unapplied = none → s.composer.effective = max (electronicDemand s) (controlDemand s)

/-- What the stability state lets stand: STAB_TEST requests, test holds and the window timer in TEST alone, on test
channels that are in FOLLOW; STAB_INT requests in INTERVENE alone; the recover timer in RECOVER alone; a pending test in
WATCH alone (R122, R126 to R137). -/
structure StabilityWf (s : State) : Prop where
  tests    : s.stability.state ≠ .test → s.stability.testChannels = [] ∧ s.stability.window = none
  channels : ∀ c ∈ channelNumbers, (s.channel c).stabTest ≠ none ∨ (s.channel c).testHold = true →
    c ∈ s.stability.testChannels
  holds    : ∀ c ∈ channelNumbers, (s.channel c).testHold = true → (s.channel c).slipState = .follow
  lifts    : s.stability.state ≠ .intervene → ∀ c ∈ channelNumbers, (s.channel c).stabInt = none
  recovers : s.stability.state ≠ .recover → s.stability.recover = none
  pending  : s.stability.pendingTest ≠ .none → s.stability.state = .watch

/-- An image holds sixteen position records, and no sensor ID in two of their fields (R145). -/
def Image.idsOnce (img : Image) : Prop := img.tyres.length = 16 ∧ ∀ x, img.idCount x ≤ 1

/-- No sensor ID stands in two fields of the active image, or of the image that a commit is writing (R145, R157, R170). -/
structure UniqueIds (s : State) : Prop where
  active  : s.active.idsOnce
  shadow  : ∀ img, s.mgmt.shadow = some img → img.tyres.length = 16
  writing : ∀ w, s.mgmt.writing = some w → w.image.tyres.length = 16 ∧ (w.commit = true → w.image.idsOnce)
  store   : s.store.image.tyres.length = 16

/-- The power controller's timers and flags in its three states (R177 to R182); a swap waits for the blocks out of RUN alone
(R176). -/
structure PowerTimers (s : State) : Prop where
  run      : s.power.state = .run ↔ s.power.linkPower = true
  settle   : s.power.settle ≠ none → s.power.state = .run
  park     : s.power.park ≠ none → s.power.state = .parkWatch ∧ s.power.phase = .parked
  listen   : s.power.listen ≠ none → s.power.state = .parkWatch ∧ s.power.phase = .listening
  wake     : s.power.wake ≠ none → s.power.state = .sleep
  lockout  : s.power.lockout = true → s.power.state = .sleep ∧ s.power.wake = none ∧ s.power.sample = none
  swap     : s.unapplied ≠ none → s.power.state ≠ .run

/-- Out of RUN a port's partner is absent and its presence timer stopped (R20). -/
def PortRests (ps : PortState) : Prop := ps.present = false ∧ ps.presence = none

/-- What rests while the part is out of RUN: the links and the relay (R20), the chain (R60), the demand (R117), stability
(R141), a learn (R158), service mode, the in-progress request and a pending restart (R162, R165, R178). -/
structure Rests (s : State) : Prop where
  portA     : PortRests s.portA
  portB     : PortRests s.portB
  own       : s.relay.own = none
  timers    : s.relay.discovery = none ∧ s.relay.warn = none ∧ s.relay.status = none ∧ s.relay.tyre = none
  chain     : s.chain.period = none ∧ s.chain.outstanding = none ∧ s.chain.health = .starting
  demand    : s.composer.demand = none ∧ s.composer.timer = none
  stability : s.stability.state = .off
  learn     : s.tyre.learn = none
  service   : s.mgmt.shadow = none ∧ s.mgmt.inProgress = none
  restart   : s.mgmt.restartPending = false ∧ s.mgmt.restartDue = false

/-- The power controller is in one of its states, and out of RUN the rest of the part rests (R20, R60, R117, R141, R162,
R165, R171, R177 to R182). -/
structure PowerWf (s : State) : Prop where
  timers   : PowerTimers s
  rests    : s.power.state ≠ .run → Rests s
  restart  : s.mgmt.restartDue = true → s.mgmt.restartPending = true
  recovers : s.stability.recover ≠ none → s.stability.state = .recover

/-! ### Words of the claims -/

/-- The part of the state that a port is. -/
def portPart : Port → Part
  | .A => .portA
  | .B => .portB

/-- An incident of a kind and detail is OPEN (R173). -/
def HasOpen (k : IncidentKind) (d : Nat) (s : State) : Prop :=
  ∃ i ∈ s.incidents, i.kind = k ∧ i.detail = d ∧ i.closed = none

/-- The queue whose head a free transmitter puts on offer: SAFETY before GENERAL (R7). -/
def offered (safety general : List Queued) : Option QueueClass :=
  if safety ≠ [] then some .safety else if general ≠ [] then some .general else none

/-- An assembled action hands a frame of a class that arrived on a port to a consumer that takes it (R9, R35, R36). -/
def Action.delivers (a : Action) (p : Port) (cls : BitVec 5) : Bool :=
  a.disposition.hands &&
    match a.consumer with
    | .demand => cls = 0x01
    | .discovery => cls = 0x06 && p = .A
    | .management => cls = 0x10
    | .none => false
    | .keep => false

/-- A ternary pair of a value and a mask accepts a key: every mask bit that is 1 finds equal bits (R25). -/
def Ternary {w : Nat} (key value mask : BitVec w) : Prop :=
  ∀ i < w, mask.getLsbD i = true → key.getLsbD i = value.getLsbD i

/-- The twelve requests, with their codes (section 11.1). -/
def requestsOf (r : Request) : List (Byte × Instr) :=
  [(1#8, .identify r), (2#8, .read r), (3#8, .enterService r), (4#8, .leaveService r), (5#8, .stage r), (6#8, .commit r),
   (7#8, .discard r), (8#8, .learnTyre r), (9#8, .cancelLearn r), (10#8, .serviceTest r), (11#8, .clearIncidents r),
   (12#8, .restart r)]

/-- The request of a code: one of the twelve, or one with an unknown code (R161). -/
def requestOf (code : Byte) (r : Request) : Instr :=
  match (requestsOf r).find? (fun p => p.1 = code) with
  | some p => p.2
  | none => .unknownRequest code r

/-- The number of argument bytes a request needs (section 11.1). -/
def argumentsOf (code : Byte) : Nat :=
  if code = 2#8 || code = 5#8 then 3 else if code = 8#8 then 2 else if code = 10#8 then 5 else 0

/-- The queued response to a request (R19, R162): class MGMT_RSP, target the request's origin, origin own position or 7. -/
def answerTo (s : State) (code : Byte) (r : Request) (res : Result) (data : List Byte) : Queued :=
  { frame := { cls := 0x11, target := r.origin, origin := BitVec.ofNat 3 (s.relay.own.getD 7),
               data := [code, r.tag, BitVec.ofNat 8 res.code] ++ data },
    restart := false }

/-- From s to t the response went to the request's port, queue GENERAL, under R4 and R6 (R19). -/
def Answered (code : Byte) (r : Request) (res : Result) (data : List Byte) (s t : State) : Prop :=
  t.port r.port = (s.port r.port).enqueue .general (answerTo s code r res data)

/-- The management unit after a request that changes nothing else: the idle timer restarts in service mode (R161). -/
def idled (m : Mgmt) : Mgmt := if m.shadow.isSome then { m with idle := some 300000 } else m

/-- A request is taken: the part is in RUN and the frame held no more than six argument bytes. -/
def taken (s : State) (r : Request) : Prop := s.power.state = .run ∧ r.args.length ≤ 6

/-- Nothing makes a request BUSY (R161). -/
def free (s : State) : Prop := s.mgmt.writing = none ∧ s.mgmt.restartPending = false

/-- A channel at a start: with no demand and no bag pressure its DRIVER request is 0, its intervention value is the one of an
empty group, and it passes through (R78, R97, R118); a channel that does not exist holds nothing. -/
def channelAtStart (t : State) (c : Nat) : Channel :=
  if channelExists t c then
    { Channel.start with
      driver := some 0, intervention := characteristic (t.active.group (groupOf c)) 0 t.active.stab.dInt }
  else Channel.start

/-- A group at a start: no bag pressure, the empty load (R97). -/
def groupAtStart (t : State) (g : Nat) : GroupState :=
  if groupExists t g then { GroupState.start with load := (t.active.group g).lE } else GroupState.start

/-- A position at a start, by its committed fields; the missing timers stand still where a cold start enters SLEEP (R145,
R152, R160). -/
def positionAtStart (t : State) (i : Nat) : Position :=
  if (t.active.tyre i).configured = false then Position.cleared .unused none
  else if (t.active.tyre i).assigned then
    Position.cleared .awaiting (if t.power.state = .sleep then none else some (t.active.tuning.missing * 60000))
  else Position.cleared .unassigned none

/-- The part has restarted, or has started cold, with a store (R20, R41, R61, R78, R97, R118, R141, R160, R172, R176): every
block at its start values. The chain's and the channels' unstated ones are the model's (log entry 13). -/
structure Started (kept : Store) (t : State) : Prop where
  store     : t.store = kept
  valid     : kept.crcOk = true → kept.image.valid = true →
    t.active = kept.image ∧ t.generation = kept.generation ∧ t.configInvalid = false
  invalid   : kept.crcOk = false ∨ kept.image.valid = false →
    t.active = factoryImage ∧ t.generation = 0 ∧ t.configInvalid = true
  ports     : t.portA = PortState.start ∧ t.portB = PortState.start
  relay     : t.relay = Relay.start
  hits      : t.hits = List.replicate 64 0
  chain     : t.chain = Chain.start
  wheel     : t.wheel = Wheel.start
  composer  : t.composer = Composer.start
  channels  : t.channels = channelNumbers.map (channelAtStart t)
  load      : t.load.groups = [1, 2, 3].map (groupAtStart t) ∧
    t.load.total = min 65535 ((t.group 1).load + (t.group 2).load + (t.group 3).load)
  stability : t.stability = { Stability.start with
    threshold := thresholdOf t.active.stab 0 .none
    watchLevel := thresholdOf t.active.stab 0 .none * t.active.stab.w / 256
    releaseLevel := thresholdOf t.active.stab 0 .none * t.active.stab.rr / 256 }
  tyre      : t.tyre = { Tyre.start with positions := (List.range 16).map (positionAtStart t) }
  mgmt      : t.mgmt = Mgmt.start
  swap      : t.unapplied = none

/-- A pending restart has begun (R171, R183): everything starts, but the operating time goes on, every incident that was
OPEN is CLOSED, and RUN is entered. -/
structure Restarted (s t : State) : Prop where
  started : Started s.store t
  time    : t.time = s.time
  open_   : ∀ i ∈ t.incidents, i.closed = none → i.kind = .storeInvalid
  power   : t.power.state = .run ∧ t.power.settle = some t.active.tuning.settle

/-- The part has gone to SLEEP (R180): the wake timer runs unless the lockout holds, and the tyre unit sleeps (R143, R152,
R155). -/
structure Slept (t : State) : Prop where
  state : t.power.state = .sleep ∧ t.power.park = none ∧ t.power.listen = none
  wake  : t.power.wake = if t.power.lockout then none else some 600000
  tyres : t.tyre.fifo = [] ∧ t.tyre.lamp = .off ∧ ∀ q ∈ t.tyre.positions, q.missing = none

/-- The part has woken to listen (R180): the listen timer runs, and with it the missing timer of every assigned position
that is not MISSING. -/
structure Listening (t : State) : Prop where
  state  : t.power.state = .parkWatch ∧ t.power.phase = .listening
  timers : t.power.listen = some 60000 ∧ t.power.wake = none
  tyres  : ∀ i < 16, (t.active.tyre i).assigned = true → (t.position i).state ≠ .missing →
    (t.position i).missing = some (t.active.tuning.missing * 60000)

/-- Commands that may change the active image, its generation, CONFIG_INVALID or the store: a store report, a cold start, a
telegram that completes a learn, and the events at which a restart may begin (R157, R169 to R172). -/
def mayLoad : Instr → Bool
  | .storeWriteSucceeded => true
  | .storeWriteFailed => true
  | .coldStart _ _ => true
  | .telegramTaken => true
  | .restart _ => true
  | .restartDelayExpiry => true
  | .linkReportTransmitted _ _ => true
  | .presenceTimerExpiry _ => true
  | .frameReceived _ f _ => f.cls = 0x10
  | _ => false

/-- A record's bytes at an offset are those of a value (section 11.2). -/
def Shows (b : List Byte) (off : Nat) (v : List Byte) : Prop := (b.drop off).take v.length = v

/-- Two records hold the same IDs (R145, R159). -/
def TyreRec.idsAgree (a b : TyreRec) : Prop :=
  (a.primary.present = b.primary.present ∧ (a.primary.present = true → a.primary.id = b.primary.id)) ∧
    (a.alternate.present = b.alternate.present ∧ (a.alternate.present = true → a.alternate.id = b.alternate.id))

/-- A position keeps its IDs at a swap of the image `before` (last row of the table of R159). -/
def keepsIds (before now : TyreRec) : Prop := before.configured = true ∧ before.idsAgree now

/-- No learn runs on a position. -/
def learnAway (s : State) (i : Nat) : Prop := ∀ l, s.tyre.learn = some l → l.pos ≠ i

/-- The level of a position at a swap: re-evaluated from its last compensated pressure, if it has one (R159). -/
def levelAtSwap (img : Image) (i : Nat) (q : Position) : Level :=
  match q.lastP with
  | none => q.level
  | some p => nextLevel img.tuning (img.tyre i).nominal p q.level

/-- The state that a re-evaluation gives in place of a state: MISSING and AWAITING stay, and so does any state of a position
that has no last pressure (R159). -/
def stateAtSwap (img : Image) (i : Nat) (q : Position) (old : TyreState) : TyreState :=
  if q.lastP = none ∨ old = .missing ∨ old = .awaiting ∨ old = .unused ∨ old = .unassigned then old
  else deriveState q.leak (levelAtSwap img i q)

/-- From s to t position i has taken its new committed fields, as the table of R159 says; `timer` is the missing timer of a
position that starts waiting. -/
structure TookFields (before : Image) (timer : Timer) (s t : State) (i : Nat) : Prop where
  unused     : (t.active.tyre i).configured = false → t.position i = Position.cleared .unused none ∧
    (¬ learnAway s i → t.tyre.learn = none)
  unassigned : (t.active.tyre i).configured = true → (t.active.tyre i).assigned = false → learnAway s i →
    t.position i = Position.cleared .unassigned none
  awaiting   : (t.active.tyre i).assigned = true → ¬ keepsIds (before.tyre i) (t.active.tyre i) → learnAway s i →
    t.position i = Position.cleared .awaiting timer
  kept       : (t.active.tyre i).assigned = true → keepsIds (before.tyre i) (t.active.tyre i) → learnAway s i →
    t.position i = { s.position i with
      level := levelAtSwap t.active i (s.position i)
      state := stateAtSwap t.active i (s.position i) (s.position i).state }
  closed     : (t.active.tyre i).assigned = false ∨ ¬ keepsIds (before.tyre i) (t.active.tyre i) →
    ¬ HasOpen .tyreCritical i t ∧ ¬ HasOpen .tyreLeak i t ∧ ¬ HasOpen .tyreMissing i t
  learning   : ∀ l, s.tyre.learn = some l → l.pos = i → (s.position i).state = .learning →
    (t.active.tyre i).configured = true → (t.position i).state = .learning ∧
      ∃ st, t.tyre.learn = some { l with saved := st } ∧
        ((t.active.tyre i).assigned = false → st = .unassigned) ∧
        ((t.active.tyre i).assigned = true → ¬ keepsIds (before.tyre i) (t.active.tyre i) → st = .awaiting) ∧
        ((t.active.tyre i).assigned = true → keepsIds (before.tyre i) (t.active.tyre i) →
          st = stateAtSwap t.active i (s.position i) l.saved)

/-- An image holds as many records of each kind as the manual gives it (section 9.4). -/
def Image.shaped (img : Image) : Prop :=
  img.slots.length = 60 ∧ (∀ b ∈ img.slots, b.length = 20) ∧ img.ranges.length = 4 ∧ img.groups.length = 3 ∧
    img.tyres.length = 16

end Sys2Proof.Machine
end

