-- ==== Sys2Proof/Certificates/Slice0/Obligations.lean ====
section
/-! DEFINITION. The statements put to the provers. A statement about a timer's expiry takes the timer with `r` milliseconds
left: those pass first (`elapse r s`), and the expiry's effect is told from the state then (log entry 1). -/

open Sys2Proof Sys2Proof.Machine

/-! ### The step, the queue of commands and the passing of time -/

/-- Each step takes the command at the front of the queue and runs it on the state with the queue's rest. -/
def Obligations.StepRunsTheFrontCommand : Prop :=
  ∀ (s : State) (c : Instr) (rest : List Instr),
    s.pending = c :: rest → step s = exec c { s with pending := rest }

/-- The model's choice (log entries 1 and 7): with no command waiting a step lets one millisecond pass. In r milliseconds the
operating time advances by r, every running timer runs down by r, to no less than 0, and nothing else changes; a stopped
timer has no expiry. -/
def Obligations.IdleStepAndStoppedTimers : Prop :=
  ∀ (s : State),
    (s.pending = [] → step s = .next (elapse 1 s)) ∧
    (∀ r : Nat,
      let t := elapse r s
      let down := fun x : Timer => x.map (· - r)
      t.time = s.time + BitVec.ofNat 32 r ∧
      (∀ p : Port, t.port p = { s.port p with presence := down (s.port p).presence }) ∧
      t.relay = { s.relay with
        discovery := down s.relay.discovery, warn := down s.relay.warn, status := down s.relay.status,
        tyre := down s.relay.tyre } ∧
      t.chain = { s.chain with period := down s.chain.period } ∧
      t.wheel = { s.wheel with stationaryTimer := down s.wheel.stationaryTimer } ∧
      t.channels.length = s.channels.length ∧
      (∀ c ∈ channelNumbers, t.channel c = { s.channel c with testTimer := down (s.channel c).testTimer }) ∧
      t.composer = { s.composer with timer := down s.composer.timer } ∧
      t.stability = { s.stability with
        window := down s.stability.window, spacing := down s.stability.spacing, recover := down s.stability.recover } ∧
      t.tyre = { s.tyre with
        positions := t.tyre.positions, learn := s.tyre.learn.map (fun l => { l with timer := down l.timer }),
        blink := down s.tyre.blink } ∧
      t.tyre.positions.length = s.tyre.positions.length ∧
      (∀ i ∈ List.range 16, t.position i = { s.position i with missing := down (s.position i).missing }) ∧
      t.mgmt = { s.mgmt with idle := down s.mgmt.idle, restartTimer := down s.mgmt.restartTimer } ∧
      t.power = { s.power with
        settle := down s.power.settle, park := down s.power.park, wake := down s.power.wake,
        listen := down s.power.listen, sample := down s.power.sample } ∧
      SameBut [.time, .portA, .portB, .relay, .chain, .wheel, .channels, .composer, .stability, .tyre, .mgmt, .power] s t) ∧
    (s.relay.discovery = none → exec .discoveryTimerExpiry s = .next s) ∧
    (s.relay.warn = none → exec .warnTimerExpiry s = .next s) ∧
    (s.relay.status = none → exec .statusTimerExpiry s = .next s) ∧
    (s.relay.tyre = none → exec .tyreTimerExpiry s = .next s) ∧
    (∀ p ∈ [Port.A, Port.B], (s.port p).presence = none → exec (.presenceTimerExpiry p) s = .next s) ∧
    (∀ o : List Block, s.chain.period = none → exec (.periodTimerExpiry o) s = .next s) ∧
    (s.wheel.stationaryTimer = none → exec .stationaryTimerExpiry s = .next s) ∧
    (s.composer.timer = none → exec .demandTimerExpiry s = .next s) ∧
    (s.stability.window = none → exec .testWindowExpiry s = .next s) ∧
    (s.stability.spacing = none → exec .spacingTimerExpiry s = .next s) ∧
    (s.stability.recover = none → exec .recoverTimerExpiry s = .next s) ∧
    (∀ i ∈ List.range 16, (s.position i).missing = none → exec (.missingTimerExpiry i) s = .next s) ∧
    (s.tyre.learn = none → exec .learnTimerExpiry s = .next s) ∧
    (s.tyre.blink = none → exec .lampBlinkToggle s = .next s) ∧
    (s.mgmt.idle = none → exec .serviceIdleTimerExpiry s = .next s) ∧
    (s.mgmt.restartTimer = none → exec .restartDelayExpiry s = .next s) ∧
    (s.power.settle = none → exec .settleTimerExpiry s = .next s) ∧
    (s.power.park = none → exec .parkTimerExpiry s = .next s) ∧
    (s.power.wake = none → exec .wakeTimerExpiry s = .next s) ∧
    (s.power.listen = none → exec .listenTimerExpiry s = .next s) ∧
    (∀ v : Nat, s.power.sample = none → exec (.batterySampleTimerExpiry v) s = .next s) ∧
    (∀ c ∈ channelNumbers, (s.channel c).testTimer = none → exec (.serviceTestTimerExpiry c) s = .next s)

/-! ### Conditions that every step keeps -/

/-- The reset state meets every condition that the statements below say each step keeps. The reset state's senses and store
are the model's choice (log entry 2). -/
def Obligations.ResetMeetsEveryCondition : Prop :=
  PortsWf State.reset ∧ IncidentsWf State.reset ∧ ChannelsFollow State.reset ∧ LoadFollows State.reset ∧
    ModeFollows State.reset ∧ StabilityWf State.reset ∧ UniqueIds State.reset ∧ PowerWf State.reset

/-- R3 to R7: every step keeps the queues within 8 and 24 frames, an absent partner's queues empty, and a frame of a
non-empty queue on offer exactly while there is one. -/
def Obligations.StepKeepsTheQueues : Prop := ∀ (s t : State), PortsWf s → step s = .next t → PortsWf t

/-- R173: every step keeps the incident list within 16 records and with one OPEN record of a kind and detail. -/
def Obligations.StepKeepsTheIncidentList : Prop := ∀ (s t : State), IncidentsWf s → step s = .next t → IncidentsWf t

/-- R57, R71, R76, R104, R108, R110: after every step each channel's target, commands and slip-control state follow their
inputs; no command of a DEGRADED node's channel or of a chain that is not RUNNING is other than PASS_THROUGH. R176: while a
swap that came out of RUN waits for the blocks, their values are the old image's, and the condition is suspended. -/
def Obligations.StepKeepsTheCommands : Prop := ∀ (s t : State), ChannelsFollow s → step s = .next t → ChannelsFollow t

/-- R86 to R91: after every step the load ratios, loads, group targets and DRIVER values follow their inputs. R176: while a
swap that came out of RUN waits for the blocks, these values are the old image's, and the condition is suspended but for the
number of groups and channels and the total load. -/
def Obligations.StepKeepsTheLoadValues : Prop := ∀ (s t : State), LoadFollows s → step s = .next t → LoadFollows t

/-- R101, R102: after every step the brake mode is the one its five conditions give, and the effective demand the greater of
its two sources. R176: while a swap that came out of RUN waits for the blocks, the composer still holds to the old image, and
the condition is suspended. -/
def Obligations.StepKeepsTheBrakeMode : Prop := ∀ (s t : State), ModeFollows s → step s = .next t → ModeFollows t

/-- R122, R126 to R137: after every step STAB_TEST requests, test holds and the window timer stand in TEST alone, STAB_INT
requests in INTERVENE alone, and a channel under a test hold is in FOLLOW. -/
def Obligations.StepKeepsTheStabilityForm : Prop := ∀ (s t : State), StabilityWf s → step s = .next t → StabilityWf t

/-- R145, R157, R170: after every step no sensor ID stands in two fields of the active image. -/
def Obligations.StepKeepsIdsUnique : Prop := ∀ (s t : State), UniqueIds s → step s = .next t → UniqueIds t

/-- R20, R60, R117, R141, R162, R165, R177 to R182: after every step the part is in RUN exactly while link power is present,
the power timers run in their own states alone, and out of RUN the links, the chain, the demand, the stability unit, a
learn, service mode and a pending restart rest. -/
def Obligations.StepKeepsThePowerStates : Prop := ∀ (s t : State), PowerWf s → step s = .next t → PowerWf t

/-- R157, R169 to R172: the active image, its generation, CONFIG_INVALID and the store change at a store report, a cold
start, a completed learn and a restart alone. -/
def Obligations.TablesChangeAtTheirEventsAlone : Prop :=
  ∀ (c : Instr) (s : State), mayLoad c = false → ∃ t, exec c s = .next t ∧ t.active = s.active ∧
    t.generation = s.generation ∧ t.configInvalid = s.configInvalid ∧ t.store = s.store

/-- R13 and section 11.1: each bit of the own warning word is the flag as it stands. -/
def Obligations.WarningWordShowsItsFlags : Prop :=
  ∀ (s : State),
    ((warningWord s).getLsbD 0 = true ↔ s.composer.mode = .backup ∨
      (s.composer.mode = .electronic ∧ ∃ n ∈ (inUse s).positions, (s.node n).degraded = true)) ∧
    ((warningWord s).getLsbD 1 = true ↔ s.composer.mode = .fallback ∨ s.composer.emergency = true) ∧
    ((warningWord s).getLsbD 2 = true ↔ ∃ i ∈ List.range 16, judged s i = .low) ∧
    ((warningWord s).getLsbD 3 = true ↔ ∃ i ∈ List.range 16, judged s i = .critical ∨ judged s i = .leak) ∧
    ((warningWord s).getLsbD 4 = true ↔ ∃ i ∈ List.range 16, judged s i = .missing) ∧
    ((warningWord s).getLsbD 5 = true ↔ s.stability.state = .intervene) ∧
    ((warningWord s).getLsbD 6 = true ↔ s.configInvalid = true) ∧
    ((warningWord s).getLsbD 7 = true ↔ s.mgmt.shadow.isSome = true) ∧
    (∀ i ∈ [8, 9, 10, 11, 12, 13, 14, 15], (warningWord s).getLsbD i = false)

/-! ### Links, relay and classifier -/

/-- R1, R12, R15: in RUN a received frame makes the partner present, whatever it holds; out of RUN none is delivered. The
classes but MGMT_REQ, whose RESTART may begin a restart. -/
def Obligations.ReceptionMarksThePartnerPresent : Prop :=
  ∀ (s : State) (p : Port) (f : Frame) (o : CopyOrder),
    (s.power.state ≠ .run → exec (.frameReceived p f o) s = .next s) ∧
    (s.power.state = .run → f.data.length ≤ 8 → f.cls ≠ 0x10 → ∃ t, exec (.frameReceived p f o) s = .next t ∧
      (t.port p).present = true ∧ (t.port p).lastReception = some s.time ∧
      (t.port p).presence = some (s.active.port p).timeout ∧
      (t.port (otherPort p)).present = (s.port (otherPort p)).present ∧
      (t.port (otherPort p)).presence = (s.port (otherPort p)).presence ∧
      t.relay.warn = (if p = .A ∧ s.portA.present = false then some 100 else s.relay.warn) ∧
      t.relay.status = (if p = .A ∧ s.portA.present = false then some 500 else s.relay.status) ∧
      t.relay.tyre = (if p = .A ∧ s.portA.present = false then some 1000 else s.relay.tyre) ∧
      t.relay.warnHeard =
        (if p = .B ∧ f.cls = 0x03 ∧ 3 ≤ f.data.length then some s.time else s.relay.warnHeard) ∧
      t.relay.reportIndex = s.relay.reportIndex ∧
      SameBut [.incidents, .portA, .portB, .relay, .hits, .channels, .load, .composer, .stability] s t)

/-- R14, R35 to R38: a frame that no consumer takes leaves by the other port once, as its assembled action says, with its
identifier and its data; MERGE_WARN adds the own flags to the word and one to the contributor count, at most 15. Nothing but
the ports, the relay and the hit counts changes. -/
def Obligations.RelayedFramesKeepTheirIdentifier : Prop :=
  ∀ (s : State) (p : Port) (f : Frame) (o : CopyOrder),
    let l := lookup s.active p (buildKey s p f)
    let merged := mergeWarn (warningWord s) f.data
    s.power.state = .run → f.data.length ≤ 8 → l.1.delivers p f.cls = false →
      (∃ t, exec (.frameReceived p f o) s = .next t ∧
        t.port (otherPort p) =
          (if l.1.disposition = .pass ∨ l.1.disposition = .copy then
            (s.port (otherPort p)).enqueue l.1.queueClass
              { frame := { f with data := if l.1.rewrite = .mergeWarn then merged else f.data }, restart := false }
          else s.port (otherPort p)) ∧
        t.port p = { s.port p with
          present := true, lastReception := some s.time, presence := some (s.active.port p).timeout } ∧
        t.relay.own = s.relay.own ∧ t.relay.discovery = s.relay.discovery ∧
        t.hits = l.2.foldl (fun h n => h.modify n (satSucc 65535)) s.hits ∧
        SameBut [.portA, .portB, .relay, .hits] s t) ∧
      (f.data.length < 3 → merged = f.data) ∧
      (3 ≤ f.data.length → merged.length = f.data.length ∧ merged.drop 3 = f.data.drop 3 ∧
        BitVec.ofNat 16 (beAt merged 0 2) = BitVec.ofNat 16 (beAt f.data 0 2) ||| warningWord s ∧
        (byteAt merged 2).toNat = min 15 ((byteAt f.data 2).toNat + 1))

/-- R9, R10, R11, R27: under every image a DISCOVER received on port A is consumed, and places or unplaces the part. -/
def Obligations.DiscoverPlacesThePart : Prop :=
  ∀ (s : State) (f : Frame) (o : CopyOrder),
    s.power.state = .run → f.data.length ≤ 8 → f.cls = 0x06 →
      let n := (byteAt f.data 0).toNat
      ∃ t, exec (.frameReceived .A f o) s = .next t ∧
        (f.data = [] ∨ 7 ≤ n ∨ (n ≤ 5 ∧ s.relay.own = some (n + 1)) →
          t.relay.own = s.relay.own ∧ t.relay.discovery = s.relay.discovery ∧ t.portB = s.portB ∧
            t.incidents = s.incidents) ∧
        (f.data ≠ [] → n ≤ 5 → s.relay.own ≠ some (n + 1) →
          t.relay.own = some (n + 1) ∧ t.relay.discovery = some 1000 ∧
            t.portB = s.portB.enqueue .general
              { frame := { cls := 0x06, target := 7, origin := BitVec.ofNat 3 (n + 1), data := [BitVec.ofNat 8 (n + 1)] },
                restart := false } ∧
            t.incidents = (closeIncident .positionConflict 6 s).incidents) ∧
        (f.data ≠ [] → n = 6 → t.relay.own = none ∧ t.relay.discovery = none ∧ t.portB = s.portB ∧
          HasOpen .positionConflict 6 t) ∧
        t.hits = s.hits.modify 1 (satSucc 65535) ∧ SameBut [.incidents, .portA, .portB, .relay, .hits] s t

/-- R14, R35, R98 to R102: a DEMAND handed to the composer is recorded, restarts the demand timer and is FRESH; one that is
short or carries 0xFFFF is ignored. Under COPY it also leaves by the other port once, its identifier and data kept, but for
the warning word that MERGE_WARN merges as it stands when the frame is passed (either order, log entry 3); under CONSUME it
does not. A STABILITY frame that the demand's mode change originates shares port A with a frame relayed there. -/
def Obligations.DemandIsAccepted : Prop :=
  ∀ (s : State) (p : Port) (f : Frame) (o : CopyOrder),
    let a := (lookup s.active p (buildKey s p f)).1
    s.power.state = .run → f.data.length ≤ 8 → f.cls = 0x01 → a.disposition = .consume ∨ a.disposition = .copy →
      a.consumer = .demand → ∃ t, exec (.frameReceived p f o) s = .next t ∧
        (f.data.length < 6 ∨ beAt f.data 0 2 = 0xFFFF → t.composer = s.composer) ∧
        (6 ≤ f.data.length → beAt f.data 0 2 ≠ 0xFFFF →
          let v := min 1000 (beAt f.data 0 2)
          let gap := match s.composer.demand with
            | none => false
            | some d => decide (byteAt f.data 3 ≠ d.seq + 1)
          t.composer = { s.composer with
            demand := some
              { value := v, stop := (byteAt f.data 2).getLsbD 0, park := (byteAt f.data 2).getLsbD 1,
                seq := byteAt f.data 3,
                towing := if beAt f.data 4 2 = 0xFFFF then none else some (min 2500 (beAt f.data 4 2)),
                ingress := p, time := s.time },
            timer := some s.active.tuning.demandTimeout,
            gaps := if gap then satSucc 65535 s.composer.gaps else s.composer.gaps,
            effective := max v (controlDemand s),
            mode := if s.chain.health = .running ∧ s.configInvalid = false then .electronic else .fallback }) ∧
        (p = .A ∨ t.stability.state = s.stability.state →
          let word := match o with
            | .passFirst => warningWord s
            | .handOffFirst => warningWord t
          t.port (otherPort p) =
            (if a.disposition = .copy then
              (s.port (otherPort p)).enqueue a.queueClass
                { frame := { f with data := if a.rewrite = .mergeWarn then mergeWarn word f.data else f.data },
                  restart := false }
            else s.port (otherPort p))) ∧
        t.hits = (lookup s.active p (buildKey s p f)).2.foldl (fun h n => h.modify n (satSucc 65535)) s.hits ∧
        SameBut [.incidents, .portA, .portB, .relay, .hits, .channels, .load, .composer, .stability] s t

/-- R27, R36, R161: under every image a MGMT_REQ addressed to own position is the request its bytes spell, taken after the
port's own work and counted at slot 0. That the unit takes a request within the frame's own step is the model's choice (log
entry 8). -/
def Obligations.ManagementFrameIsItsRequest : Prop :=
  ∀ (s : State) (p : Port) (f : Frame) (o : CopyOrder) (code tag : Byte) (args : List Byte),
    s.power.state = .run → f.cls = 0x10 → f.data = code :: tag :: args → args.length ≤ 6 →
      s.relay.own = some f.target.toNat → f.target ≠ 7 →
      exec (.frameReceived p f o) s =
        exec (requestOf code { port := p, origin := f.origin, tag := tag, args := args })
          (countHits [0] (received p f s))

/-- R22, R23: the relation field and the origin band of every key, and what ternary pairs they answer to. R24: bit j of the
range mask is 1 exactly when checker j's source yields a value within its limits, both inclusive; NONE and a word that the
frame does not hold give 0. That band bit k and range bit j are bits k-1 and j-1 of their bytes is the model's reading of
chapter 11 (log entry 16); the own origin code 7 while unplaced is R12's. -/
def Obligations.KeyRelationBandAndRangeMask : Prop :=
  ∀ (s : State) (p : Port) (f : Frame),
    let k := buildKey s p f
    (f.target = 7 → k.relation = 0) ∧ (f.target ≠ 7 → s.relay.own = none → k.relation = 4) ∧
    (∀ n ∈ List.range 8, f.target ≠ 7 → s.relay.own = some n →
      k.relation = if f.target.toNat = n then 1 else if n < f.target.toNat then 2 else 3) ∧
    (s.relay.own = none → k.relation = 0 ∨ k.relation = 4) ∧
    (∀ v ∈ [5#8, 6#8, 7#8], pairMatch k.relation v 7#8 = false) ∧
    (∀ v ∈ [0#8, 1#8, 4#8], (pairMatch k.relation v 7#8 = true ↔ k.relation = v)) ∧
    (∀ v : Byte, pairMatch k.relation v 0#8 = true) ∧
    (pairMatch k.relation 0#8 6#8 = true ↔ k.relation = 0 ∨ k.relation = 1) ∧
    (pairMatch k.relation 2#8 6#8 = true ↔ k.relation = 2 ∨ k.relation = 3) ∧
    (∀ b ∈ List.range 7, k.band.getLsbD b = decide (b + 1 ≤ f.origin.toNat)) ∧
    (∀ n ∈ [1, 2, 3, 4, 5, 6, 7], pairMatch k.band (BitVec.ofNat 8 (2 ^ (n - 1))) (BitVec.ofNat 8 (2 ^ (n - 1))) = true ↔
      n ≤ f.origin.toNat) ∧
    (∀ n ∈ List.range 7, pairMatch k.band 0#8 (BitVec.ofNat 8 (2 ^ n)) = true ↔ f.origin.toNat ≤ n) ∧
    (∀ a ∈ [1, 2, 3, 4, 5, 6], ∀ b ∈ [1, 2, 3, 4, 5, 6], a ≤ b →
      (pairMatch k.band (BitVec.ofNat 8 (2 ^ (a - 1))) (BitVec.ofNat 8 (2 ^ (a - 1) + 2 ^ b)) = true ↔
        a ≤ f.origin.toNat ∧ f.origin.toNat ≤ b)) ∧
    (∀ v m : Byte, ∀ a ∈ List.range 7, ∀ b ∈ List.range 7, a < b → m.getLsbD a = true → m.getLsbD b = true →
      v.getLsbD a = false → v.getLsbD b = true → pairMatch k.band v m = false) ∧
    (s.relay.own = none → ownCode s = 7) ∧
    (∀ j ∈ List.range 4,
      let q := s.active.ranges.getD j ⟨0, 0, 0⟩
      let byte := fun i => (byteAt f.data i).toNat
      let within := fun v => q.low ≤ v ∧ v ≤ q.high
      (q.source = 0 → k.range.getLsbD j = false) ∧
      (q.source = 1 → (k.range.getLsbD j = true ↔ within s.wheel.reference)) ∧
      (q.source = 2 → (k.range.getLsbD j = true ↔ 2 ≤ f.data.length ∧ within (byte 0 * 256 + byte 1))) ∧
      (q.source = 3 → (k.range.getLsbD j = true ↔ 4 ≤ f.data.length ∧ within (byte 2 * 256 + byte 3)))) ∧
    (∀ j ∈ [4, 5, 6, 7], k.range.getLsbD j = false)

/-- R25: a slot that is no WIDE entry's tail matches a key when its valid flag is set and every pair it compares accepts the
key; a WIDE entry compares data length and word0 as well, an absent word0 matches a mask of 0 alone, and a data-length value
above 8 under a full mask matches no frame. -/
def Obligations.EntryMatchesByTernaryPairs : Prop :=
  ∀ (img : Image) (k : Key) (n : Nat),
    let b := img.slot n
    let c := img.slot (n + 1)
    (∀ v ∈ [9#8, 10#8, 11#8, 12#8, 13#8, 14#8, 15#8], k.length.toNat ≤ 8 → pairMatch k.length v 15#8 = false) ∧
    (entryMatches img k n = true ↔
      (byteAt b 0).getLsbD 0 = true ∧ img.isTail n = false ∧
      Ternary k.pass (byteAt b 1) (byteAt b 2) ∧ Ternary k.group (byteAt b 3) (byteAt b 4) ∧
      Ternary k.port (byteAt b 5) (byteAt b 6) ∧ Ternary k.cls (byteAt b 7) (byteAt b 8) ∧
      Ternary k.relation (byteAt b 9) (byteAt b 10) ∧ Ternary k.band (byteAt b 11) (byteAt b 12) ∧
      Ternary k.range (byteAt b 13) (byteAt b 14) ∧
      ((byteAt b 0).getLsbD 1 = true → Ternary k.length (byteAt c 1) (byteAt c 2) ∧
        (k.word0 = none → BitVec.ofNat 16 (beAt c 5 2) = 0) ∧
        (∀ w, k.word0 = some w → Ternary w (BitVec.ofNat 16 (beAt c 3 2)) (BitVec.ofNat 16 (beAt c 5 2)))))

/-- R30 to R32: the lowest matching slot wins a pass, a miss at pass 1 gives the port's miss action and counts nothing. A
winner with a next group (byte 19, 0 to 15) starts a second pass with the key's pass 1 and that group; the fields of its
winner that are not KEEP replace those of the first, and each winner is counted. A field still KEEP takes the port's miss
value, NONE or NONE. -/
def Obligations.LookupTakesTheLowestSlot : Prop :=
  ∀ (img : Image) (p : Port) (k : Key),
    let l := lookup img p k
    let result := fun (d : Disposition) (c : Consumer) (r : Rewrite) (q : QueueField) =>
      l.1.disposition = (if d = .keep then .ofCode (img.port p).missDisp else d) ∧
      l.1.consumer = (if c = .keep then .none else c) ∧ l.1.rewrite = (if r = .keep then .none else r) ∧
      l.1.queue = (if q = .keep then .ofCode (img.port p).missQueue else q)
    (∀ n, winner img k = some n ↔
      n < 64 ∧ entryMatches img k n = true ∧ ∀ m < n, entryMatches img k m = false) ∧
    (∀ b : List Byte, ∀ g, (slotAction b).next = some g ↔ (byteAt b 19).toNat = g ∧ g ≤ 15) ∧
    (winner img k = none → l.2 = [] ∧ result .keep .keep .keep .keep) ∧
    (∀ n, winner img k = some n → (slotAction (img.slot n)).next = none →
      let a := slotAction (img.slot n)
      l.2 = [n] ∧ result a.disposition a.consumer a.rewrite a.queue) ∧
    (∀ n g, winner img k = some n → (slotAction (img.slot n)).next = some g →
      let a := slotAction (img.slot n)
      let second := { k with pass := 1, group := BitVec.ofNat 8 g }
      (winner img second = none → l.2 = [n] ∧ result a.disposition a.consumer a.rewrite a.queue) ∧
      (∀ m, winner img second = some m →
        let b := slotAction (img.slot m)
        l.2 = [n, m] ∧
        result (if b.disposition ≠ .keep then b.disposition else a.disposition)
          (if b.consumer ≠ .keep then b.consumer else a.consumer) (if b.rewrite ≠ .keep then b.rewrite else a.rewrite)
          (if b.queue ≠ .keep then b.queue else a.queue))) ∧
    ((img.port p).missDisp = 0 ∨ (img.port p).missDisp = 3 → (img.port p).missQueue = 0 ∨ (img.port p).missQueue = 1 →
      l.1.disposition ≠ .keep ∧ l.1.consumer ≠ .keep ∧ l.1.rewrite ≠ .keep ∧ l.1.queue ≠ .keep ∧ l.1.next = none)

/-- R2, R3, R10, R12: a presence timer's expiry makes the partner absent and flushes the port; at port A the part becomes
unplaced and its reports stop, at port B the WARN-heard time goes. The time a timer has left passes
first, which is the model's choice (log entry 1). -/
def Obligations.PresenceExpiryLosesThePartner : Prop :=
  ∀ (s : State) (r : Nat) (p : Port),
    (s.port p).presence = some r → (s.port p).holdsRestart = false →
      let e := elapse r s
      ∃ t, exec (.presenceTimerExpiry p) s = .next t ∧
        t.port p = { e.port p with
          present := false, presence := none, safety := [], general := [], offer := none } ∧
        t.port (otherPort p) = e.port (otherPort p) ∧
        (p = .A → t.relay =
          { e.relay with own := none, discovery := none, warn := none, status := none, tyre := none }) ∧
        (p = .B → t.relay = { e.relay with warnHeard := none }) ∧
        SameBut [portPart p, .relay] e t

/-- R4 to R7: an enqueue to an absent partner changes nothing; a queue that is not full appends; a full SAFETY queue replaces
the newest frame of the same class and origin not on offer, or drops its oldest frame not on offer; a full GENERAL queue
refuses and counts. R3, R7: TRANSMITTED takes the frame on offer from its queue, NOT_SENT leaves it at the head, and SAFETY
comes next before GENERAL; a report on a flushed frame changes nothing. That a report with no frame on offer changes nothing
is the model's choice (log entry 14). -/
def Obligations.QueuesTakeAndReleaseFrames : Prop :=
  (∀ (ps : PortState) (x : Queued),
    (ps.present = false → ps.enqueue .safety x = ps ∧ ps.enqueue .general x = ps) ∧
    (ps.present = true → ps.safety.length < 8 → ps.enqueue .safety x = { ps with
      safety := ps.safety ++ [x],
      offer := if ps.offer.isSome then ps.offer else some .safety }) ∧
    (ps.present = true → ps.general.length < 24 → ps.enqueue .general x = { ps with
      general := ps.general ++ [x],
      offer := if ps.offer.isSome then ps.offer else offered ps.safety (ps.general ++ [x]) }) ∧
    (ps.present = true → ¬ ps.general.length < 24 →
      (ps.enqueue .general x).general = ps.general ∧ (ps.enqueue .general x).safety = ps.safety ∧
      (ps.enqueue .general x).discards = if ps.discards < 65535 then ps.discards + 1 else ps.discards) ∧
    (ps.present = true → ps.safety.length = 8 → ps.offer ≠ none →
      let held := if ps.offer = some .safety then 1 else 0
      (ps.enqueue .safety x).safety.length = 8 ∧ (ps.enqueue .safety x).general = ps.general ∧
      (ps.enqueue .safety x).discards = ps.discards ∧ (ps.enqueue .safety x).offer = ps.offer ∧
      (∀ a y b, ps.safety.drop held = a ++ y :: b → x.sameSender y = true → (∀ z ∈ b, x.sameSender z = false) →
        (ps.enqueue .safety x).safety = ps.safety.take held ++ a ++ x :: b) ∧
      ((∀ y ∈ ps.safety.drop held, x.sameSender y = false) →
        (ps.enqueue .safety x).safety = ps.safety.take held ++ ps.safety.drop (held + 1) ++ [x]))) ∧
  (∀ (s : State) (p : Port),
    exec (.linkReportTransmitted p .flushed) s = .next s ∧ exec (.linkReportNotSent p .flushed) s = .next s ∧
    ((s.port p).offer = none →
      exec (.linkReportTransmitted p .onOffer) s = .next s ∧ exec (.linkReportNotSent p .onOffer) s = .next s) ∧
    (∀ q rest, (s.port p).safety = q :: rest → (s.port p).offer = some .safety → q.restart = false →
      ∃ t, exec (.linkReportTransmitted p .onOffer) s = .next t ∧
        t.port p = { s.port p with safety := rest, offer := offered rest (s.port p).general } ∧
        SameBut [portPart p] s t) ∧
    (∀ q rest, (s.port p).general = q :: rest → (s.port p).offer = some .general → q.restart = false →
      ∃ t, exec (.linkReportTransmitted p .onOffer) s = .next t ∧
        t.port p = { s.port p with general := rest, offer := offered (s.port p).safety rest } ∧
        SameBut [portPart p] s t) ∧
    ((s.port p).offer ≠ none → ∃ t, exec (.linkReportNotSent p .onOffer) s = .next t ∧
      t.port p = { s.port p with offer := offered (s.port p).safety (s.port p).general } ∧ SameBut [portPart p] s t))

/-- R11, R12, R15, R17, R18 and section 11.1: the discovery timer sends a DISCOVER with own position to port B; to port A the
warn timer sends a WARN when port B's partner is absent or no WARN was heard for 300 ms, the status timer the STATUS fields
as they stand, and the tyre timer a TYRE for the first assigned position from the report index on, which moves past it; each
restarts. The time a timer has left passes first, which is the model's choice (log entry 1). -/
def Obligations.RelayTimersSendTheirFrames : Prop :=
  ∀ (s : State) (r : Nat),
    let e := elapse r s
    let n := e.relay.own.getD 7
    let own := BitVec.ofNat 3 n
    (s.relay.discovery = some r → ∃ t, exec .discoveryTimerExpiry s = .next t ∧
      t.relay = { e.relay with discovery := some 1000 } ∧
      t.portB = e.portB.enqueue .general
        { frame := { cls := 0x06, target := 7, origin := own, data := [BitVec.ofNat 8 n] }, restart := false } ∧
      SameBut [.portB, .relay] e t) ∧
    (s.relay.warn = some r → ∃ t, exec .warnTimerExpiry s = .next t ∧
      t.relay = { e.relay with warn := some 100 } ∧
      (e.portB.present = false ∨ e.relay.warnHeard = none ∨
          (∀ h ∈ e.relay.warnHeard, 300 ≤ (e.time - h).toNat) →
        t.portA = e.portA.enqueue .safety
          { frame := { cls := 0x03, target := 0, origin := own,
                       data := beBytes 2 (warningWord e).toNat ++ [1] }, restart := false }) ∧
      (e.portB.present = true → (∃ h ∈ e.relay.warnHeard, (e.time - h).toNat < 300) → t.portA = e.portA) ∧
      SameBut [.portA, .relay] e t) ∧
    (s.relay.status = some r → ∃ t, exec .statusTimerExpiry s = .next t ∧
      t.relay = { e.relay with status := some 500 } ∧
      t.portA = e.portA.enqueue .general
        { frame := { cls := 0x08, target := 0, origin := own,
                     data := [BitVec.ofNat 8 (e.composer.mode.code * 16 + e.stability.state.code)] ++
                       beBytes 2 e.load.total ++ beBytes 2 e.wheel.reference ++
                       [BitVec.ofNat 8 (e.incidents.filter (·.closed.isNone)).length, e.generation.setWidth 8,
                         BitVec.ofNat 8 (min 255 (e.portA.discards + e.portB.discards))] }, restart := false } ∧
      SameBut [.portA, .relay] e t) ∧
    (s.relay.tyre = some r → ∃ t, exec .tyreTimerExpiry s = .next t ∧
      ((∀ i ∈ List.range 16, (e.active.tyre i).assigned = false) →
        t.relay = { e.relay with tyre := some 1000 } ∧ t.portA = e.portA) ∧
      (∀ k ∈ List.range 16, (e.active.tyre ((e.relay.reportIndex + k) % 16)).assigned = true →
        (∀ j ∈ List.range k, (e.active.tyre ((e.relay.reportIndex + j) % 16)).assigned = false) →
          let i := (e.relay.reportIndex + k) % 16
          t.relay = { e.relay with tyre := some 1000, reportIndex := (i + 1) % 16 } ∧
          t.portA = e.portA.enqueue .general
            { frame := { cls := 0x0A, target := 0, origin := own,
                         data := [BitVec.ofNat 8 i, BitVec.ofNat 8 (e.position i).state.code] ++
                           optBytes 2 (e.position i).lastP ++
                           optBytes 1 ((e.position i).lastTemp.map (fun c => (c + 40).toNat)) ++
                           [BitVec.ofNat 8 (severityOf (judged e i)).code] }, restart := false }) ∧
      SameBut [.portA, .relay] e t)

/-! ### Valve chain, wheels, load and brakes -/

/-- R43 to R45, R59, R182 and section 11.3: the period timer, with no session outstanding, and the settle timer start a
session: it takes the next number, the command list leaves with its ring CRC, and each existing channel's mode is carried.
The list holds a command for every position from N down to 1: for a MOD the words of its left and its right channel, for the
REF the lamp and the sampling enable. An unconfigured chain starts none, and one that differs from the bound configuration
starts anew; that the session after this reinitialisation carries 1 is the model's reading of R43 and R44 (log entry 11). The
time a timer has left passes first, which is the model's choice (log entry 1). -/
def Obligations.TimersStartASession : Prop :=
  ∀ (s : State) (r : Nat) (o : List Block),
    let e := elapse r s
    let c := e.active.chain
    let n := (e.chain.session + 1) % 16
    let list := fun t : State => t.chain.sent = commandBody t ++ beBytes 2 (crc16 (commandBody t)).toNat ∧
      commandBody t = BitVec.ofNat 8 (0xA0 + t.chain.session) ::
        (((List.range c.count).map (fun i => commandFor t (i + 1))).reverse).flatten ∧
      (∀ n, 1 ≤ n → n ≤ c.count → c.kind n = .ref → ∃ b, commandFor t n = [1, b] ∧
        (b.getLsbD 0 = true ↔ (warningWord t).getLsbD 0 = true ∨ (warningWord t).getLsbD 1 = true) ∧
        (b.getLsbD 1 = true ↔ c.period ≠ 5 ∨ t.chain.session % 2 = 0) ∧ ∀ k ∈ [2, 3, 4, 5, 6, 7], b.getLsbD k = false) ∧
      (∀ g ∈ [1, 2, 3], ∀ n, modPosition t g = n → 1 ≤ n → n ≤ c.count → c.kind n = .mod →
        ∃ left right, commandFor t n = [2] ++ left ++ right ∧ ∀ p ∈ [(left, 2 * g - 1), (right, 2 * g)],
          ((t.channel p.2).command.mode = .passThrough → p.1 = [0, 0]) ∧
          ((t.channel p.2).command.mode = .control → (t.channel p.2).command.pressure ≤ 1000 →
            p.1 = beBytes 2 (0x8000 + (t.channel p.2).command.pressure))) ∧
      (∀ k ∈ channelNumbers, channelExists t k = true → s.channels.length = 6 →
        (t.channel k).carried = (t.channel k).command.mode)
    let begun := fun t : State => t.chain = { e.chain with
        bound := some c, period := some c.period, session := n, outstanding := some n, sent := t.chain.sent } ∧ list t
    let anew := fun t : State => t.chain.bound = some c ∧ t.chain.period = some c.period ∧ t.chain.session = 1 ∧
      t.chain.outstanding = some 1 ∧ t.chain.health = .starting ∧ t.chain.nodes = List.replicate 4 Node.start ∧
      t.chain.failCount = 0 ∧ t.chain.goodCount = 0 ∧ t.wheel.reference = e.wheel.reference ∧ list t
    (s.chain.period = some r → e.chain.outstanding = none → ∃ t, exec (.periodTimerExpiry o) s = .next t ∧
      (c.count = 0 → t.chain = { e.chain with period := some c.period } ∧ SameBut [.chain] e t) ∧
      (c.count ≠ 0 → chainDiffers e = false → begun t ∧ SameBut [.chain, .channels] e t) ∧
      (c.count ≠ 0 → chainDiffers e = true → anew t ∧
        SameBut [.incidents, .portA, .chain, .wheel, .channels, .load, .composer, .stability] e t)) ∧
    (s.power.settle = some r → ∃ t, exec .settleTimerExpiry s = .next t ∧ t.power = { e.power with settle := none } ∧
      (e.power.state ≠ .run ∨ c.count = 0 → SameBut [.power] e t) ∧
      (e.power.state = .run → c.count ≠ 0 → chainDiffers e = false → begun t ∧ SameBut [.chain, .channels, .power] e t) ∧
      (e.power.state = .run → c.count ≠ 0 → chainDiffers e = true → anew t ∧
        SameBut [.incidents, .portA, .chain, .wheel, .channels, .load, .composer, .stability, .power] e t))

/-- R44, R52, R53: an outstanding session at the period timer's expiry fails with NO_RESPONSE; the third failure in a row
makes the chain FAULTED; the next session then starts. The time a timer has left passes first, which is the model's choice
(log entry 1). -/
def Obligations.PeriodExpiryFailsTheSession : Prop :=
  ∀ (s : State) (r : Nat) (o : List Block),
    let e := elapse r s
    s.chain.period = some r → s.chain.outstanding ≠ none → chainDiffers e = false →
      ∃ t, exec (.periodTimerExpiry o) s = .next t ∧
        t.chain.failCount = satSucc 255 e.chain.failCount ∧ t.chain.goodCount = 0 ∧
        t.chain.failTotal = satSucc 65535 e.chain.failTotal ∧ t.chain.goodTotal = e.chain.goodTotal ∧
        t.chain.lastFailure = .noResponse ∧ t.chain.nodes = e.chain.nodes ∧
        t.chain.health = (if e.chain.health ≠ .faulted ∧ 3 ≤ satSucc 255 e.chain.failCount then .faulted
          else e.chain.health) ∧
        t.chain.outstanding = (if e.active.chain.count = 0 then none else some ((e.chain.session + 1) % 16)) ∧
        t.chain.period = some e.active.chain.period ∧
        SameBut [.incidents, .portA, .chain, .wheel, .channels, .load, .composer, .stability, .tyre, .mgmt] e t

/-- R46, R47, R52, R53, R56, R186: a list that does not answer the outstanding session is disregarded, a list of no bytes by
the model's choice (log entry 39). A list of well-formed responses and two bytes of CRC passes when it holds N responses, of
the kinds of positions N down to 1, under their CRC-16; COUNT, KIND and CRC fail in this order, and COUNT fails for a list of
any other form. A list that fails a check fails the session for that reason, every record and node state stays, and the
completion reaches the five blocks, each once, in the order given (log entry 4). -/
def Obligations.FailedListFailsTheSession : Prop :=
  (∀ (c : ChainRec) (h x y : Byte) (rs : List (List Byte)),
    let l := h :: rs.flatten ++ [x, y]
    let kindsAgree := ∀ n, 1 ≤ n → n ≤ c.count → (byteAt (rs.getD (c.count - n) []) 0).toNat = (c.kind n).code
    let crcAgrees := (crc16 (h :: rs.flatten)).toNat = x.toNat * 256 + y.toNat
    (∀ r ∈ rs, (byteAt r 0 = 1 ∧ r.length = 10) ∨ (byteAt r 0 = 2 ∧ r.length = 12)) →
      (rs.length ≠ c.count → (checkList c l).1 = .count) ∧
      (rs.length = c.count → ¬ kindsAgree → (checkList c l).1 = .kind) ∧
      (rs.length = c.count → kindsAgree → ¬ crcAgrees → (checkList c l).1 = .crc) ∧
      (rs.length = c.count → kindsAgree → crcAgrees → checkList c l = (.none, rs))) ∧
  (∀ (c : ChainRec) (l : List Byte), (checkList c l).1 ≠ .count → ∃ h x y rs,
    l = h :: (rs : List (List Byte)).flatten ++ [x, y] ∧
    rs.length = c.count ∧ ∀ r ∈ rs, (byteAt r 0 = 1 ∧ r.length = 10) ∨ (byteAt r 0 = 2 ∧ r.length = 12)) ∧
  (∀ (s : State) (l : List Byte) (o : List Block),
    (s.chain.outstanding = none ∨ l = [] ∨ (byteAt l 0).toNat / 16 ≠ 0xA ∨
        s.chain.outstanding ≠ some ((byteAt l 0).toNat % 16) → exec (.responseListReturn l o) s = .next s) ∧
    (l ≠ [] → (byteAt l 0).toNat / 16 = 0xA → s.chain.outstanding = some ((byteAt l 0).toNat % 16) →
      (checkList (inUse s) l).1 ≠ .none → ∃ t, exec (.responseListReturn l o) s = .next t ∧
        t.chain = { s.chain with
          outstanding := none, failCount := satSucc 255 s.chain.failCount, goodCount := 0,
          failTotal := satSucc 65535 s.chain.failTotal, lastFailure := (checkList (inUse s) l).1,
          health := if s.chain.health ≠ .faulted ∧ 3 ≤ satSucc 255 s.chain.failCount then .faulted
            else s.chain.health } ∧
        (∃ u, SameBut [.incidents, .chain, .channels, .load] s u ∧ u.chain = t.chain ∧
          t = (blockOrder o).foldl (fun v b => blockWork [] (followers s) b v) u) ∧
        SameBut [.incidents, .portA, .chain, .wheel, .channels, .load, .composer, .stability, .tyre, .mgmt] s t))

/-- R46, R48 to R53, R56: a good list updates the node of every position in use by its response, counts the session, and
makes a STARTING chain, or a FAULTED one at its tenth good session in a row, RUNNING. The completion, with the positions
whose record it updated, then reaches the five blocks, each once; the order, which R56 leaves open, is the command's (log
entry 4). -/
def Obligations.GoodListUpdatesTheNodes : Prop :=
  ∀ (s : State) (l : List Byte) (o : List Block),
    let rs := (checkList (inUse s) l).2
    let fresh := ((List.range (inUse s).count).map (· + 1)).filter fun n =>
      let y := responseFor (inUse s) rs n
      !y.stale && !y.solenoid && !y.sensor
    (∀ b : Block, b ∈ blockOrder o) ∧ (blockOrder o).Nodup ∧ (orderWf o = true → blockOrder o = o) ∧
    (l ≠ [] → (byteAt l 0).toNat / 16 = 0xA → s.chain.outstanding = some ((byteAt l 0).toNat % 16) →
      (checkList (inUse s) l).1 = .none → s.chain.nodes.length = 4 → ∃ t, exec (.responseListReturn l o) s = .next t ∧
        t.chain = { s.chain with
          outstanding := none, failCount := 0, goodCount := satSucc 255 s.chain.goodCount,
          goodTotal := satSucc 65535 s.chain.goodTotal, nodes := t.chain.nodes,
          health := if s.chain.health = .faulted ∧ satSucc 255 s.chain.goodCount < 10 then .faulted else .running } ∧
        (∀ n ∈ [1, 2, 3, 4],
          let y := responseFor (inUse s) rs n
          (¬ n ≤ (inUse s).count → t.node n = s.node n) ∧
          (n ≤ (inUse s).count → y.stale = false → y.solenoid = false → y.sensor = false →
            t.node n = { degraded := false, stale := 0, solenoid := false, sensor := false,
                         record := some { values := y.values, time := s.time } }) ∧
          (n ≤ (inUse s).count → y.stale = true ∨ y.solenoid = true ∨ y.sensor = true →
            let count := if y.stale then satSucc 255 (s.node n).stale else 0
            t.node n = { degraded := (s.node n).degraded || y.solenoid || y.sensor || 5 ≤ count, stale := count,
                         solenoid := y.solenoid, sensor := y.sensor, record := (s.node n).record })) ∧
        (∃ u, SameBut [.incidents, .chain, .channels, .load] s u ∧ u.chain = t.chain ∧
          t = (blockOrder o).foldl (fun v b => blockWork fresh (followers s) b v) u) ∧
        SameBut [.incidents, .portA, .chain, .wheel, .channels, .load, .composer, .stability, .tyre, .mgmt, .power] s t)

/-- R64, R65: at every completion of a returned list the reference speed rises at once to the fastest eligible wheel, and
falls by at most one decay step; a wheel is eligible by its state before the completion (log entry 29). R69, R70: a
completion that shows motion clears the stationary flag, and a stationary part that moves leaves service mode, ends a learn
and every service test. -/
def Obligations.ReferenceAndMotionFollowTheWheels : Prop :=
  ∀ (s : State) (l : List Byte) (o : List Block),
    answers s l = true → ∃ t, exec (.responseListReturn l o) s = .next t ∧
      (let step := max 1 (s.active.tuning.decel * 36 * (inUse s).period / 10000)
       let speeds := channelNumbers.filterMap (eligibleSpeed { s with chain := t.chain } (followers s))
       (speeds = [] → t.wheel.reference = s.wheel.reference - step) ∧
       (speeds ≠ [] → t.wheel.reference = max (speeds.foldl max 0) (s.wheel.reference - step))) ∧
      (0 < t.wheel.reference → t.wheel.stationary = false) ∧
      (s.wheel.stationary = true → t.wheel.stationary = false →
        t.mgmt.shadow = none ∧ t.tyre.learn = none ∧ ∀ c ∈ channelNumbers, (t.channel c).serviceTest = none)

/-- R71 to R77: a completion takes an existing channel's slip-control state along one arc of the state table at most, and its
cycle count rises by one at most. R63, R67, R68, R72 to R76: at the wheel unit's own work a fresh reading gives the previous
speed, the acceleration over one session period and the slip against the new reference; the returns of R76 come first, and
otherwise the release, hold, reapply and rise conditions, judged on these values, decide the state, the hold pressure, the
reapply level and the cycle count. Of a state whose values follow their inputs, with no motion event. Where the quotient of
the slip is below 1, R68's formula and its range 1..1024 disagree: that the slip is then 0 is the model's choice (log
entry 41), not the rule's. -/
def Obligations.OneSlipTransitionPerCompletion : Prop :=
  (∀ (s : State) (l : List Byte) (o : List Block),
    answers s l = true → s.channels.length = 6 → ∃ t, exec (.responseListReturn l o) s = .next t ∧
      ∀ c ∈ channelNumbers, channelExists s c = true →
        ((s.channel c).slipState = .follow →
          (t.channel c).slipState = .follow ∨ (t.channel c).slipState = .release) ∧
        ((s.channel c).slipState = .release → (t.channel c).slipState ≠ .reapply) ∧
        ((s.channel c).slipState = .reapply → (t.channel c).slipState ≠ .hold) ∧
        ((t.channel c).cycles = (s.channel c).cycles ∨ (t.channel c).cycles = satSucc 255 (s.channel c).cycles) ∧
        ((s.channel c).slipState = .follow → (t.channel c).slipState = .release →
          (t.channel c).cycles = satSucc 255 (s.channel c).cycles)) ∧
  (∀ (s : State) (fresh before : List Nat),
    recompose s = s → s.channels.length = 6 → s.wheel.stationary = false →
      let t := blockWork fresh before .wheel s
      let k := s.active.tuning
      let v := t.wheel.reference
      ∀ c ∈ channelNumbers, channelExists s c = true →
        let x := s.channel c
        let y := t.channel c
        let slips := fun st hold level cycles =>
          y.slipState = st ∧ y.holdP = hold ∧ y.level = level ∧ y.cycles = cycles
        let stays := slips x.slipState x.holdP x.level x.cycles
        let released := slips .release none none (satSucc 255 x.cycles)
        let release := (k.sRel < y.slip ∨ y.accel < k.aRel) ∧ k.absMin ≤ v ∧ 0 < x.target
        let back := v < k.absMin ∨ x.target = 0 ∨ s.composer.mode = .fallback ∨ (channelNode s c).degraded = true ∨
          s.chain.health ≠ .running
        let reading := if modPosition s (groupOf c) ∈ fresh then (channelNode s c).record else none
        y.target = x.target ∧
        (reading = none → y.prevSpeed = none ∧ y.accel = x.accel ∧ y.slip = x.slip ∧ (¬ back → stays)) ∧
        (back → slips .follow none none x.cycles) ∧
        (∀ r, reading = some r →
          let now := r.speedOf c
          y.prevSpeed = some now ∧ (x.prevSpeed = none → y.accel = 0) ∧
          (∀ q, x.prevSpeed = some q → y.accel =
            max (-32000) (min 32000 (((now : Int) - q) * 10000).tdiv (36 * (inUse s).period))) ∧
          (v < k.absMin ∨ v ≤ now → y.slip = 0) ∧
          (k.absMin ≤ v → now < v → y.slip = (v - now) * 1024 / v) ∧
          (¬ back →
            (x.slipState = .follow → release → x.testHold = false → released) ∧
            (x.slipState = .follow → ¬ release ∨ x.testHold = true → stays) ∧
            (x.slipState = .release → 0 < y.accel ∨ y.slip < k.sHold →
              slips .hold (some (r.pressureOf c)) x.level x.cycles) ∧
            (x.slipState = .release → y.accel ≤ 0 → k.sHold ≤ y.slip → stays) ∧
            (x.slipState = .hold → release → released) ∧
            (x.slipState = .hold → ¬ release → y.slip < k.sReapply → slips .reapply x.holdP x.holdP x.cycles) ∧
            (x.slipState = .hold → ¬ release → k.sReapply ≤ y.slip → stays) ∧
            (x.slipState = .reapply → release → released) ∧
            (x.slipState = .reapply → ¬ release →
              let rise := min 1000 (x.level.getD 0 + k.reapplyStep)
              (x.target ≤ rise → slips .follow none none x.cycles) ∧
              (rise < x.target → slips .reapply x.holdP (some rise) x.cycles)))))

/-- R70, R115, R133, R155: the stationary timer sets the stationary flag, the spacing timer only stops, the lamp alternates
every 500 ms, and a service test timer ends its channel's test. The time a timer has left passes
first, which is the model's choice (log entry 1). -/
def Obligations.PlainTimersExpire : Prop :=
  ∀ (s : State) (r : Nat),
    let e := elapse r s
    (s.wheel.stationaryTimer = some r → ∃ t, exec .stationaryTimerExpiry s = .next t ∧
      t.wheel = { e.wheel with stationary := true, stationaryTimer := none } ∧ SameBut [.wheel] e t) ∧
    (s.stability.spacing = some r → ∃ t, exec .spacingTimerExpiry s = .next t ∧
      t.stability = { e.stability with spacing := none } ∧ SameBut [.stability] e t) ∧
    (s.tyre.blink = some r → ∃ t, exec .lampBlinkToggle s = .next t ∧
      t.tyre = { e.tyre with lampOn := !e.tyre.lampOn, blink := some 500 } ∧ SameBut [.tyre] e t) ∧
    (∀ c ∈ channelNumbers, (s.channel c).testTimer = some r → s.channels.length = 6 →
      ∃ t, exec (.serviceTestTimerExpiry c) s = .next t ∧ (t.channel c).serviceTest = none ∧
        (t.channel c).testTimer = none ∧
        (channelExists e c = true → (t.channel c).target = targetOf t c (t.channel c)) ∧
        (∀ k ∈ channelNumbers, k ≠ c → channelExists e k = true →
          (t.channel k).serviceTest = (e.channel k).serviceTest ∧ (t.channel k).testTimer = (e.channel k).testTimer) ∧
        SameBut [.channels, .load] e t)

/-- R82 to R84: a group's first bag reading is its filtered pressure; a later one leaves it or moves it toward the reading by
the filter's share; a reading that is not fresh leaves it. R83: at the load unit's own work the filter is open in ELECTRONIC
and BACKUP below the group's D0, and frozen at or above it and in FALLBACK, the mode and the effective demand as they stand
then. -/
def Obligations.BagFilterFollowsTheReading : Prop :=
  (∀ (s : State) (l : List Byte) (o : List Block),
    let rs := (checkList (inUse s) l).2
    answers s l = true → (checkList (inUse s) l).1 = .none → s.chain.nodes.length = 4 → (inUse s).count ≤ 4 →
      s.load.groups.length = 3 → ∃ t, exec (.responseListReturn l o) s = .next t ∧
        ∀ g ∈ [1, 2, 3], groupExists s g = true →
          let y := responseFor (inUse s) rs (modPosition s g)
          (y.updates = false → (t.group g).pf = (s.group g).pf) ∧
          (∀ lp lv rp rv bag, y.updates = true → y.values = .mod lp lv rp rv bag →
            ((s.group g).pf = none → (t.group g).pf = some bag) ∧
            (∀ q, (s.group g).pf = some q → (t.group g).pf = some q ∨
              (t.group g).pf = some ((q : Int) + ((bag : Int) - q).tdiv (2 ^ (s.active.group g).k)).toNat))) ∧
  (∀ (s : State) (fresh before : List Nat),
    s.load.groups.length = 3 → ∀ g ∈ [1, 2, 3], groupExists s g = true →
      let t := blockWork fresh before .load s
      let n := modPosition s g
      (n ∉ fresh ∨ (s.node n).record = none → (t.group g).pf = (s.group g).pf) ∧
      (∀ lp lv rp rv bag time, n ∈ fresh → (s.node n).record = some { values := .mod lp lv rp rv bag, time := time } →
        ((s.group g).pf = none → (t.group g).pf = some bag) ∧
        (∀ q, (s.group g).pf = some q →
          (s.composer.mode ≠ .fallback → s.composer.effective < (s.active.group g).d0 →
            (t.group g).pf = some ((q : Int) + ((bag : Int) - q).tdiv (2 ^ (s.active.group g).k)).toNat) ∧
          (s.composer.mode = .fallback ∨ (s.active.group g).d0 ≤ s.composer.effective → (t.group g).pf = some q))))

/-- R100 to R103, R106: the demand timer's expiry makes the demand STALE: it stays recorded, the control line alone counts,
and the mode is BACKUP while the REF serves and FALLBACK otherwise; entering BACKUP opens DEMAND_LOST. The time a timer has
left passes first, which is the model's choice (log entry 1). -/
def Obligations.DemandTimerMakesTheDemandStale : Prop :=
  ∀ (s : State) (r : Nat),
    let e := elapse r s
    s.composer.timer = some r → ∃ t, exec .demandTimerExpiry s = .next t ∧
      t.composer.demand = e.composer.demand ∧ t.composer.timer = none ∧ t.composer.gaps = e.composer.gaps ∧
      t.composer.effective = controlDemand e ∧ t.composer.emergency = e.composer.emergency ∧
      (braking e → refServes e → t.composer.mode = .backup) ∧
      (¬ braking e ∨ ¬ refServes e → t.composer.mode = .fallback) ∧
      (t.composer.mode = .backup → e.composer.mode ≠ .backup → HasOpen .demandLost 0 t) ∧
      SameBut [.incidents, .portA, .channels, .load, .composer, .stability] e t

/-- R107: at a good list's completion in RUN the emergency flag clears with a DEGRADED REF, follows the supply pressure of a
fresh REF record with its hysteresis of 50, and keeps its value otherwise. -/
def Obligations.EmergencyFollowsTheSupply : Prop :=
  ∀ (s : State) (l : List Byte) (o : List Block),
    let rs := (checkList (inUse s) l).2
    answers s l = true → (checkList (inUse s) l).1 = .none → s.power.state = .run → s.chain.nodes.length = 4 →
      (inUse s).count ≤ 4 → ∃ t, exec (.responseListReturn l o) s = .next t ∧
        ∀ n ∈ [1, 2, 3, 4], (inUse s).ref = some n →
          ((t.node n).degraded = true → t.composer.emergency = false) ∧
          (∀ p c a b, (responseFor (inUse s) rs n).updates = true → (responseFor (inUse s) rs n).values = .ref p c a b →
            (t.composer.emergency = true ↔ p < s.active.tuning.emergency ∨
              (s.composer.emergency = true ∧ p < s.active.tuning.emergency + 50))) ∧
          ((responseFor (inUse s) rs n).updates = false → (t.node n).degraded = false →
            t.composer.emergency = s.composer.emergency)

/-! ### Rollover prevention -/

/-- R120: the threshold of a valid record: the table value of the load, less the tyre reduction, raised to the floor; it
never exceeds the table value and never falls below the floor. The threshold in use is that of the total load and the
trailer-wide severity, which the stability unit takes at every completion with a fresh REF record, and at no other. -/
def Obligations.ThresholdFollowsTheTable : Prop :=
  (∀ (r : StabRec) (load : Nat) (sev : Severity),
    stabOk r = true →
      let p := fun i => r.point i
      let a := tableValue r.points load
      (load ≤ (p 0).1 → a = (p 0).2) ∧ ((p 5).1 ≤ load → a = (p 5).2) ∧
      (∀ i ∈ List.range 5, (p i).1 ≤ load → load < (p (i + 1)).1 →
        a = (p i).2 + (((p (i + 1)).2 - (p i).2 : Int) * ((load : Int) - (p i).1)).tdiv ((p (i + 1)).1 - (p i).1)) ∧
      (thresholdOf r load sev : Int) = max (r.aFloor : Int) (a - (match sev with
        | .critical => r.dCrit
        | .low => r.dLow
        | .none => 0)) ∧
      r.aFloor ≤ thresholdOf r load sev ∧ (thresholdOf r load sev : Int) ≤ a) ∧
  (∀ (s : State) (fresh before : List Nat),
    let t := blockWork fresh before .stability s
    let n := thresholdOf s.active.stab s.load.total (trailerSeverity s)
    let freshRef := ∃ k, (inUse s).ref = some k ∧ k ∈ fresh
    (freshRef → t.stability.load = s.load.total ∧ t.stability.severity = trailerSeverity s ∧ t.stability.threshold = n ∧
      t.stability.watchLevel = n * s.active.stab.w / 256 ∧ t.stability.releaseLevel = n * s.active.stab.rr / 256) ∧
    (¬ freshRef → t.stability.load = s.stability.load ∧ t.stability.severity = s.stability.severity ∧
      t.stability.threshold = s.stability.threshold ∧ t.stability.watchLevel = s.stability.watchLevel ∧
      t.stability.releaseLevel = s.stability.releaseLevel) ∧
    (trailerSeverity s = .critical ↔ ∃ i ∈ List.range 16, judged s i = .critical ∨ judged s i = .leak) ∧
    (trailerSeverity s = .none ↔
      ∀ i ∈ List.range 16, judged s i ≠ .critical ∧ judged s i ≠ .leak ∧ judged s i ≠ .low))

/-- R131, R133, R137, R139: in TEST the window's expiry ends the test with no result, starts the spacing timer and goes to
WATCH; the recover timer's expiry closes the incident and goes to ARMED; each change sends a STABILITY frame. The time a
timer has left passes first, which is the model's choice (log entry 1). -/
def Obligations.StabilityTimersChangeTheState : Prop :=
  ∀ (s : State) (r : Nat),
    let e := elapse r s
    let report := fun st : StabState => e.portA.enqueue .safety
      { frame := { cls := 0x04, target := 0, origin := BitVec.ofNat 3 (e.relay.own.getD 7),
                   data := [BitVec.ofNat 8 st.code] ++ beBytes 2 (code16 (lateral e)) ++ beBytes 2 e.stability.threshold ++
                     [0] }, restart := false }
    (s.stability.window = some r → s.stability.state = .test → ∃ t, exec .testWindowExpiry s = .next t ∧
      t.stability = { e.stability with
        state := .watch, testChannels := [], window := none, inner := .none, spacing := some e.active.stab.spacing } ∧
      (∀ c ∈ channelNumbers, c ∈ s.stability.testChannels →
        (t.channel c).stabTest = none ∧ (t.channel c).testHold = false) ∧
      t.portA = report .watch ∧ SameBut [.portA, .channels, .load, .stability] e t) ∧
    (s.stability.window = some r → s.stability.state ≠ .test → ∃ t, exec .testWindowExpiry s = .next t ∧
      t.stability = { e.stability with window := none } ∧ SameBut [.stability] e t) ∧
    (s.stability.recover = some r → ∃ t, exec .recoverTimerExpiry s = .next t ∧
      t.stability = { e.stability with state := .armed, recover := none, inner := .none } ∧
      t.incidents = (closeIncident .stabilityIntervention 0 e).incidents ∧ t.portA = report .armed ∧
      SameBut [.incidents, .portA, .stability] e t)

/-- R122, R125 to R127, R132, R134, R137: an evaluation at or above the threshold in ARMED, WATCH, TEST or RECOVER, with no
OFF condition, intervenes: every existing channel carries its intervention value, the incident opens, and any test, pending
test, spacing and recover timer ends. -/
def Obligations.EvaluationIntervenesAtTheThreshold : Prop :=
  ∀ (s : State),
    s.channels.length = 6 → offCondition s = false → s.stability.state ≠ .off → s.stability.state ≠ .intervene →
      s.stability.threshold ≤ (lateral s).natAbs →
      let t := evaluate s
      t.stability.state = .intervene ∧ (0 < lateral s → t.stability.inner = .left) ∧
      (lateral s < 0 → t.stability.inner = .right) ∧ t.stability.spacing = none ∧ t.stability.recover = none ∧
      t.stability.pendingTest = .none ∧ t.stability.interventions = satSucc 65535 s.stability.interventions ∧
      (s.stability.state = .test → t.stability.testChannels = [] ∧ t.stability.window = none) ∧
      t.stability.tests = s.stability.tests ∧ t.stability.lifts = s.stability.lifts ∧
      (∀ c ∈ channelNumbers, channelExists s c = true →
        (t.channel c).stabInt = some (t.channel c).intervention ∧
        (t.channel c).intervention = derate s.active.tuning (channelSeverity s c)
          (characteristic (s.active.group (groupOf c)) (t.group (groupOf c)).lam s.active.stab.dInt) ∧
        ((t.channel c).intervention ≤ pMaxOf s c → (t.channel c).intervention ≤ (t.channel c).target)) ∧
      HasOpen .stabilityIntervention 0 t ∧ SameBut [.incidents, .portA, .channels, .load, .stability] s t

/-- R126 to R129: in WATCH, between the watch level and the threshold, with no spacing and no pending test, the test of the
inner side starts when all its candidate channels are in FOLLOW, and is held pending otherwise. -/
def Obligations.EvaluationStartsATest : Prop :=
  ∀ (s : State),
    let side := if 0 < lateral s then Side.left else if lateral s < 0 then .right else .none
    let chans := channelNumbers.filter fun c =>
      sideOf c = side && channelExists s c && !(channelNode s c).degraded
    s.channels.length = 6 → offCondition s = false → s.stability.state = .watch →
      s.stability.watchLevel ≤ (lateral s).natAbs → (lateral s).natAbs < s.stability.threshold →
      s.stability.spacing = none → s.stability.pendingTest = .none → chans ≠ [] →
      let t := evaluate s
      ((∀ c ∈ chans, (s.channel c).slipState = .follow) →
        t.stability = { s.stability with
          state := .test, inner := side, testChannels := chans, window := some s.active.stab.window,
          tests := satSucc 65535 s.stability.tests } ∧
        (∀ c ∈ chans, (t.channel c).stabTest = some s.active.stab.pTest ∧ (t.channel c).testHold = true ∧
          min (pMaxOf s c) s.active.stab.pTest ≤ (t.channel c).target) ∧
        SameBut [.portA, .channels, .load, .stability] s t) ∧
      ((∃ c ∈ chans, (s.channel c).slipState ≠ .follow) →
        t.stability = { s.stability with pendingTest := side } ∧ SameBut [.stability] s t)

/-- R122 to R125, R128, R130, R132, R136: what the stability unit does at a completion. An OFF condition puts it OFF, with
its requests, holds, timers and incident ended. A fresh REF record is evaluated: OFF arms, ARMED and WATCH follow the watch
level, INTERVENE is released below the release level, TEST is abandoned when the lateral acceleration has changed sides. A
completion that has made no change of state then works on TEST (DEGRADED test channels leave it, none left abandons it, a
slip at or above s_lift is a lift that intervenes) and on a pending test in WATCH. -/
def Obligations.StabilityActsAtACompletion : Prop :=
  ∀ (s : State) (fresh before : List Nat),
    let new := ∃ k, (inUse s).ref = some k ∧ k ∈ fresh
    let t := blockWork fresh before .stability s
    let u := if refFresh s fresh then takeThreshold s else s
    let a := lateral s
    let off := s.active.stab.enable = false ∨ s.composer.mode = .fallback ∨ refDegraded s = true ∨
      s.wheel.reference < s.active.stab.vMin
    let reversal := (s.stability.inner = .left ∧ a < 0) ∨ (s.stability.inner = .right ∧ 0 < a)
    let abandoned := t.stability = { u.stability with
        state := .watch, inner := .none, testChannels := [], window := none, spacing := some s.active.stab.spacing } ∧
      ∀ c ∈ s.stability.testChannels, (t.channel c).stabTest = none ∧ (t.channel c).testHold = false
    s.channels.length = 6 →
    (∀ c ∈ s.stability.testChannels, c ∈ channelNumbers ∧ channelExists s c = true) →
      (off → s.stability.state = .off → t = u) ∧
      (off → s.stability.state ≠ .off →
        t.stability = { u.stability with
          state := .off, inner := .none, pendingTest := .none, testChannels := [], window := none, spacing := none,
          recover := none } ∧
        (∀ c ∈ channelNumbers, (t.channel c).stabTest = none ∧ (t.channel c).testHold = false ∧
          (t.channel c).stabInt = none) ∧ ¬ HasOpen .stabilityIntervention 0 t) ∧
      (new → (evaluate u).stability.state ≠ s.stability.state → t = evaluate u) ∧
      (¬ off → new →
        (s.stability.state = .off → t.stability = { u.stability with state := .armed, pendingTest := .none }) ∧
        (s.stability.state = .armed → a.natAbs < u.stability.threshold →
          (u.stability.watchLevel ≤ a.natAbs →
            t.stability = { u.stability with state := .watch, pendingTest := .none }) ∧
          (a.natAbs < u.stability.watchLevel → t = u)) ∧
        (s.stability.state = .watch → a.natAbs < u.stability.threshold → a.natAbs < u.stability.watchLevel →
          t.stability = { u.stability with state := .armed, pendingTest := .none }) ∧
        (s.stability.state = .intervene →
          (u.stability.releaseLevel ≤ a.natAbs → t = u) ∧
          (a.natAbs < u.stability.releaseLevel →
            t.stability = { u.stability with state := .recover, recover := some s.active.stab.recover } ∧
            ∀ c ∈ channelNumbers, (t.channel c).stabInt = none)) ∧
        (s.stability.state = .recover → a.natAbs < u.stability.threshold → t = u) ∧
        (s.stability.state = .test → a.natAbs < u.stability.threshold → reversal → abandoned)) ∧
      (¬ off → ¬ new → s.stability.state ≠ .test →
        s.stability.state ≠ .watch ∨ s.stability.pendingTest = .none → t = s) ∧
      (¬ off → s.stability.state = .test → (new → a.natAbs < u.stability.threshold ∧ ¬ reversal) →
        let left := s.stability.testChannels.filter fun c => !(channelNode s c).degraded
        (∀ c ∈ s.stability.testChannels, c ∉ left → (t.channel c).stabTest = none ∧ (t.channel c).testHold = false) ∧
        (left = [] → abandoned) ∧
        (left ≠ [] → (∀ c ∈ left, (s.channel c).slip < s.active.stab.sLift) →
          t.stability = { u.stability with testChannels := left }) ∧
        ((∃ c ∈ left, s.active.stab.sLift ≤ (s.channel c).slip) →
          t.stability = { u.stability with
            state := .intervene, testChannels := [], window := none, spacing := none, recover := none,
            pendingTest := .none, lifts := satSucc 65535 s.stability.lifts,
            interventions := satSucc 65535 s.stability.interventions } ∧
          HasOpen .stabilityIntervention 0 t ∧
          ∀ c ∈ channelNumbers, channelExists s c = true → (t.channel c).stabInt = some (t.channel c).intervention)) ∧
      (¬ off → s.stability.state = .watch → s.stability.pendingTest ≠ .none →
        let side := s.stability.pendingTest
        let chans := channelNumbers.filter fun c =>
          sideOf c = side && channelExists s c && !(channelNode s c).degraded
        let same := (side = .left ∧ 0 < a) ∨ (side = .right ∧ a < 0)
        let within := u.stability.watchLevel ≤ a.natAbs ∧ a.natAbs < u.stability.threshold
        (new → within → ¬ same → t.stability = { u.stability with pendingTest := .none }) ∧
        ((new → within ∧ same) →
          (chans = [] → t.stability = { u.stability with pendingTest := .none }) ∧
          (chans ≠ [] → (∀ c ∈ chans, (s.channel c).slipState = .follow) →
            t.stability = { u.stability with
              state := .test, inner := side, pendingTest := .none, testChannels := chans,
              window := some s.active.stab.window, tests := satSucc 65535 s.stability.tests } ∧
            ∀ c ∈ chans, (t.channel c).stabTest = some s.active.stab.pTest ∧ (t.channel c).testHold = true) ∧
          ((∃ c ∈ chans, (s.channel c).slipState ≠ .follow) → t = u)))

/-! ### Tyres -/

/-- R142, R143, R146, R157 and section 11.4: a delivered telegram of ten bytes with a good CRC, temperature and pressure
enters the FIFO, or sets the overflow flag of a full one; any other is counted; in SLEEP the line is not read. R146, R157: a
telegram taken changes nothing but the FIFO when it matches a position that is LEARNING, repeats the position's last sequence
and ID field within 2000 ms, or matches none and is no learn's candidate. No swap waits for the blocks (R176: else they apply
it first, SwapReachesTheBlocks). -/
def Obligations.TelegramsAreCheckedAndDropped : Prop :=
  ∀ (s : State) (b : List Byte),
    let good := b.length = 10 ∧ crc8 (b.take 9) = byteAt b 9 ∧ (byteAt b 6).toNat ≤ 165 ∧ beAt b 4 2 ≤ 1400
    let x : Telegram :=
      { id := BitVec.ofNat 32 (beAt b 0 4), pressure := beAt b 4 2, temp := ((byteAt b 6).toNat : Int) - 40,
        learn := (byteAt b 7).getLsbD 0, alert := (byteAt b 7).getLsbD 1, batteryLow := (byteAt b 7).getLsbD 2,
        seq := (byteAt b 8).setWidth 4, arrival := s.time }
    (s.power.state = .sleep → exec (.telegramDelivered b) s = .next s) ∧
    (s.power.state ≠ .sleep → s.unapplied = none → ∃ t, exec (.telegramDelivered b) s = .next t ∧
      (¬ good → t.tyre = { s.tyre with errors := satSucc 65535 s.tyre.errors }) ∧
      (good → s.tyre.fifo.length < 16 → t.tyre = { s.tyre with fifo := s.tyre.fifo ++ [x] }) ∧
      (good → ¬ s.tyre.fifo.length < 16 → t.tyre = { s.tyre with overflow := true }) ∧ SameBut [.tyre] s t) ∧
    (s.tyre.fifo = [] → exec .telegramTaken s = .next s) ∧
    (∀ x rest, s.tyre.fifo = x :: rest → s.unapplied = none →
      ((findMatch s.active x.id = none ∧ (s.tyre.learn = none ∨ x.learn = false ∨ idHeld s x.id = true)) ∨
        (∃ m, findMatch s.active x.id = some m ∧ ((s.position m.1).state = .learning ∨
          ((s.position m.1).lastSeq = some x.seq ∧ (s.position m.1).lastField = some m.2 ∧
            ∃ u, (s.position m.1).lastTime = some u ∧ (x.arrival - u).toNat < 2000)))) →
        ∃ t, exec .telegramTaken s = .next t ∧ t.tyre = { s.tyre with fifo := rest } ∧ SameBut [.tyre] s t)

/-- R147 to R151, R154: an accepted telegram writes its position's record with the compensated pressure, moves the level and
the leak flag, restarts the missing timer, and the state and the incidents follow. No swap waits for the blocks (R176: else
they apply it first, SwapReachesTheBlocks). Where TYRE_LEAK opens with TYRE_CRITICAL, no TYRE_CRITICAL of the position was
OPEN before: one that was, at a level that is not CRITICAL, as no run leaves it, could be the record that TYRE_LEAK evicts
(R173). -/
def Obligations.TelegramIsAccepted : Prop :=
  ∀ (s : State) (x : Telegram) (rest : List Telegram) (i : Nat) (fd : IdChoice),
    let q := s.position i
    let d := (x.temp + 273).toNat
    let p := min 1200 ((x.pressure * 293 + d / 2) / d - s.active.tuning.pAtm)
    let h := (q.history ++ [(x.arrival, p)]).drop (q.history.length + 1 - 4)
    s.unapplied = none → s.tyre.fifo = x :: rest → s.tyre.positions.length = 16 → q.history.length ≤ 4 →
      findMatch s.active x.id = some (i, fd) → q.state ≠ .learning → isDuplicate q fd x = false →
      ∃ t, exec .telegramTaken s = .next t ∧
        t.position i = { q with
          lastP := some p, lastTemp := some x.temp, lastSeq := some x.seq, lastField := some fd,
          lastTime := some x.arrival, batteryLow := x.batteryLow, history := h,
          missing := some (s.active.tuning.missing * 60000),
          level := nextLevel s.active.tuning (s.active.tyre i).nominal p q.level,
          leak := nextLeak s.active.tuning.leak (lossRate h) x.alert q.leak,
          state := deriveState (t.position i).leak (t.position i).level } ∧
        (∀ j ∈ List.range 16, j ≠ i → t.position j = s.position j) ∧ t.tyre.fifo = rest ∧
        t.tyre.learn = s.tyre.learn ∧ t.tyre.errors = s.tyre.errors ∧ t.tyre.overflow = s.tyre.overflow ∧
        ((t.position i).level = .critical → q.level ≠ .critical →
          ((t.position i).leak = true → q.leak = false → ¬ HasOpen .tyreCritical i s) → HasOpen .tyreCritical i t) ∧
        ((t.position i).leak = true → q.leak = false → HasOpen .tyreLeak i t) ∧
        (q.state = .missing → ¬ HasOpen .tyreMissing i t) ∧
        SameBut [.incidents, .portA, .channels, .load, .tyre] s t

/-- R149: the pressure level falls at its own threshold and recovers at the threshold plus 6/256 of nominal. -/
def Obligations.PressureLevelHasItsHysteresis : Prop :=
  ∀ (r : TuningRec) (n p : Nat),
    (p * 256 < n * r.critFrac → ∀ l ∈ [Level.normal, .low, .critical], nextLevel r n p l = .critical) ∧
    (n * r.critFrac ≤ p * 256 → p * 256 < n * r.lowFrac →
      nextLevel r n p .normal = .low ∧ nextLevel r n p .low = .low) ∧
    (n * r.critFrac ≤ p * 256 → n * r.lowFrac ≤ p * 256 → nextLevel r n p .normal = .normal ∧
      (nextLevel r n p .low = .normal ↔ n * (r.lowFrac + 6) ≤ p * 256) ∧
      (nextLevel r n p .low = .low ↔ p * 256 < n * (r.lowFrac + 6))) ∧
    (n * r.critFrac ≤ p * 256 → p * 256 < n * (r.critFrac + 6) → nextLevel r n p .critical = .critical) ∧
    (n * (r.critFrac + 6) ≤ p * 256 → nextLevel r n p .critical =
      if n * (r.lowFrac + 6) ≤ p * 256 then .normal else .low)

/-- R145, R157, R170: the first learn telegram whose ID is held nowhere completes a running learn: the ID enters the active
image, the shadow and a commit's image, the position starts afresh with this telegram, and the store write begins or follows
the one in progress. No swap waits for the blocks (R176: else they apply it first, SwapReachesTheBlocks). -/
def Obligations.LearnTakesTheFirstCandidate : Prop :=
  ∀ (s : State) (x : Telegram) (rest : List Telegram) (l : Learn),
    s.unapplied = none → s.tyre.fifo = x :: rest → s.tyre.positions.length = 16 → s.tyre.learn = some l → l.pos < 16 →
      findMatch s.active x.id = none → x.learn = true → idHeld s x.id = false →
      ∃ t, exec .telegramTaken s = .next t ∧ t.tyre.learn = none ∧ t.tyre.fifo = rest ∧
        t.active = writeId l.pos l.field x.id s.active ∧ t.generation = s.generation ∧
        t.mgmt.shadow = s.mgmt.shadow.map (writeId l.pos l.field x.id) ∧
        (s.mgmt.writing = none →
          t.mgmt.writing = some { image := t.active, generation := s.generation, commit := false } ∧
          t.mgmt.followOn = s.mgmt.followOn) ∧
        (∀ w, s.mgmt.writing = some w → t.mgmt.followOn = true ∧
          t.mgmt.writing = some (if w.commit then { w with image := writeId l.pos l.field x.id w.image } else w)) ∧
        (t.position l.pos).lastField = some l.field ∧ (t.position l.pos).history.length = 1 ∧
        (t.position l.pos).leak = x.alert ∧
        (t.position l.pos).state = deriveState (t.position l.pos).leak (t.position l.pos).level ∧
        (t.position l.pos).missing = some (s.active.tuning.missing * 60000) ∧
        ¬ HasOpen .tyreMissing l.pos t ∧
        SameBut [.active, .incidents, .portA, .channels, .load, .tyre, .mgmt] s t

/-- R152, R154, R156, R158: a missing timer's expiry makes the position MISSING, or the saved state of a LEARNING one, and
opens TYRE_MISSING; the learn timer's expiry returns the position to its saved state. That the incident of a LEARNING
position follows its saved state is the model's reading of section 8.6, which judges such a position by its saved state (log
entry 24). The time a timer has left passes first, which is the model's choice (log entry 1). No swap waits for the blocks
(R176: else they apply it first, SwapReachesTheBlocks). -/
def Obligations.MissingAndLearnTimersExpire : Prop :=
  ∀ (s : State) (r : Nat),
    let e := elapse r s
    s.tyre.positions.length = 16 → s.unapplied = none →
    (∀ i ∈ List.range 16, (s.position i).missing = some r → ∃ t, exec (.missingTimerExpiry i) s = .next t ∧
      ((s.position i).state ≠ .learning → s.power.state ≠ .sleep →
        t.position i = { e.position i with missing := none, state := .missing } ∧ t.tyre.learn = e.tyre.learn) ∧
      ((s.position i).state = .missing → t.portA = e.portA ∧ t.incidents = e.incidents) ∧
      ((s.position i).state ≠ .missing → (s.position i).state ≠ .learning → HasOpen .tyreMissing i t) ∧
      (∀ l, e.tyre.learn = some l → (s.position i).state = .learning → l.pos = i →
        t.position i = { e.position i with missing := none } ∧
        t.tyre.learn = some { l with saved := .missing } ∧ (l.saved ≠ .missing → HasOpen .tyreMissing i t)) ∧
      SameBut [.incidents, .portA, .channels, .load, .tyre] e t) ∧
    (∀ l, s.tyre.learn = some l → l.timer = some r → l.pos < 16 → ∃ t, exec .learnTimerExpiry s = .next t ∧
      t.tyre.learn = none ∧ (t.position l.pos).state = l.saved ∧
      (∀ j ∈ List.range 16, j ≠ l.pos → t.position j = e.position j) ∧
      SameBut [.portA, .channels, .load, .tyre] e t)

/-! ### Management, service mode and the store -/

/-- R1, R161: out of RUN no request arrives; in RUN every request but IDENTIFY and READ is BUSY while the store is written or
a restart is pending, and one with too few argument bytes is BAD_VALUE; a refused request changes nothing but the idle timer
and its answer. R113, R164, R166 to R168, R171: without service mode LEAVE_SERVICE, STAGE, COMMIT, DISCARD, SERVICE_TEST,
CLEAR_INCIDENTS and RESTART are answered NOT_IN_SERVICE and change nothing. That a request command out of RUN changes nothing
is the model's choice (log entry 9). -/
def Obligations.RequestsAreRefusedByTheCommonChecks : Prop :=
  ∀ (s : State) (r : Request),
    (∀ p ∈ requestsOf r, s.power.state ≠ .run → exec p.2 s = .next s) ∧
    (∀ code, s.power.state ≠ .run → exec (.unknownRequest code r) s = .next s) ∧
    (∀ p ∈ requestsOf r, taken s r → ¬ free s → p.1 ≠ 1#8 → p.1 ≠ 2#8 → ∃ t, exec p.2 s = .next t ∧
      t.mgmt = idled s.mgmt ∧ Answered p.1 r .busy [] s t ∧ SameBut [portPart r.port, .mgmt] s t) ∧
    (∀ p ∈ requestsOf r, taken s r → free s ∨ p.1 = 2#8 → r.args.length < argumentsOf p.1 → ∃ t, exec p.2 s = .next t ∧
      t.mgmt = idled s.mgmt ∧ Answered p.1 r .badValue [] s t ∧ SameBut [portPart r.port, .mgmt] s t) ∧
    (∀ p ∈ requestsOf r, taken s r → free s → s.mgmt.shadow = none → argumentsOf p.1 ≤ r.args.length →
      p.1 ∈ [4#8, 5#8, 6#8, 7#8, 10#8, 11#8, 12#8] → ∃ t, exec p.2 s = .next t ∧
        Answered p.1 r .notInService [] s t ∧ SameBut [portPart r.port] s t)

/-- R161 to R163 and section 11.1: IDENTIFY and READ are answered at any time in RUN, and an unknown code with UNKNOWN; they
change nothing but their answer and, for the first two, the idle timer. That READ looks at its view first is the model's
choice (log entry 18). -/
def Obligations.IdentifyReadAndUnknownOnlyAnswer : Prop :=
  ∀ (s : State) (r : Request),
    taken s r →
      (∃ t, exec (.identify r) s = .next t ∧ t.mgmt = idled s.mgmt ∧
        Answered 1#8 r .done ([0x34#8, 0x01#8, BitVec.ofNat 8 (s.relay.own.getD 7)] ++ beBytes 2 s.generation.toNat) s t ∧
        SameBut [portPart r.port, .mgmt] s t) ∧
      (3 ≤ r.args.length → ∃ t, exec (.read r) s = .next t ∧ t.mgmt = idled s.mgmt ∧
        Answered 2#8 r (readAnswer s r.args).1 (readAnswer s r.args).2 s t ∧
        (readAnswer s r.args).2.length ≤ 5 ∧ (1 < beAt r.args 2 1 → readAnswer s r.args = (.badValue, [])) ∧
        SameBut [portPart r.port, .mgmt] s t) ∧
      (∀ code, knownCode code = false → ∃ t, exec (.unknownRequest code r) s = .next t ∧ Answered code r .unknown [] s t ∧
        SameBut [portPart r.port] s t)

/-- R163, R185 and section 11.2: READ answers BAD_VALUE for a view other than 0 and 1, BAD_ADDRESS for a kind or index that
does not exist, for an incident not held and for an offset past the record, NOT_IN_SERVICE for the shadow's configuration out
of service mode, and otherwise up to five bytes of the record, which are the fields of section 11.2. That the view is looked
at first is the model's choice (log entry 18); what the fields of an absent group, channel or node read as, and that a WIDE
entry's tail has seven bytes, are its readings (log entries 20 and 19), and the two bytes of a freshness time that does not
fit them are a free value (log entry 5). -/
def Obligations.ReadReturnsTheRecord : Prop :=
  (∀ (s : State) (args : List Byte),
    let kind := beAt args 0 2 / 4096
    let i := beAt args 0 2 / 64 % 64
    let off := beAt args 0 2 % 64
    let view := beAt args 2 1
    let limits := fun k : RecKind => match k with
      | .classEntry => (0, 63)
      | .port => (0, 1)
      | .range => (1, 4)
      | .chain => (0, 4)
      | .group => (1, 3)
      | .channel => (0, 6)
      | .stability => (0, 0)
      | .tuning => (0, 0)
      | .tyrePosition => (0, 16)
      | .incident => (0, 16)
      | .hits => (0, 63)
    (1 < view → readAnswer s args = (.badValue, [])) ∧
    (view ≤ 1 → kind = 0 ∨ 11 < kind → readAnswer s args = (.badAddress, [])) ∧
    (∀ k : RecKind, view ≤ 1 → kind = k.code →
      let exist := (limits k).1 ≤ i ∧ i ≤ (limits k).2 ∧ (k = .incident → i ≤ 15 → i < s.incidents.length)
      let config := k ≠ .channel ∧ k ≠ .incident ∧ k ≠ .hits
      (¬ exist → readAnswer s args = (.badAddress, [])) ∧
      (exist → view = 1 → config → s.mgmt.shadow = none → readAnswer s args = (.notInService, [])) ∧
      (exist → ∀ img, (view = 0 ∧ img = s.active) ∨ (view = 1 ∧ s.mgmt.shadow = some img) ∨
          (view = 1 ∧ ¬ config ∧ s.mgmt.shadow = none ∧ img = s.active) →
        let b := recordBytes img s k i
        (b.length ≤ off → readAnswer s args = (.badAddress, [])) ∧
        (off < b.length → readAnswer s args = (.done, (b.drop off).take 5))))) ∧
  (∀ (s : State) (img : Image),
    let one := fun n : Nat => beBytes 1 n
    let two := fun n : Nat => beBytes 2 n
    let time := fun t : Option Time => optBytes 4 (t.map (·.toNat))
    (∀ i ∈ List.range 64, Shows (recordBytes img s .classEntry i) 0
      ((img.slot i).take (if i % 2 = 1 ∧ (byteAt (img.slot (i - 1)) 0).getLsbD 1 = true then 7 else 20))) ∧
    (∀ x ∈ [(Port.A, 0), (Port.B, 1)],
      let b := recordBytes img s .port x.2
      let p := s.port x.1
      b.length = 14 ∧ Shows b 0 (two (img.port x.1).timeout) ∧ Shows b 2 (one (img.port x.1).defaultGroup) ∧
      Shows b 3 (one (img.port x.1).missDisp) ∧ Shows b 4 (one (img.port x.1).missQueue) ∧
      Shows b 5 (one ((if p.present then 1 else 0) + (if p.lastReception = none then 0 else 2))) ∧
      Shows b 6 (time p.lastReception) ∧ Shows b 10 (one p.safety.length) ∧ Shows b 11 (one p.general.length) ∧
      Shows b 12 (two p.discards)) ∧
    (∀ i ∈ [1, 2, 3, 4],
      let b := recordBytes img s .range i
      let q := img.ranges.getD (i - 1) ⟨0, 0, 0⟩
      b.length = 5 ∧ Shows b 0 (one q.source) ∧ Shows b 1 (two q.low) ∧ Shows b 3 (two q.high)) ∧
    (let b := recordBytes img s .chain 0
     b.length = 19 ∧ Shows b 0 (one img.chain.count) ∧
      (∀ n ∈ [1, 2, 3, 4], Shows b n (one (img.chain.kind n).code)) ∧ Shows b 5 (one img.chain.period) ∧
      Shows b 6 (one s.chain.health.code) ∧ Shows b 7 (one s.chain.session) ∧ Shows b 8 (one s.chain.failCount) ∧
      Shows b 9 (one s.chain.goodCount) ∧ Shows b 10 (two s.chain.goodTotal) ∧ Shows b 12 (two s.chain.failTotal) ∧
      Shows b 14 (one s.chain.lastFailure.code) ∧ Shows b 15 (one s.power.state.code) ∧
      Shows b 16 (two s.power.voltage) ∧
      Shows b 18 (one ((if s.power.low then 1 else 0) + (if s.power.lockout then 2 else 0)))) ∧
    (∀ n ∈ [1, 2, 3, 4],
      let b := recordBytes img s .chain n
      let q := s.node n
      (¬ n ≤ (inUse s).count → b = List.replicate 5 0xFF) ∧
      (n ≤ (inUse s).count →
        Shows b 0 (one (if q.degraded then 1 else 0)) ∧ Shows b 1 (one q.stale) ∧
        Shows b 2 (one ((if q.solenoid then 2 else 0) + (if q.sensor then 4 else 0))) ∧
        (q.record = none → (inUse s).kind n = .ref → b.drop 3 = List.replicate 10 0xFF) ∧
        (q.record = none → (inUse s).kind n = .mod → b.drop 3 = List.replicate 12 0xFF) ∧
        (∀ p l a v m, q.record = some { values := .ref p l a v, time := m } →
          (m.toNat < 65536 → Shows b 3 (two m.toNat)) ∧ b.drop 5 = two p ++ two l ++ two (code16 a) ++ two v) ∧
        (∀ lp lv rp rv g m, q.record = some { values := .mod lp lv rp rv g, time := m } →
          (m.toNat < 65536 → Shows b 3 (two m.toNat)) ∧ b.drop 5 = two lp ++ two lv ++ two rp ++ two rv ++ two g))) ∧
    (∀ g ∈ [1, 2, 3],
      let b := recordBytes img s .group g
      let q := img.group g
      b.length = 25 ∧ Shows b 0 (two q.pE) ∧ Shows b 2 (two q.pL) ∧ Shows b 4 (two q.lE) ∧ Shows b 6 (two q.lL) ∧
      Shows b 8 (two q.e) ∧ Shows b 10 (one q.d0) ∧ Shows b 11 (one q.lead) ∧ Shows b 12 (two q.pMax) ∧
      Shows b 14 (one q.k) ∧ (groupExists s g = false → b.drop 15 = List.replicate 10 0xFF) ∧
      (groupExists s g = true → Shows b 15 (optBytes 2 (s.group g).pf) ∧ Shows b 17 (two (s.group g).lam) ∧
        Shows b 19 (two (s.group g).load) ∧ Shows b 21 (two (s.group g).target) ∧ Shows b 23 (two s.load.total))) ∧
    (let b := recordBytes img s .channel 0
     b.length = 21 ∧ (s.composer.demand = none → b.take 11 = List.replicate 11 0xFF) ∧
      (∀ d, s.composer.demand = some d → Shows b 0 (two d.value) ∧
        Shows b 2 (one ((if d.stop then 1 else 0) + (if d.park then 2 else 0))) ∧ Shows b 3 [d.seq] ∧
        Shows b 4 (optBytes 2 d.towing) ∧ Shows b 6 (one (if d.ingress = .A then 0 else 1)) ∧
        Shows b 7 (time (some d.time))) ∧
      Shows b 11 (one (if s.composer.timer = none then 0 else 1)) ∧ Shows b 12 (two s.composer.gaps) ∧
      Shows b 14 (two s.composer.effective) ∧ Shows b 16 (one s.composer.mode.code) ∧
      Shows b 17 (one (if s.composer.emergency then 1 else 0)) ∧ Shows b 18 (two s.wheel.reference) ∧
      Shows b 20 (one (if s.wheel.stationary then 1 else 0))) ∧
    (∀ c ∈ channelNumbers,
      let b := recordBytes img s .channel c
      let h := s.channel c
      b.length = 34 ∧ (channelExists s c = false → b = List.replicate 34 0xFF) ∧
      (channelExists s c = true →
        Shows b 0 (optBytes 2 h.driver) ∧ Shows b 2 (optBytes 2 h.serviceTest) ∧ Shows b 4 (optBytes 2 h.stabTest) ∧
        Shows b 6 (optBytes 2 h.stabInt) ∧ Shows b 8 (two h.target) ∧ Shows b 10 (one h.slipState.code) ∧
        Shows b 11 (two h.slip) ∧ Shows b 13 (two (code16 h.accel)) ∧ Shows b 15 (optBytes 2 h.holdP) ∧
        Shows b 17 (optBytes 2 h.level) ∧ Shows b 19 (one h.cycles) ∧ Shows b 20 (one (if h.testHold then 1 else 0)) ∧
        Shows b 21 (one h.requested.mode.code) ∧ Shows b 22 (two h.requested.pressure) ∧
        Shows b 24 (one h.command.mode.code) ∧ Shows b 25 (two h.command.pressure) ∧ Shows b 27 (one h.carried.code) ∧
        Shows b 28 (two h.driverValue) ∧ Shows b 30 (two h.intervention) ∧ Shows b 32 (optBytes 2 h.testTimer))) ∧
    (let b := recordBytes img s .stability 0
      let r := img.stab
      let u := s.stability
      b.length = 64 ∧ Shows b 0 (one (if r.enable then 1 else 0)) ∧ Shows b 1 (two r.vMin) ∧
      (∀ j ∈ List.range 6, Shows b (3 + 4 * j) (two (r.point j).1) ∧ Shows b (5 + 4 * j) (two (r.point j).2)) ∧
      Shows b 27 (one r.dLow) ∧ Shows b 28 (two r.dCrit) ∧ Shows b 30 (two r.aFloor) ∧ Shows b 32 (two r.w) ∧
      Shows b 34 (two r.rr) ∧ Shows b 36 (one r.pTest) ∧ Shows b 37 (two r.window) ∧ Shows b 39 (two r.sLift) ∧
      Shows b 41 (two r.spacing) ∧ Shows b 43 (two r.dInt) ∧ Shows b 45 (two r.recover) ∧
      Shows b 47 (one u.state.code) ∧ Shows b 48 (two u.threshold) ∧ Shows b 50 (two u.watchLevel) ∧
      Shows b 52 (two u.releaseLevel) ∧ Shows b 54 (two u.load) ∧
      Shows b 56 (one (u.severity.code + 4 * u.inner.code + 16 * u.pendingTest.code)) ∧
      Shows b 57 (one ((if u.window = none then 0 else 1) + (if u.spacing = none then 0 else 2) +
        (if u.recover = none then 0 else 4))) ∧
      Shows b 58 (two u.tests) ∧ Shows b 60 (two u.lifts) ∧ Shows b 62 (two u.interventions)) ∧
    (let b := recordBytes img s .tuning 0
      let r := img.tuning
      b.length = 31 ∧ Shows b 0 (two r.decel) ∧ Shows b 2 (two r.absMin) ∧ Shows b 4 (two r.sRel) ∧
      Shows b 6 (two (code16 r.aRel)) ∧ Shows b 8 (two r.sHold) ∧ Shows b 10 (two r.sReapply) ∧
      Shows b 12 (one r.reapplyStep) ∧ Shows b 13 (two r.rLow) ∧ Shows b 15 (two r.rCrit) ∧
      Shows b 17 (two r.demandTimeout) ∧ Shows b 19 (two r.emergency) ∧ Shows b 21 (one r.pAtm) ∧
      Shows b 22 (one r.lowFrac) ∧ Shows b 23 (one r.critFrac) ∧ Shows b 24 (one r.leak) ∧ Shows b 25 (one r.missing) ∧
      Shows b 26 (one (if r.parkWatch then 1 else 0)) ∧ Shows b 27 (one r.parkDuration) ∧ Shows b 28 (one r.settle) ∧
      Shows b 29 (two r.batteryLimit)) ∧
    (∀ i ∈ List.range 16,
      let b := recordBytes img s .tyrePosition i
      let r := img.tyre i
      let q := s.position i
      let shown := fun f : IdField => if f.present then beBytes 4 f.id.toNat else List.replicate 4 0xFF
      Shows b 0 (one (if r.configured then 1 else 0)) ∧ Shows b 1 (one r.group) ∧ Shows b 2 (one r.side.code) ∧
      Shows b 3 (one r.axle) ∧ Shows b 4 (one r.slot) ∧ Shows b 5 (two r.nominal) ∧
      Shows b 7 (one ((if r.primary.present then 1 else 0) + (if r.alternate.present then 2 else 0))) ∧
      Shows b 8 (shown r.primary) ∧ Shows b 12 (shown r.alternate) ∧ Shows b 16 (one q.state.code) ∧
      Shows b 17 (one q.level.code) ∧ Shows b 18 (one ((if q.leak then 1 else 0) + (if q.batteryLow then 2 else 0))) ∧
      Shows b 19 (optBytes 2 q.lastP) ∧ Shows b 21 (optBytes 1 (q.lastTemp.map fun x => (x + 40).toNat)) ∧
      Shows b 22 (optBytes 1 (q.lastSeq.map (·.toNat))) ∧ Shows b 23 (time q.lastTime) ∧
      Shows b 27 (one q.history.length) ∧ b.length = 52 ∧
      (∀ j ∈ [0, 1, 2, 3],
        (q.history.length ≤ j → Shows b (28 + 6 * j) (List.replicate 6 0xFF)) ∧
        (∀ x, q.history[j]? = some x → Shows b (28 + 6 * j) (beBytes 4 x.1.toNat) ∧ Shows b (32 + 6 * j) (two x.2)))) ∧
    (let b := recordBytes img s .tyrePosition 16
     b.length = 7 ∧ Shows b 0 (one s.tyre.fifo.length) ∧ Shows b 1 (one (if s.tyre.overflow then 1 else 0)) ∧
      Shows b 2 (two s.tyre.errors) ∧ (s.tyre.learn = none → b.drop 4 = List.replicate 3 0xFF) ∧
      (∀ l, s.tyre.learn = some l → Shows b 4 (one l.pos) ∧ Shows b 5 (one l.field.code) ∧
        Shows b 6 (one l.saved.code))) ∧
    (∀ i < 16, ∀ x, s.incidents[i]? = some x →
      let b := recordBytes img s .incident i
      b.length = 12 ∧ Shows b 0 (one x.kind.code) ∧ Shows b 1 (one x.detail) ∧ Shows b 2 (one x.repeats) ∧
      Shows b 3 (one (if x.closed = none then 0 else 1)) ∧ Shows b 4 (time (some x.opened)) ∧ Shows b 8 (time x.closed)) ∧
    (let b := recordBytes img s .incident 16
     b.length = 10 ∧ Shows b 0 (one s.incidents.length) ∧
      Shows b 1 (one (s.incidents.filter (·.closed.isNone)).length) ∧ Shows b 2 (beBytes 4 s.time.toNat) ∧
      Shows b 6 (one (if s.mgmt.writing = none then 0 else 1)) ∧
      Shows b 7 (one ((if s.mgmt.shadow = none then 0 else 1) + (if s.mgmt.dirty then 2 else 0) +
        (if s.mgmt.followOn then 4 else 0))) ∧
      Shows b 8 (two s.generation.toNat)) ∧
    (∀ i < 64, recordBytes img s .hits i = two (s.hits.getD i 0)))

/-- R115, R143, R164, R165, R167: ENTER_SERVICE needs standstill and copies the active image into the shadow; LEAVE_SERVICE
and the idle timer discard it and end every service test; DISCARD copies the active image again; CLEAR_INCIDENTS removes the
CLOSED records. The time a timer has left passes first, which is the model's choice (log entry 1). -/
def Obligations.ServiceModeIsEnteredAndLeft : Prop :=
  ∀ (s : State) (r : Request),
    (taken s r → free s → s.wheel.stationary = false → ∃ t, exec (.enterService r) s = .next t ∧
      Answered 3#8 r .refusedMoving [] s t ∧ t.mgmt = idled s.mgmt ∧ SameBut [portPart r.port, .mgmt] s t) ∧
    (taken s r → free s → s.wheel.stationary = true → ∃ t, exec (.enterService r) s = .next t ∧
      Answered 3#8 r .done [] s t ∧
      t.mgmt = (if s.mgmt.shadow.isSome then { s.mgmt with idle := some 300000 }
        else { s.mgmt with shadow := some s.active, dirty := false, idle := some 300000 }) ∧
      SameBut [portPart r.port, .mgmt] s t) ∧
    (taken s r → free s → s.mgmt.shadow.isSome = true →
      (∃ t, exec (.leaveService r) s = .next t ∧ Answered 4#8 r .done [if s.mgmt.dirty then 1 else 0] s t ∧
        t.mgmt = { s.mgmt with shadow := none, dirty := false, idle := none } ∧
        (∀ c ∈ channelNumbers, (t.channel c).serviceTest = none ∧ (t.channel c).testTimer = none) ∧
        SameBut [portPart r.port, .mgmt, .channels, .load] s t) ∧
      (∃ t, exec (.discard r) s = .next t ∧ Answered 7#8 r .done [] s t ∧
        t.mgmt = { s.mgmt with shadow := some s.active, dirty := false, idle := some 300000 } ∧
        SameBut [portPart r.port, .mgmt] s t) ∧
      (∃ t, exec (.clearIncidents r) s = .next t ∧ Answered 11#8 r .done [] s t ∧
        t.incidents = s.incidents.filter (fun i => i.closed.isNone) ∧ t.tyre = { s.tyre with overflow := false } ∧
        t.mgmt = idled s.mgmt ∧ SameBut [portPart r.port, .incidents, .tyre, .mgmt] s t)) ∧
    (∀ k, s.mgmt.idle = some k → s.mgmt.shadow.isSome = true → ∃ t, exec .serviceIdleTimerExpiry s = .next t ∧
      t.mgmt = { (elapse k s).mgmt with shadow := none, dirty := false, idle := none } ∧
      (∀ c ∈ channelNumbers, (t.channel c).serviceTest = none ∧ (t.channel c).testTimer = none) ∧
      SameBut [.mgmt, .channels, .load] (elapse k s) t)

/-- R166, R185: STAGE answers BAD_ADDRESS for a kind, index or offset that is not stageable or bytes that end inside a field,
BAD_VALUE for a value out of its range, and otherwise DONE: the shadow takes the bytes and the dirty flag sets. -/
def Obligations.StageWritesTheShadow : Prop :=
  ∀ (s : State) (r : Request) (img : Image),
    taken s r → free s → s.mgmt.shadow = some img → 3 ≤ r.args.length →
      let kind := beAt r.args 0 2 / 4096
      let i := beAt r.args 0 2 / 64 % 64
      let off := beAt r.args 0 2 % 64
      let data := r.args.drop 2
      let m := { s.mgmt with idle := some 300000 }
      ∃ t, exec (.stage r) s = .next t ∧ SameBut [portPart r.port, .mgmt] s t ∧
        (RecKind.ofCode kind = none → Answered 5#8 r .badAddress [] s t ∧ t.mgmt = m) ∧
        (∀ k, RecKind.ofCode kind = some k →
          (stageable k i = false ∨ fieldsWritten (configLayout img k i) off data.length = none →
            Answered 5#8 r .badAddress [] s t ∧ t.mgmt = m) ∧
          (∀ fs, fieldsWritten (configLayout img k i) off data.length = some fs → stageable k i = true →
            (valuesOk fs data = false → Answered 5#8 r .badValue [] s t ∧ t.mgmt = m) ∧
            (valuesOk fs data = true → Answered 5#8 r .done [] s t ∧
              t.mgmt = { m with
                shadow := some (setConfigBytes img k i (splice (configBytes img k i) off data)), dirty := true })))

/-- R163, R166 and section 11.2: after an accepted STAGE, READ of the shadow shows the addressed record's configuration bytes
with the staged bytes in their place, and every other record's as before, but those of the odd slot after an even slot whose
staged byte changes its width. That an ID whose present bit is 0 reads as all ones is the model's reading (log entry 20). -/
def Obligations.StagedBytesReadBack : Prop :=
  ∀ (s : State) (r : Request) (img : Image) (k : RecKind),
    taken s r → free s → s.mgmt.shadow = some img → 3 ≤ r.args.length → img.shaped →
      RecKind.ofCode (beAt r.args 0 2 / 4096) = some k → (stageInto img r.args).1 = .done →
      let i := beAt r.args 0 2 / 64 % 64
      let off := beAt r.args 0 2 % 64
      ∃ t img', exec (.stage r) s = .next t ∧ t.mgmt.shadow = some img' ∧ img'.shaped ∧
        (∀ k' i' args', stageable k' i' = true →
          args'.length = 3 → beAt args' 0 2 / 4096 = k'.code → beAt args' 0 2 / 64 % 64 = i' → beAt args' 2 1 = 1 →
          beAt args' 0 2 % 64 < (shownConfig img' k' i').length →
            readAnswer t args' =
              (.done, ((shownConfig img' k' i' ++ runtimeBytes t k' i').drop (beAt args' 0 2 % 64)).take 5)) ∧
        configBytes img' k i = splice (configBytes img k i) off (r.args.drop 2) ∧
        (k ≠ .tyrePosition → shownConfig img' k i = splice (shownConfig img k i) off (r.args.drop 2)) ∧
        (k = .tyrePosition →
          let b := configBytes img' k i
          let ones := List.replicate 4 0xFF#8
          shownConfig img' k i = b.take 8 ++ (if (byteAt b 7).getLsbD 0 then (b.drop 8).take 4 else ones) ++
            (if (byteAt b 7).getLsbD 1 then (b.drop 12).take 4 else ones)) ∧
        (∀ k' i', stageable k' i' = true → (k' ≠ k ∨ i' ≠ i) →
          ¬ (k = .classEntry ∧ k' = .classEntry ∧ i' = i + 1 ∧ i % 2 = 0 ∧
            (byteAt (img'.slot i) 0).getLsbD 1 ≠ (byteAt (img.slot i) 0).getLsbD 1) →
          configBytes img' k' i' = configBytes img k' i' ∧ shownConfig img' k' i' = shownConfig img k' i')

/-- R162, R168: COMMIT while moving is REFUSED_MOVING; a shadow with a failing record is INVALID with the first failing kind
and index; one that passes is written with the next generation, and the answer waits for the store's report. -/
def Obligations.CommitValidatesAndWrites : Prop :=
  ∀ (s : State) (r : Request) (img : Image),
    taken s r → free s → s.mgmt.shadow = some img →
      ∃ t, exec (.commit r) s = .next t ∧ SameBut [portPart r.port, .mgmt] s t ∧
        (s.wheel.stationary = false → Answered 6#8 r .refusedMoving [] s t ∧
          t.mgmt = { s.mgmt with idle := some 300000 }) ∧
        (∀ a p b, validationOrder = a ++ p :: b → s.wheel.stationary = true → recordOk img p.1 p.2 = false →
          (∀ q ∈ a, recordOk img q.1 q.2 = true) →
          Answered 6#8 r .invalid [BitVec.ofNat 8 p.1.code, BitVec.ofNat 8 p.2] s t ∧
            t.mgmt = { s.mgmt with idle := some 300000 }) ∧
        (s.wheel.stationary = true → (∀ q ∈ validationOrder, recordOk img q.1 q.2 = true) →
          t.port r.port = s.port r.port ∧
          t.mgmt = { s.mgmt with
            idle := some 300000, writing := some { image := img, generation := s.generation + 1, commit := true },
            inProgress := some { tag := r.tag, port := r.port, origin := r.origin } })

/-- R18, R113, R114, R156, R158: LEARN_TYRE accepted puts the position in LEARNING with 120 s, reports its change of state to
port A and is answered DONE; CANCEL_LEARN returns it to its saved state, reports that change to port A and is answered DONE,
as it is with no learn running; SERVICE_TEST starts, replaces or ends a channel's test. Each is otherwise answered with the
first result of its table whose condition holds, and changes nothing else. That the TYRE frame of an accepted or a cancelled
learn is queued before the answer is the model's choice (log entry 25). -/
def Obligations.HandedRequestsReachTheirBlocks : Prop :=
  ∀ (s : State) (r : Request),
    taken s r → free s →
      (2 ≤ r.args.length → s.tyre.learn = none → s.wheel.stationary = true → beAt r.args 0 1 ≤ 15 → beAt r.args 1 1 ≤ 1 →
        (s.active.tyre (beAt r.args 0 1)).configured = true → s.tyre.positions.length = 16 →
        ∃ t, exec (.learnTyre r) s = .next t ∧
          t.tyre.learn = some
            { pos := beAt r.args 0 1, field := if beAt r.args 1 1 = 0 then .primary else .alternate,
              saved := (s.position (beAt r.args 0 1)).state, timer := some 120000 } ∧
          (t.position (beAt r.args 0 1)).state = .learning ∧ (r.port = .B → Answered 8#8 r .done [] s t) ∧
          (r.port = .A → (s.position (beAt r.args 0 1)).state ≠ .learning →
            let q := s.position (beAt r.args 0 1)
            let report : Frame :=
              { cls := 0x0A, target := 0, origin := BitVec.ofNat 3 (s.relay.own.getD 7),
                data := [byteAt r.args 0, 2] ++ optBytes 2 q.lastP ++
                  optBytes 1 (q.lastTemp.map (fun c => (c + 40).toNat)) ++ [BitVec.ofNat 8 (severityOf q.state).code] }
            t.portA = (s.portA.enqueue .general { frame := report, restart := false }).enqueue .general
              (answerTo s 8#8 r .done [])) ∧
          SameBut [.portA, portPart r.port, .channels, .load, .tyre, .mgmt] s t) ∧
      (∃ t, exec (.cancelLearn r) s = .next t ∧ t.tyre.learn = none ∧
        (∀ l, s.tyre.learn = some l → l.pos < 16 → s.tyre.positions.length = 16 →
          let q := s.position l.pos
          let report : Frame :=
            { cls := 0x0A, target := 0, origin := BitVec.ofNat 3 (s.relay.own.getD 7),
              data := [BitVec.ofNat 8 l.pos, BitVec.ofNat 8 l.saved.code] ++ optBytes 2 q.lastP ++
                optBytes 1 (q.lastTemp.map (fun c => (c + 40).toNat)) ++ [BitVec.ofNat 8 (severityOf l.saved).code] }
          let reported := s.portA.enqueue .general { frame := report, restart := false }
          t.position l.pos = { q with state := l.saved } ∧
          (∀ j ∈ List.range 16, j ≠ l.pos → t.position j = s.position j) ∧ t.mgmt = idled s.mgmt ∧
          (q.state ≠ l.saved → r.port = .A → t.portA = reported.enqueue .general (answerTo s 9#8 r .done [])) ∧
          (q.state ≠ l.saved → r.port = .B → t.portA = reported ∧ Answered 9#8 r .done [] s t) ∧
          (q.state = l.saved → Answered 9#8 r .done [] s t)) ∧
        (s.tyre.learn = none → Answered 9#8 r .done [] s t ∧ SameBut [portPart r.port, .mgmt] s t) ∧
        SameBut [.portA, portPart r.port, .channels, .load, .tyre, .mgmt] s t) ∧
      (∀ c ∈ channelNumbers, 5 ≤ r.args.length → s.mgmt.shadow.isSome = true → s.wheel.stationary = true →
        beAt r.args 0 1 = c → channelExists s c = true → s.channels.length = 6 → beAt r.args 1 2 ≤ pMaxOf s c →
        100 ≤ beAt r.args 3 2 → beAt r.args 3 2 ≤ 10000 →
        ∃ t, exec (.serviceTest r) s = .next t ∧ Answered 10#8 r .done [] s t ∧
          (t.channel c).serviceTest = (if beAt r.args 1 2 = 0 then none else some (beAt r.args 1 2)) ∧
          (t.channel c).testTimer = (if beAt r.args 1 2 = 0 then none else some (beAt r.args 3 2)) ∧
          beAt r.args 1 2 ≤ (t.channel c).target ∧ SameBut [portPart r.port, .channels, .load, .mgmt] s t) ∧
      (2 ≤ r.args.length →
        let i := beAt r.args 0 1
        let bad := 15 < i ∨ (s.active.tyre i).configured = false
        let refused := fun res => ∃ t, exec (.learnTyre r) s = .next t ∧ Answered 8#8 r res [] s t ∧
          t.mgmt = idled s.mgmt ∧ SameBut [portPart r.port, .mgmt] s t
        (s.tyre.learn ≠ none → refused .busy) ∧
        (s.tyre.learn = none → s.wheel.stationary = false → refused .refusedMoving) ∧
        (s.tyre.learn = none → s.wheel.stationary = true → bad → refused .badAddress) ∧
        (s.tyre.learn = none → s.wheel.stationary = true → ¬ bad → 1 < beAt r.args 1 1 → refused .badValue)) ∧
      (5 ≤ r.args.length → s.mgmt.shadow.isSome = true →
        let c := beAt r.args 0 1
        let bad := c ∉ channelNumbers ∨ channelExists s c = false
        let refused := fun res => ∃ t, exec (.serviceTest r) s = .next t ∧ Answered 10#8 r res [] s t ∧
          t.mgmt = idled s.mgmt ∧ SameBut [portPart r.port, .mgmt] s t
        (s.wheel.stationary = false → refused .refusedMoving) ∧
        (s.wheel.stationary = true → bad → refused .badAddress) ∧
        (s.wheel.stationary = true → ¬ bad →
          pMaxOf s c < beAt r.args 1 2 ∨ beAt r.args 3 2 < 100 ∨ 10000 < beAt r.args 3 2 → refused .badValue))

/-- R171: RESTART in service mode is answered DONE; the restart begins at the TRANSMITTED report of that answer, at its
discard, at a flush of its port or after 200 ms, and waits for the report of a store write in progress. At a restart every
block takes its start values (what the chain last sent and carried: log entry 13). The time a timer has left passes first,
which is the model's choice (log entry 1). -/
def Obligations.RestartBeginsAtItsEvents : Prop :=
  ∀ (s : State) (r : Request) (p : Port) (k : Nat),
    (taken s r → free s → s.mgmt.shadow.isSome = true → (s.port r.port).present = true →
      (s.port r.port).general.length < 24 → ∃ t, exec (.restart r) s = .next t ∧
        t.port r.port = (s.port r.port).enqueue .general { answerTo s 12#8 r .done [] with restart := true } ∧
        t.mgmt = { s.mgmt with restartPending := true, restartTimer := some 200, idle := some 300000 } ∧
        SameBut [portPart r.port, .mgmt] s t) ∧
    (taken s r → free s → s.mgmt.shadow.isSome = true →
      (s.port r.port).present = false ∨ ¬ (s.port r.port).general.length < 24 →
        ∃ t, exec (.restart r) s = .next t ∧ Restarted s t) ∧
    (s.mgmt.restartTimer = some k → s.mgmt.restartPending = true → s.mgmt.writing = none →
      ∃ t, exec .restartDelayExpiry s = .next t ∧ Restarted (elapse k s) t) ∧
    (s.mgmt.restartTimer = some k → s.mgmt.restartPending = true → s.mgmt.writing ≠ none →
      ∃ t, exec .restartDelayExpiry s = .next t ∧
        t.mgmt = { (elapse k s).mgmt with restartDue := true, restartTimer := none } ∧ SameBut [.mgmt] (elapse k s) t) ∧
    ((s.port p).offersRestart = true → s.mgmt.restartPending = true → s.mgmt.writing = none →
      ∃ t, exec (.linkReportTransmitted p .onOffer) s = .next t ∧ Restarted s t) ∧
    ((s.port p).presence = some k → (s.port p).holdsRestart = true → s.mgmt.restartPending = true →
      s.mgmt.writing = none → ∃ t, exec (.presenceTimerExpiry p) s = .next t ∧ Restarted (elapse k s) t)

/-- R169, R170: the store's report of success puts what was written into the store; a commit's image becomes active with its
generation, hit counts return to 0, CONFIG_INVALID and its incident end; a pending follow-on write begins. The report of
failure leaves the stored image failing its CRC and opens STORE_WRITE_FAILED; a commit is answered INVALID with 0xFF 0xFF,
and the active image, the shadow and the dirty flag stay. R171: a restart that has waited for either report begins at it,
with the store as the report leaves it (its start values: log entry 13). -/
def Obligations.StoreReportsEndTheWrite : Prop :=
  (∀ (s : State),
    (s.mgmt.writing = none → exec .storeWriteSucceeded s = .next s) ∧
    (∀ w, s.mgmt.writing = some w → s.mgmt.restartDue = false →
      ∃ t, exec .storeWriteSucceeded s = .next t ∧
        t.store = { image := w.image, generation := w.generation, crcOk := true } ∧
        (∀ i ∈ t.incidents, i.kind = .storeWriteFailed → i.closed ≠ none) ∧ t.mgmt.followOn = false ∧
        t.mgmt.writing = (if s.mgmt.followOn then
          some { image := t.active, generation := t.generation, commit := false } else none) ∧
        (w.commit = true → t.active = w.image ∧ t.generation = w.generation ∧ t.configInvalid = false ∧
          t.hits = List.replicate 64 0 ∧ t.mgmt.shadow = s.mgmt.shadow.map (fun _ => w.image) ∧
          t.mgmt.dirty = false ∧ t.mgmt.inProgress = none ∧
          (∀ i ∈ t.incidents, i.kind = .storeInvalid → i.closed ≠ none) ∧ t.time = s.time ∧ t.relay = s.relay ∧
          t.power = s.power) ∧
        (w.commit = false → SameBut [.incidents, .store, .mgmt] s t)) ∧
    (∀ w, s.mgmt.writing = some w → s.mgmt.restartDue = true → ∃ t, exec .storeWriteSucceeded s = .next t ∧
      Restarted { s with store := { image := w.image, generation := w.generation, crcOk := true } } t)) ∧
  (∀ (s : State),
    (s.mgmt.writing = none → exec .storeWriteFailed s = .next s) ∧
    (∀ w, s.mgmt.writing = some w → s.mgmt.restartDue = false →
      ∃ t, exec .storeWriteFailed s = .next t ∧ t.store = { s.store with crcOk := false } ∧
        HasOpen .storeWriteFailed (if w.commit then 1 else 2) t ∧ t.mgmt.shadow = s.mgmt.shadow ∧
        t.mgmt.dirty = s.mgmt.dirty ∧ t.mgmt.followOn = false ∧
        t.mgmt.writing = (if s.mgmt.followOn then
          some { image := s.active, generation := s.generation, commit := false } else none) ∧
        (∀ q, s.mgmt.inProgress = some q → w.commit = true → t.mgmt.inProgress = none ∧
          t.port q.port = (s.port q.port).enqueue .general
            (answerTo s 6#8 { port := q.port, origin := q.origin, tag := q.tag, args := [] } .invalid [0xFF, 0xFF])) ∧
        (w.commit = false → t.portA = s.portA ∧ t.portB = s.portB) ∧
        SameBut [.store, .incidents, .portA, .portB, .mgmt] s t) ∧
    (∀ w, s.mgmt.writing = some w → s.mgmt.restartDue = true → ∃ t, exec .storeWriteFailed s = .next t ∧
      Restarted { s with store := { s.store with crcOk := false } } t))

/-- R43, R88, R116, R119, R159, R162, R169, R176: at the swap of a commit reported in RUN the COMMIT is answered DONE and the
blocks apply the new image: loads, targets, commands and brake mode follow it, every position takes its new committed fields,
the stability unit recomputes its threshold from the load and severity it holds, and a chain that was unconfigured starts,
with session number 1, which is the model's reading (log entry 11). A missing timer's expiry lets the time it has left pass
first, the model's choice (log entry 1). Out of RUN the blocks keep what they hold, and apply the swap at their next event:
which events these are is the model's choice (log entry 23). At every change of the power state it has been applied. -/
def Obligations.SwapReachesTheBlocks : Prop :=
  (∀ (s : State) (w : Writing),
    s.mgmt.writing = some w → w.commit = true → s.mgmt.restartDue = false → s.channels.length = 6 →
      s.tyre.positions.length = 16 → ∃ t, exec .storeWriteSucceeded s = .next t ∧
      (s.power.state ≠ .run → t.unapplied = some (s.unapplied.getD s.active) ∧
        (s.mgmt.inProgress = none → t.portA = s.portA ∧ t.portB = s.portB) ∧
        SameBut [.active, .generation, .configInvalid, .store, .incidents, .portA, .portB, .hits, .mgmt, .unapplied] s t) ∧
      (s.power.state = .run → s.unapplied = none →
        t.unapplied = none ∧ ChannelsFollow t ∧ LoadFollows t ∧ ModeFollows t ∧
        (∀ i ∈ List.range 16, TookFields s.active (some (w.image.tuning.missing * 60000)) s t i) ∧
        (s.power.settle = none → s.chain.period = none → w.image.chain.count ≠ 0 →
          t.chain.bound = some w.image.chain ∧ t.chain.health = .starting ∧ t.chain.session = 1 ∧
          t.chain.outstanding = some 1 ∧ t.chain.period = some w.image.chain.period) ∧
        (s.power.settle ≠ none ∨ s.chain.period ≠ none ∨ w.image.chain.count = 0 → t.chain = s.chain) ∧
        (let n := thresholdOf w.image.stab s.stability.load s.stability.severity
         t.stability.load = s.stability.load ∧ t.stability.severity = s.stability.severity ∧ t.stability.threshold = n ∧
          t.stability.watchLevel = n * w.image.stab.w / 256 ∧ t.stability.releaseLevel = n * w.image.stab.rr / 256) ∧
        (w.image.stab.enable = false → t.stability.state = .off) ∧
        (t.stability.state = .test → t.stability.testChannels = s.stability.testChannels ∧
          ∀ c ∈ channelNumbers, c ∈ s.stability.testChannels → channelExists t c = true →
            (t.channel c).stabTest = some w.image.stab.pTest) ∧
        (∀ q, s.mgmt.inProgress = some q →
          let answer := answerTo s 6#8 { port := q.port, origin := q.origin, tag := q.tag, args := [] } .done []
          (q.port = .B → t.portB = s.portB.enqueue .general answer) ∧
          (q.port = .A → s.tyre.learn = none → t.stability.state = s.stability.state →
            (∀ i ∈ List.range 16, (t.position i).state = (s.position i).state) →
              t.portA = s.portA.enqueue .general answer)))) ∧
  (∀ s : State,
    (∀ b, s.power.state ≠ .sleep → exec (.telegramDelivered b) s = exec (.telegramDelivered b) (applyHeld s)) ∧
    (s.tyre.fifo ≠ [] → exec .telegramTaken s = exec .telegramTaken (applyHeld s)) ∧
    (s.power.state = .sleep → s.power.lockout = false → exec .wakeLineAsserted s = exec .wakeLineAsserted (applyHeld s)) ∧
    (s.power.state ≠ .run → exec .linkPowerOn s = exec .linkPowerOn (applyHeld s)) ∧
    (∀ i < 16, ∀ r, (s.position i).missing = some r → ∃ t, exec (.missingTimerExpiry i) s = .next t ∧ t.unapplied = none ∧
      (((applyHeld (elapse r s)).position i).missing ≠ some 0 → t = applyHeld (elapse r s)) ∧
      (((applyHeld (elapse r s)).position i).missing = some 0 →
        exec (.missingTimerExpiry i) (applyHeld (elapse r s)) = .next t)) ∧
    (s.unapplied = none → applyHeld s = s) ∧
    (∀ before, s.unapplied = some before → s.channels.length = 6 → s.tyre.positions.length = 16 →
      let t := applyHeld s
      let full := if s.power.state = .sleep then none else some (s.active.tuning.missing * 60000)
      t.unapplied = none ∧ ChannelsFollow t ∧ LoadFollows t ∧ ModeFollows t ∧
      (∀ i ∈ List.range 16, TookFields before full s t i) ∧
      SameBut [.incidents, .portA, .channels, .load, .composer, .stability, .tyre, .unapplied] s t)) ∧
  (∀ (s t : State) (c : Instr), PowerWf s → exec c s = .next t → t.power.state ≠ s.power.state → t.unapplied = none)

/-! ### Power -/

/-- R170, R172, R177, R180, R183: a cold start empties the incident list, sets the operating time to 0, loads the store or
the factory image, starts every block at its start values (the tyre unit, load unit and channels among them; what the chain
last sent and carried: log entry 13), and enters RUN with link power and SLEEP without it, locked out on a low battery. -/
def Obligations.ColdStartStartsEverything : Prop :=
  ∀ (s : State) (v : Nat) (link : Bool),
    v ≤ 400 → ∃ t, exec (.coldStart v link) s = .next t ∧
      Started { s.store with crcOk := s.store.crcOk && s.mgmt.writing.isNone } t ∧ t.time = 0 ∧ t.pending = s.pending ∧
      (t.configInvalid = false → t.incidents = []) ∧
      (t.configInvalid = true → t.incidents =
        [{ kind := .storeInvalid, detail := if s.store.crcOk ∧ s.mgmt.writing = none then 2 else 1, repeats := 0,
           opened := 0, closed := none }]) ∧
      t.power.linkPower = link ∧ t.power.voltage = v ∧ t.power.park = none ∧ t.power.listen = none ∧
      (t.power.low = true ↔ v < t.active.tuning.batteryLimit) ∧
      (link = true → t.power.state = .run ∧ t.power.settle = some t.active.tuning.settle ∧ t.power.lockout = false ∧
        t.power.sample = some 1000 ∧ t.power.wake = none) ∧
      (link = false → Slept t ∧ t.power.settle = none ∧ t.power.lockout = t.power.low ∧
        t.power.sample = if t.power.low then none else some 1000)

/-- R20, R60, R78, R96, R117, R141, R158, R162, R165, R178: a link-power-off event in RUN brings every block to rest and
enters PARK_WATCH, or SLEEP with park watch disabled or the battery low; out of RUN it is only recorded. That the ports are
flushed before the blocks report, so that no discard is counted, is the model's choice (log entry 17). In RUN no swap waits
for the blocks (StepKeepsThePowerStates). -/
def Obligations.LinkPowerOffLeavesRun : Prop :=
  ∀ (s : State) (v : Nat),
    (s.power.state ≠ .run → ∃ t, exec (.linkPowerOff v) s = .next t ∧ t.power = { s.power with linkPower := false } ∧
      SameBut [.power] s t) ∧
    (s.power.state = .run → s.unapplied = none → v ≤ 400 → ∃ t, exec (.linkPowerOff v) s = .next t ∧ Rests t ∧
      t.power.linkPower = false ∧ t.power.voltage = v ∧ t.power.settle = none ∧ t.wheel = Wheel.start ∧
      t.composer.mode = .fallback ∧ t.composer.emergency = false ∧ (∀ g ∈ [1, 2, 3], (t.group g).pf = none) ∧
      (t.power.low = true ↔ v < s.active.tuning.batteryLimit ∨
        (s.power.low = true ∧ v < s.active.tuning.batteryLimit + 10)) ∧
      (s.active.tuning.parkWatch = true → t.power.low = false →
        t.power.state = .parkWatch ∧ t.power.phase = .parked ∧
        t.power.park = if s.active.tuning.parkDuration = 0 then none
          else some (s.active.tuning.parkDuration * 60000)) ∧
      (s.active.tuning.parkWatch = false ∨ t.power.low = true → Slept t) ∧
      (t.power.low = true → t.power.lockout = true ∧ t.power.wake = none ∧ t.power.sample = none) ∧
      t.portA.discards = s.portA.discards ∧ t.portB.discards = s.portB.discards ∧
      t.portA.lastReception = s.portA.lastReception ∧ t.chain.goodTotal = s.chain.goodTotal ∧
      t.chain.failTotal = s.chain.failTotal ∧ t.composer.gaps = s.composer.gaps ∧
      SameBut [.incidents, .portA, .portB, .relay, .chain, .wheel, .channels, .load, .composer, .stability, .tyre, .mgmt,
        .power] s t)

/-- R59, R152, R182: a link-power-on event out of RUN enters RUN with the settle timer running and the lockout ended, and
from SLEEP restarts the missing timers; in RUN it is only recorded (the model's reading, log entry 12). Whether the last
failure reason is kept or NONE then is left open (log entry 10). No swap waits for the blocks (R176: else they apply it
first, SwapReachesTheBlocks). -/
def Obligations.LinkPowerOnEntersRun : Prop :=
  ∀ (s : State),
    (s.power.state = .run → ∃ t, exec .linkPowerOn s = .next t ∧ t.power = { s.power with linkPower := true } ∧
      SameBut [.power] s t) ∧
    (s.power.state ≠ .run → s.unapplied = none → ∃ t, exec .linkPowerOn s = .next t ∧ t.power.state = .run ∧
      t.power.linkPower = true ∧
      t.power.lockout = false ∧ t.power.settle = some s.active.tuning.settle ∧ t.power.park = none ∧
      t.power.wake = none ∧ t.power.listen = none ∧ t.power.sample = some (s.power.sample.getD 1000) ∧
      t.power.voltage = s.power.voltage ∧ t.power.low = s.power.low ∧ t.chain.health = .starting ∧
      t.chain.session = 0 ∧ t.chain.outstanding = none ∧ t.chain.nodes = List.replicate 4 Node.start ∧
      t.chain.goodTotal = s.chain.goodTotal ∧ t.chain.failTotal = s.chain.failTotal ∧
      (t.chain.lastFailure = .none ∨ t.chain.lastFailure = s.chain.lastFailure) ∧ t.composer.mode = .fallback ∧
      t.composer.emergency = false ∧
      (s.power.state = .sleep → s.tyre.positions.length = 16 → ∀ i ∈ List.range 16,
        (s.active.tyre i).assigned = true → (s.position i).state ≠ .missing →
          (t.position i).missing = some (s.active.tuning.missing * 60000)) ∧
      (s.power.state = .parkWatch → t.tyre = s.tyre) ∧
      SameBut [.incidents, .portA, .chain, .channels, .load, .composer, .stability, .tyre, .power] s t)

/-- R179 to R181: in PARK_WATCH the park and listen timers keep watch while a tyre is CRITICAL or LEAK and otherwise put the
part to SLEEP; in SLEEP the wake timer, and the wake line without a lockout, wake it to listen. A swap that waits is applied on
going to SLEEP and on waking (R176, log entry 23). The time a timer has left passes first, which is the model's choice (log
entry 1). -/
def Obligations.ParkSleepAndListen : Prop :=
  ∀ (s : State) (r : Nat),
    let e := elapse r s
    let park := if s.active.tuning.parkDuration = 0 then none else some (s.active.tuning.parkDuration * 60000)
    (s.power.park = some r → s.power.state = .parkWatch → s.power.phase = .parked →
      ∃ t, exec .parkTimerExpiry s = .next t ∧
        (anyFailing s = true → t.power = { e.power with park := park } ∧ SameBut [.power] e t) ∧
        (anyFailing s = false → Slept t ∧ SameBut [.tyre, .power] (applyHeld e) t)) ∧
    (s.power.listen = some r → s.power.state = .parkWatch → s.power.phase = .listening →
      ∃ t, exec .listenTimerExpiry s = .next t ∧
        (anyFailing s = true → t.power = { e.power with phase := .parked, listen := none, park := park } ∧
          SameBut [.power] e t) ∧
        (anyFailing s = false → Slept t ∧ SameBut [.tyre, .power] (applyHeld e) t)) ∧
    (s.power.wake = some r → s.power.state = .sleep → s.tyre.positions.length = 16 →
      ∃ t, exec .wakeTimerExpiry s = .next t ∧ Listening t ∧ SameBut [.tyre, .power] (applyHeld e) t) ∧
    (s.power.state = .sleep → s.power.lockout = false → s.tyre.positions.length = 16 →
      ∃ t, exec .wakeLineAsserted s = .next t ∧ Listening t ∧ SameBut [.tyre, .power] (applyHeld s) t) ∧
    (s.power.state ≠ .sleep ∨ s.power.lockout = true → exec .wakeLineAsserted s = .next s)

/-- R177: the battery sample timer restarts; out of RUN, or while the REF gives no voltage, the supply sense is read, the low
flag moves with its hysteresis of 10, and its setting out of RUN locks the part out in SLEEP. In RUN a completion with a
fresh REF record takes the REF's battery voltage in its place. The time a timer has left passes first, which is the model's
choice (log entry 1). A swap that waits is applied on going to SLEEP (R176, log entry 23). -/
def Obligations.BatterySampleIsJudged : Prop :=
  (∀ (s : State) (r v : Nat),
    let e := elapse r s
    s.power.sample = some r → v ≤ 400 → ∃ t, exec (.batterySampleTimerExpiry v) s = .next t ∧
      (s.power.state = .run → refDegraded s = false → (refRecord s).isSome = true →
        t.power = { e.power with sample := some 1000 } ∧ SameBut [.power] e t) ∧
      (s.power.state ≠ .run ∨ refDegraded s = true ∨ refRecord s = none →
        t.power.voltage = v ∧
        (t.power.low = true ↔ v < s.active.tuning.batteryLimit ∨
          (s.power.low = true ∧ v < s.active.tuning.batteryLimit + 10)) ∧
        (s.power.state = .run → t.power = { e.power with
          sample := some 1000, voltage := v, low := t.power.low } ∧ SameBut [.power] e t) ∧
        (s.power.state ≠ .run → t.power.low = true → s.power.low = false →
          t.power.state = .sleep ∧ t.power.lockout = true ∧ t.power.wake = none ∧ t.power.sample = none) ∧
        (s.power.state ≠ .run → t.power.low = false ∨ s.power.low = true →
          t.power = { e.power with sample := some 1000, voltage := v, low := t.power.low } ∧ SameBut [.power] e t)) ∧
      (t.power.state = s.power.state → SameBut [.tyre, .power] e t) ∧
      (t.power.state ≠ s.power.state → SameBut [.tyre, .power] (applyHeld e) t)) ∧
  (∀ (s : State) (fresh before : List Nat) (r : Record),
    let t := blockWork fresh before .power s
    refRecord s = some r →
      ((∃ n, (inUse s).ref = some n ∧ n ∈ fresh) → s.power.state = .run →
        t.power = { s.power with voltage := r.battery, low := t.power.low } ∧
        (t.power.low = true ↔ r.battery < s.active.tuning.batteryLimit ∨
          (s.power.low = true ∧ r.battery < s.active.tuning.batteryLimit + 10)) ∧ SameBut [.power] s t) ∧
      ((∀ n, (inUse s).ref = some n → n ∉ fresh) → t = s))
end

