-- ==== Sys2Proof/Laws/State.lean ====
section
/-! SUPPORT. One lemma per field per update of the state, so that no later proof unfolds a record update. -/

namespace Sys2Proof.Machine

/-! ### updRelay -/

@[simp] theorem updRelay_time (s : State) (f : Relay → Relay) : (s.updRelay f).time = s.time := rfl
@[simp] theorem updRelay_active (s : State) (f : Relay → Relay) : (s.updRelay f).active = s.active := rfl
@[simp] theorem updRelay_generation (s : State) (f : Relay → Relay) : (s.updRelay f).generation = s.generation := rfl
@[simp] theorem updRelay_configInvalid (s : State) (f : Relay → Relay) : (s.updRelay f).configInvalid = s.configInvalid := rfl
@[simp] theorem updRelay_store (s : State) (f : Relay → Relay) : (s.updRelay f).store = s.store := rfl
@[simp] theorem updRelay_incidents (s : State) (f : Relay → Relay) : (s.updRelay f).incidents = s.incidents := rfl
@[simp] theorem updRelay_portA (s : State) (f : Relay → Relay) : (s.updRelay f).portA = s.portA := rfl
@[simp] theorem updRelay_portB (s : State) (f : Relay → Relay) : (s.updRelay f).portB = s.portB := rfl
@[simp] theorem updRelay_relay (s : State) (f : Relay → Relay) : (s.updRelay f).relay = f s.relay := rfl
@[simp] theorem updRelay_hits (s : State) (f : Relay → Relay) : (s.updRelay f).hits = s.hits := rfl
@[simp] theorem updRelay_chain (s : State) (f : Relay → Relay) : (s.updRelay f).chain = s.chain := rfl
@[simp] theorem updRelay_wheel (s : State) (f : Relay → Relay) : (s.updRelay f).wheel = s.wheel := rfl
@[simp] theorem updRelay_channels (s : State) (f : Relay → Relay) : (s.updRelay f).channels = s.channels := rfl
@[simp] theorem updRelay_load (s : State) (f : Relay → Relay) : (s.updRelay f).load = s.load := rfl
@[simp] theorem updRelay_composer (s : State) (f : Relay → Relay) : (s.updRelay f).composer = s.composer := rfl
@[simp] theorem updRelay_stability (s : State) (f : Relay → Relay) : (s.updRelay f).stability = s.stability := rfl
@[simp] theorem updRelay_tyre (s : State) (f : Relay → Relay) : (s.updRelay f).tyre = s.tyre := rfl
@[simp] theorem updRelay_mgmt (s : State) (f : Relay → Relay) : (s.updRelay f).mgmt = s.mgmt := rfl
@[simp] theorem updRelay_power (s : State) (f : Relay → Relay) : (s.updRelay f).power = s.power := rfl
@[simp] theorem updRelay_pending (s : State) (f : Relay → Relay) : (s.updRelay f).pending = s.pending := rfl
@[simp] theorem updRelay_unapplied (s : State) (f : Relay → Relay) : (s.updRelay f).unapplied = s.unapplied := rfl

/-! ### updChain -/

@[simp] theorem updChain_time (s : State) (f : Chain → Chain) : (s.updChain f).time = s.time := rfl
@[simp] theorem updChain_active (s : State) (f : Chain → Chain) : (s.updChain f).active = s.active := rfl
@[simp] theorem updChain_generation (s : State) (f : Chain → Chain) : (s.updChain f).generation = s.generation := rfl
@[simp] theorem updChain_configInvalid (s : State) (f : Chain → Chain) : (s.updChain f).configInvalid = s.configInvalid := rfl
@[simp] theorem updChain_store (s : State) (f : Chain → Chain) : (s.updChain f).store = s.store := rfl
@[simp] theorem updChain_incidents (s : State) (f : Chain → Chain) : (s.updChain f).incidents = s.incidents := rfl
@[simp] theorem updChain_portA (s : State) (f : Chain → Chain) : (s.updChain f).portA = s.portA := rfl
@[simp] theorem updChain_portB (s : State) (f : Chain → Chain) : (s.updChain f).portB = s.portB := rfl
@[simp] theorem updChain_relay (s : State) (f : Chain → Chain) : (s.updChain f).relay = s.relay := rfl
@[simp] theorem updChain_hits (s : State) (f : Chain → Chain) : (s.updChain f).hits = s.hits := rfl
@[simp] theorem updChain_chain (s : State) (f : Chain → Chain) : (s.updChain f).chain = f s.chain := rfl
@[simp] theorem updChain_wheel (s : State) (f : Chain → Chain) : (s.updChain f).wheel = s.wheel := rfl
@[simp] theorem updChain_channels (s : State) (f : Chain → Chain) : (s.updChain f).channels = s.channels := rfl
@[simp] theorem updChain_load (s : State) (f : Chain → Chain) : (s.updChain f).load = s.load := rfl
@[simp] theorem updChain_composer (s : State) (f : Chain → Chain) : (s.updChain f).composer = s.composer := rfl
@[simp] theorem updChain_stability (s : State) (f : Chain → Chain) : (s.updChain f).stability = s.stability := rfl
@[simp] theorem updChain_tyre (s : State) (f : Chain → Chain) : (s.updChain f).tyre = s.tyre := rfl
@[simp] theorem updChain_mgmt (s : State) (f : Chain → Chain) : (s.updChain f).mgmt = s.mgmt := rfl
@[simp] theorem updChain_power (s : State) (f : Chain → Chain) : (s.updChain f).power = s.power := rfl
@[simp] theorem updChain_pending (s : State) (f : Chain → Chain) : (s.updChain f).pending = s.pending := rfl
@[simp] theorem updChain_unapplied (s : State) (f : Chain → Chain) : (s.updChain f).unapplied = s.unapplied := rfl

/-! ### updWheel -/

@[simp] theorem updWheel_time (s : State) (f : Wheel → Wheel) : (s.updWheel f).time = s.time := rfl
@[simp] theorem updWheel_active (s : State) (f : Wheel → Wheel) : (s.updWheel f).active = s.active := rfl
@[simp] theorem updWheel_generation (s : State) (f : Wheel → Wheel) : (s.updWheel f).generation = s.generation := rfl
@[simp] theorem updWheel_configInvalid (s : State) (f : Wheel → Wheel) : (s.updWheel f).configInvalid = s.configInvalid := rfl
@[simp] theorem updWheel_store (s : State) (f : Wheel → Wheel) : (s.updWheel f).store = s.store := rfl
@[simp] theorem updWheel_incidents (s : State) (f : Wheel → Wheel) : (s.updWheel f).incidents = s.incidents := rfl
@[simp] theorem updWheel_portA (s : State) (f : Wheel → Wheel) : (s.updWheel f).portA = s.portA := rfl
@[simp] theorem updWheel_portB (s : State) (f : Wheel → Wheel) : (s.updWheel f).portB = s.portB := rfl
@[simp] theorem updWheel_relay (s : State) (f : Wheel → Wheel) : (s.updWheel f).relay = s.relay := rfl
@[simp] theorem updWheel_hits (s : State) (f : Wheel → Wheel) : (s.updWheel f).hits = s.hits := rfl
@[simp] theorem updWheel_chain (s : State) (f : Wheel → Wheel) : (s.updWheel f).chain = s.chain := rfl
@[simp] theorem updWheel_wheel (s : State) (f : Wheel → Wheel) : (s.updWheel f).wheel = f s.wheel := rfl
@[simp] theorem updWheel_channels (s : State) (f : Wheel → Wheel) : (s.updWheel f).channels = s.channels := rfl
@[simp] theorem updWheel_load (s : State) (f : Wheel → Wheel) : (s.updWheel f).load = s.load := rfl
@[simp] theorem updWheel_composer (s : State) (f : Wheel → Wheel) : (s.updWheel f).composer = s.composer := rfl
@[simp] theorem updWheel_stability (s : State) (f : Wheel → Wheel) : (s.updWheel f).stability = s.stability := rfl
@[simp] theorem updWheel_tyre (s : State) (f : Wheel → Wheel) : (s.updWheel f).tyre = s.tyre := rfl
@[simp] theorem updWheel_mgmt (s : State) (f : Wheel → Wheel) : (s.updWheel f).mgmt = s.mgmt := rfl
@[simp] theorem updWheel_power (s : State) (f : Wheel → Wheel) : (s.updWheel f).power = s.power := rfl
@[simp] theorem updWheel_pending (s : State) (f : Wheel → Wheel) : (s.updWheel f).pending = s.pending := rfl
@[simp] theorem updWheel_unapplied (s : State) (f : Wheel → Wheel) : (s.updWheel f).unapplied = s.unapplied := rfl

/-! ### updComposer -/

@[simp] theorem updComposer_time (s : State) (f : Composer → Composer) : (s.updComposer f).time = s.time := rfl
@[simp] theorem updComposer_active (s : State) (f : Composer → Composer) : (s.updComposer f).active = s.active := rfl
@[simp] theorem updComposer_generation (s : State) (f : Composer → Composer) : (s.updComposer f).generation = s.generation := rfl
@[simp] theorem updComposer_configInvalid (s : State) (f : Composer → Composer) : (s.updComposer f).configInvalid = s.configInvalid := rfl
@[simp] theorem updComposer_store (s : State) (f : Composer → Composer) : (s.updComposer f).store = s.store := rfl
@[simp] theorem updComposer_incidents (s : State) (f : Composer → Composer) : (s.updComposer f).incidents = s.incidents := rfl
@[simp] theorem updComposer_portA (s : State) (f : Composer → Composer) : (s.updComposer f).portA = s.portA := rfl
@[simp] theorem updComposer_portB (s : State) (f : Composer → Composer) : (s.updComposer f).portB = s.portB := rfl
@[simp] theorem updComposer_relay (s : State) (f : Composer → Composer) : (s.updComposer f).relay = s.relay := rfl
@[simp] theorem updComposer_hits (s : State) (f : Composer → Composer) : (s.updComposer f).hits = s.hits := rfl
@[simp] theorem updComposer_chain (s : State) (f : Composer → Composer) : (s.updComposer f).chain = s.chain := rfl
@[simp] theorem updComposer_wheel (s : State) (f : Composer → Composer) : (s.updComposer f).wheel = s.wheel := rfl
@[simp] theorem updComposer_channels (s : State) (f : Composer → Composer) : (s.updComposer f).channels = s.channels := rfl
@[simp] theorem updComposer_load (s : State) (f : Composer → Composer) : (s.updComposer f).load = s.load := rfl
@[simp] theorem updComposer_composer (s : State) (f : Composer → Composer) : (s.updComposer f).composer = f s.composer := rfl
@[simp] theorem updComposer_stability (s : State) (f : Composer → Composer) : (s.updComposer f).stability = s.stability := rfl
@[simp] theorem updComposer_tyre (s : State) (f : Composer → Composer) : (s.updComposer f).tyre = s.tyre := rfl
@[simp] theorem updComposer_mgmt (s : State) (f : Composer → Composer) : (s.updComposer f).mgmt = s.mgmt := rfl
@[simp] theorem updComposer_power (s : State) (f : Composer → Composer) : (s.updComposer f).power = s.power := rfl
@[simp] theorem updComposer_pending (s : State) (f : Composer → Composer) : (s.updComposer f).pending = s.pending := rfl
@[simp] theorem updComposer_unapplied (s : State) (f : Composer → Composer) : (s.updComposer f).unapplied = s.unapplied := rfl

/-! ### updStab -/

@[simp] theorem updStab_time (s : State) (f : Stability → Stability) : (s.updStab f).time = s.time := rfl
@[simp] theorem updStab_active (s : State) (f : Stability → Stability) : (s.updStab f).active = s.active := rfl
@[simp] theorem updStab_generation (s : State) (f : Stability → Stability) : (s.updStab f).generation = s.generation := rfl
@[simp] theorem updStab_configInvalid (s : State) (f : Stability → Stability) : (s.updStab f).configInvalid = s.configInvalid := rfl
@[simp] theorem updStab_store (s : State) (f : Stability → Stability) : (s.updStab f).store = s.store := rfl
@[simp] theorem updStab_incidents (s : State) (f : Stability → Stability) : (s.updStab f).incidents = s.incidents := rfl
@[simp] theorem updStab_portA (s : State) (f : Stability → Stability) : (s.updStab f).portA = s.portA := rfl
@[simp] theorem updStab_portB (s : State) (f : Stability → Stability) : (s.updStab f).portB = s.portB := rfl
@[simp] theorem updStab_relay (s : State) (f : Stability → Stability) : (s.updStab f).relay = s.relay := rfl
@[simp] theorem updStab_hits (s : State) (f : Stability → Stability) : (s.updStab f).hits = s.hits := rfl
@[simp] theorem updStab_chain (s : State) (f : Stability → Stability) : (s.updStab f).chain = s.chain := rfl
@[simp] theorem updStab_wheel (s : State) (f : Stability → Stability) : (s.updStab f).wheel = s.wheel := rfl
@[simp] theorem updStab_channels (s : State) (f : Stability → Stability) : (s.updStab f).channels = s.channels := rfl
@[simp] theorem updStab_load (s : State) (f : Stability → Stability) : (s.updStab f).load = s.load := rfl
@[simp] theorem updStab_composer (s : State) (f : Stability → Stability) : (s.updStab f).composer = s.composer := rfl
@[simp] theorem updStab_stability (s : State) (f : Stability → Stability) : (s.updStab f).stability = f s.stability := rfl
@[simp] theorem updStab_tyre (s : State) (f : Stability → Stability) : (s.updStab f).tyre = s.tyre := rfl
@[simp] theorem updStab_mgmt (s : State) (f : Stability → Stability) : (s.updStab f).mgmt = s.mgmt := rfl
@[simp] theorem updStab_power (s : State) (f : Stability → Stability) : (s.updStab f).power = s.power := rfl
@[simp] theorem updStab_pending (s : State) (f : Stability → Stability) : (s.updStab f).pending = s.pending := rfl
@[simp] theorem updStab_unapplied (s : State) (f : Stability → Stability) : (s.updStab f).unapplied = s.unapplied := rfl

/-! ### updTyre -/

@[simp] theorem updTyre_time (s : State) (f : Tyre → Tyre) : (s.updTyre f).time = s.time := rfl
@[simp] theorem updTyre_active (s : State) (f : Tyre → Tyre) : (s.updTyre f).active = s.active := rfl
@[simp] theorem updTyre_generation (s : State) (f : Tyre → Tyre) : (s.updTyre f).generation = s.generation := rfl
@[simp] theorem updTyre_configInvalid (s : State) (f : Tyre → Tyre) : (s.updTyre f).configInvalid = s.configInvalid := rfl
@[simp] theorem updTyre_store (s : State) (f : Tyre → Tyre) : (s.updTyre f).store = s.store := rfl
@[simp] theorem updTyre_incidents (s : State) (f : Tyre → Tyre) : (s.updTyre f).incidents = s.incidents := rfl
@[simp] theorem updTyre_portA (s : State) (f : Tyre → Tyre) : (s.updTyre f).portA = s.portA := rfl
@[simp] theorem updTyre_portB (s : State) (f : Tyre → Tyre) : (s.updTyre f).portB = s.portB := rfl
@[simp] theorem updTyre_relay (s : State) (f : Tyre → Tyre) : (s.updTyre f).relay = s.relay := rfl
@[simp] theorem updTyre_hits (s : State) (f : Tyre → Tyre) : (s.updTyre f).hits = s.hits := rfl
@[simp] theorem updTyre_chain (s : State) (f : Tyre → Tyre) : (s.updTyre f).chain = s.chain := rfl
@[simp] theorem updTyre_wheel (s : State) (f : Tyre → Tyre) : (s.updTyre f).wheel = s.wheel := rfl
@[simp] theorem updTyre_channels (s : State) (f : Tyre → Tyre) : (s.updTyre f).channels = s.channels := rfl
@[simp] theorem updTyre_load (s : State) (f : Tyre → Tyre) : (s.updTyre f).load = s.load := rfl
@[simp] theorem updTyre_composer (s : State) (f : Tyre → Tyre) : (s.updTyre f).composer = s.composer := rfl
@[simp] theorem updTyre_stability (s : State) (f : Tyre → Tyre) : (s.updTyre f).stability = s.stability := rfl
@[simp] theorem updTyre_tyre (s : State) (f : Tyre → Tyre) : (s.updTyre f).tyre = f s.tyre := rfl
@[simp] theorem updTyre_mgmt (s : State) (f : Tyre → Tyre) : (s.updTyre f).mgmt = s.mgmt := rfl
@[simp] theorem updTyre_power (s : State) (f : Tyre → Tyre) : (s.updTyre f).power = s.power := rfl
@[simp] theorem updTyre_pending (s : State) (f : Tyre → Tyre) : (s.updTyre f).pending = s.pending := rfl
@[simp] theorem updTyre_unapplied (s : State) (f : Tyre → Tyre) : (s.updTyre f).unapplied = s.unapplied := rfl

/-! ### updMgmt -/

@[simp] theorem updMgmt_time (s : State) (f : Mgmt → Mgmt) : (s.updMgmt f).time = s.time := rfl
@[simp] theorem updMgmt_active (s : State) (f : Mgmt → Mgmt) : (s.updMgmt f).active = s.active := rfl
@[simp] theorem updMgmt_generation (s : State) (f : Mgmt → Mgmt) : (s.updMgmt f).generation = s.generation := rfl
@[simp] theorem updMgmt_configInvalid (s : State) (f : Mgmt → Mgmt) : (s.updMgmt f).configInvalid = s.configInvalid := rfl
@[simp] theorem updMgmt_store (s : State) (f : Mgmt → Mgmt) : (s.updMgmt f).store = s.store := rfl
@[simp] theorem updMgmt_incidents (s : State) (f : Mgmt → Mgmt) : (s.updMgmt f).incidents = s.incidents := rfl
@[simp] theorem updMgmt_portA (s : State) (f : Mgmt → Mgmt) : (s.updMgmt f).portA = s.portA := rfl
@[simp] theorem updMgmt_portB (s : State) (f : Mgmt → Mgmt) : (s.updMgmt f).portB = s.portB := rfl
@[simp] theorem updMgmt_relay (s : State) (f : Mgmt → Mgmt) : (s.updMgmt f).relay = s.relay := rfl
@[simp] theorem updMgmt_hits (s : State) (f : Mgmt → Mgmt) : (s.updMgmt f).hits = s.hits := rfl
@[simp] theorem updMgmt_chain (s : State) (f : Mgmt → Mgmt) : (s.updMgmt f).chain = s.chain := rfl
@[simp] theorem updMgmt_wheel (s : State) (f : Mgmt → Mgmt) : (s.updMgmt f).wheel = s.wheel := rfl
@[simp] theorem updMgmt_channels (s : State) (f : Mgmt → Mgmt) : (s.updMgmt f).channels = s.channels := rfl
@[simp] theorem updMgmt_load (s : State) (f : Mgmt → Mgmt) : (s.updMgmt f).load = s.load := rfl
@[simp] theorem updMgmt_composer (s : State) (f : Mgmt → Mgmt) : (s.updMgmt f).composer = s.composer := rfl
@[simp] theorem updMgmt_stability (s : State) (f : Mgmt → Mgmt) : (s.updMgmt f).stability = s.stability := rfl
@[simp] theorem updMgmt_tyre (s : State) (f : Mgmt → Mgmt) : (s.updMgmt f).tyre = s.tyre := rfl
@[simp] theorem updMgmt_mgmt (s : State) (f : Mgmt → Mgmt) : (s.updMgmt f).mgmt = f s.mgmt := rfl
@[simp] theorem updMgmt_power (s : State) (f : Mgmt → Mgmt) : (s.updMgmt f).power = s.power := rfl
@[simp] theorem updMgmt_pending (s : State) (f : Mgmt → Mgmt) : (s.updMgmt f).pending = s.pending := rfl
@[simp] theorem updMgmt_unapplied (s : State) (f : Mgmt → Mgmt) : (s.updMgmt f).unapplied = s.unapplied := rfl

/-! ### updPower -/

@[simp] theorem updPower_time (s : State) (f : Power → Power) : (s.updPower f).time = s.time := rfl
@[simp] theorem updPower_active (s : State) (f : Power → Power) : (s.updPower f).active = s.active := rfl
@[simp] theorem updPower_generation (s : State) (f : Power → Power) : (s.updPower f).generation = s.generation := rfl
@[simp] theorem updPower_configInvalid (s : State) (f : Power → Power) : (s.updPower f).configInvalid = s.configInvalid := rfl
@[simp] theorem updPower_store (s : State) (f : Power → Power) : (s.updPower f).store = s.store := rfl
@[simp] theorem updPower_incidents (s : State) (f : Power → Power) : (s.updPower f).incidents = s.incidents := rfl
@[simp] theorem updPower_portA (s : State) (f : Power → Power) : (s.updPower f).portA = s.portA := rfl
@[simp] theorem updPower_portB (s : State) (f : Power → Power) : (s.updPower f).portB = s.portB := rfl
@[simp] theorem updPower_relay (s : State) (f : Power → Power) : (s.updPower f).relay = s.relay := rfl
@[simp] theorem updPower_hits (s : State) (f : Power → Power) : (s.updPower f).hits = s.hits := rfl
@[simp] theorem updPower_chain (s : State) (f : Power → Power) : (s.updPower f).chain = s.chain := rfl
@[simp] theorem updPower_wheel (s : State) (f : Power → Power) : (s.updPower f).wheel = s.wheel := rfl
@[simp] theorem updPower_channels (s : State) (f : Power → Power) : (s.updPower f).channels = s.channels := rfl
@[simp] theorem updPower_load (s : State) (f : Power → Power) : (s.updPower f).load = s.load := rfl
@[simp] theorem updPower_composer (s : State) (f : Power → Power) : (s.updPower f).composer = s.composer := rfl
@[simp] theorem updPower_stability (s : State) (f : Power → Power) : (s.updPower f).stability = s.stability := rfl
@[simp] theorem updPower_tyre (s : State) (f : Power → Power) : (s.updPower f).tyre = s.tyre := rfl
@[simp] theorem updPower_mgmt (s : State) (f : Power → Power) : (s.updPower f).mgmt = s.mgmt := rfl
@[simp] theorem updPower_power (s : State) (f : Power → Power) : (s.updPower f).power = f s.power := rfl
@[simp] theorem updPower_pending (s : State) (f : Power → Power) : (s.updPower f).pending = s.pending := rfl
@[simp] theorem updPower_unapplied (s : State) (f : Power → Power) : (s.updPower f).unapplied = s.unapplied := rfl

/-! ### updLoad -/

@[simp] theorem updLoad_time (s : State) (f : Load → Load) : (s.updLoad f).time = s.time := rfl
@[simp] theorem updLoad_active (s : State) (f : Load → Load) : (s.updLoad f).active = s.active := rfl
@[simp] theorem updLoad_generation (s : State) (f : Load → Load) : (s.updLoad f).generation = s.generation := rfl
@[simp] theorem updLoad_configInvalid (s : State) (f : Load → Load) : (s.updLoad f).configInvalid = s.configInvalid := rfl
@[simp] theorem updLoad_store (s : State) (f : Load → Load) : (s.updLoad f).store = s.store := rfl
@[simp] theorem updLoad_incidents (s : State) (f : Load → Load) : (s.updLoad f).incidents = s.incidents := rfl
@[simp] theorem updLoad_portA (s : State) (f : Load → Load) : (s.updLoad f).portA = s.portA := rfl
@[simp] theorem updLoad_portB (s : State) (f : Load → Load) : (s.updLoad f).portB = s.portB := rfl
@[simp] theorem updLoad_relay (s : State) (f : Load → Load) : (s.updLoad f).relay = s.relay := rfl
@[simp] theorem updLoad_hits (s : State) (f : Load → Load) : (s.updLoad f).hits = s.hits := rfl
@[simp] theorem updLoad_chain (s : State) (f : Load → Load) : (s.updLoad f).chain = s.chain := rfl
@[simp] theorem updLoad_wheel (s : State) (f : Load → Load) : (s.updLoad f).wheel = s.wheel := rfl
@[simp] theorem updLoad_channels (s : State) (f : Load → Load) : (s.updLoad f).channels = s.channels := rfl
@[simp] theorem updLoad_load (s : State) (f : Load → Load) : (s.updLoad f).load = f s.load := rfl
@[simp] theorem updLoad_composer (s : State) (f : Load → Load) : (s.updLoad f).composer = s.composer := rfl
@[simp] theorem updLoad_stability (s : State) (f : Load → Load) : (s.updLoad f).stability = s.stability := rfl
@[simp] theorem updLoad_tyre (s : State) (f : Load → Load) : (s.updLoad f).tyre = s.tyre := rfl
@[simp] theorem updLoad_mgmt (s : State) (f : Load → Load) : (s.updLoad f).mgmt = s.mgmt := rfl
@[simp] theorem updLoad_power (s : State) (f : Load → Load) : (s.updLoad f).power = s.power := rfl
@[simp] theorem updLoad_pending (s : State) (f : Load → Load) : (s.updLoad f).pending = s.pending := rfl
@[simp] theorem updLoad_unapplied (s : State) (f : Load → Load) : (s.updLoad f).unapplied = s.unapplied := rfl

/-! ### updPort -/

@[simp] theorem updPort_time (s : State) (p : Port) (f : PortState → PortState) : (s.updPort p f).time = s.time := by
  cases p <;> rfl
@[simp] theorem updPort_active (s : State) (p : Port) (f : PortState → PortState) : (s.updPort p f).active = s.active := by
  cases p <;> rfl
@[simp] theorem updPort_generation (s : State) (p : Port) (f : PortState → PortState) : (s.updPort p f).generation = s.generation := by
  cases p <;> rfl
@[simp] theorem updPort_configInvalid (s : State) (p : Port) (f : PortState → PortState) : (s.updPort p f).configInvalid = s.configInvalid := by
  cases p <;> rfl
@[simp] theorem updPort_store (s : State) (p : Port) (f : PortState → PortState) : (s.updPort p f).store = s.store := by
  cases p <;> rfl
@[simp] theorem updPort_incidents (s : State) (p : Port) (f : PortState → PortState) : (s.updPort p f).incidents = s.incidents := by
  cases p <;> rfl
@[simp] theorem updPort_relay (s : State) (p : Port) (f : PortState → PortState) : (s.updPort p f).relay = s.relay := by
  cases p <;> rfl
@[simp] theorem updPort_hits (s : State) (p : Port) (f : PortState → PortState) : (s.updPort p f).hits = s.hits := by
  cases p <;> rfl
@[simp] theorem updPort_chain (s : State) (p : Port) (f : PortState → PortState) : (s.updPort p f).chain = s.chain := by
  cases p <;> rfl
@[simp] theorem updPort_wheel (s : State) (p : Port) (f : PortState → PortState) : (s.updPort p f).wheel = s.wheel := by
  cases p <;> rfl
@[simp] theorem updPort_channels (s : State) (p : Port) (f : PortState → PortState) : (s.updPort p f).channels = s.channels := by
  cases p <;> rfl
@[simp] theorem updPort_load (s : State) (p : Port) (f : PortState → PortState) : (s.updPort p f).load = s.load := by
  cases p <;> rfl
@[simp] theorem updPort_composer (s : State) (p : Port) (f : PortState → PortState) : (s.updPort p f).composer = s.composer := by
  cases p <;> rfl
@[simp] theorem updPort_stability (s : State) (p : Port) (f : PortState → PortState) : (s.updPort p f).stability = s.stability := by
  cases p <;> rfl
@[simp] theorem updPort_tyre (s : State) (p : Port) (f : PortState → PortState) : (s.updPort p f).tyre = s.tyre := by
  cases p <;> rfl
@[simp] theorem updPort_mgmt (s : State) (p : Port) (f : PortState → PortState) : (s.updPort p f).mgmt = s.mgmt := by
  cases p <;> rfl
@[simp] theorem updPort_power (s : State) (p : Port) (f : PortState → PortState) : (s.updPort p f).power = s.power := by
  cases p <;> rfl
@[simp] theorem updPort_pending (s : State) (p : Port) (f : PortState → PortState) : (s.updPort p f).pending = s.pending := by
  cases p <;> rfl
@[simp] theorem updPort_unapplied (s : State) (p : Port) (f : PortState → PortState) : (s.updPort p f).unapplied = s.unapplied := by
  cases p <;> rfl
@[simp] theorem updPort_port_self (s : State) (p : Port) (f : PortState → PortState) :
    (s.updPort p f).port p = f (s.port p) := by cases p <;> rfl
@[simp] theorem updPort_port_other (s : State) (p : Port) (f : PortState → PortState) :
    (s.updPort p f).port (otherPort p) = s.port (otherPort p) := by cases p <;> rfl
@[simp] theorem updPort_A_portA (s : State) (f : PortState → PortState) : (s.updPort .A f).portA = f s.portA := rfl
@[simp] theorem updPort_A_portB (s : State) (f : PortState → PortState) : (s.updPort .A f).portB = s.portB := rfl
@[simp] theorem updPort_B_portA (s : State) (f : PortState → PortState) : (s.updPort .B f).portA = s.portA := rfl
@[simp] theorem updPort_B_portB (s : State) (f : PortState → PortState) : (s.updPort .B f).portB = f s.portB := rfl
@[simp] theorem port_A (s : State) : s.port .A = s.portA := rfl
@[simp] theorem port_B (s : State) : s.port .B = s.portB := rfl

/-! ### mapChannels and updChannel -/

@[simp] theorem mapChannels_time (s : State) (f : Nat → Channel → Channel) : (s.mapChannels f).time = s.time := rfl
@[simp] theorem mapChannels_active (s : State) (f : Nat → Channel → Channel) : (s.mapChannels f).active = s.active := rfl
@[simp] theorem mapChannels_generation (s : State) (f : Nat → Channel → Channel) : (s.mapChannels f).generation = s.generation := rfl
@[simp] theorem mapChannels_configInvalid (s : State) (f : Nat → Channel → Channel) : (s.mapChannels f).configInvalid = s.configInvalid := rfl
@[simp] theorem mapChannels_store (s : State) (f : Nat → Channel → Channel) : (s.mapChannels f).store = s.store := rfl
@[simp] theorem mapChannels_incidents (s : State) (f : Nat → Channel → Channel) : (s.mapChannels f).incidents = s.incidents := rfl
@[simp] theorem mapChannels_portA (s : State) (f : Nat → Channel → Channel) : (s.mapChannels f).portA = s.portA := rfl
@[simp] theorem mapChannels_portB (s : State) (f : Nat → Channel → Channel) : (s.mapChannels f).portB = s.portB := rfl
@[simp] theorem mapChannels_relay (s : State) (f : Nat → Channel → Channel) : (s.mapChannels f).relay = s.relay := rfl
@[simp] theorem mapChannels_hits (s : State) (f : Nat → Channel → Channel) : (s.mapChannels f).hits = s.hits := rfl
@[simp] theorem mapChannels_chain (s : State) (f : Nat → Channel → Channel) : (s.mapChannels f).chain = s.chain := rfl
@[simp] theorem mapChannels_wheel (s : State) (f : Nat → Channel → Channel) : (s.mapChannels f).wheel = s.wheel := rfl
@[simp] theorem mapChannels_channels (s : State) (f : Nat → Channel → Channel) :
    (s.mapChannels f).channels = s.channels.mapIdx (fun i c => f (i + 1) c) := rfl
@[simp] theorem mapChannels_load (s : State) (f : Nat → Channel → Channel) : (s.mapChannels f).load = s.load := rfl
@[simp] theorem mapChannels_composer (s : State) (f : Nat → Channel → Channel) : (s.mapChannels f).composer = s.composer := rfl
@[simp] theorem mapChannels_stability (s : State) (f : Nat → Channel → Channel) : (s.mapChannels f).stability = s.stability := rfl
@[simp] theorem mapChannels_tyre (s : State) (f : Nat → Channel → Channel) : (s.mapChannels f).tyre = s.tyre := rfl
@[simp] theorem mapChannels_mgmt (s : State) (f : Nat → Channel → Channel) : (s.mapChannels f).mgmt = s.mgmt := rfl
@[simp] theorem mapChannels_power (s : State) (f : Nat → Channel → Channel) : (s.mapChannels f).power = s.power := rfl
@[simp] theorem mapChannels_pending (s : State) (f : Nat → Channel → Channel) : (s.mapChannels f).pending = s.pending := rfl
@[simp] theorem mapChannels_unapplied (s : State) (f : Nat → Channel → Channel) : (s.mapChannels f).unapplied = s.unapplied := rfl
@[simp] theorem updChannel_time (s : State) (c : Nat) (f : Channel → Channel) : (s.updChannel c f).time = s.time := rfl
@[simp] theorem updChannel_active (s : State) (c : Nat) (f : Channel → Channel) : (s.updChannel c f).active = s.active := rfl
@[simp] theorem updChannel_generation (s : State) (c : Nat) (f : Channel → Channel) : (s.updChannel c f).generation = s.generation := rfl
@[simp] theorem updChannel_configInvalid (s : State) (c : Nat) (f : Channel → Channel) : (s.updChannel c f).configInvalid = s.configInvalid := rfl
@[simp] theorem updChannel_store (s : State) (c : Nat) (f : Channel → Channel) : (s.updChannel c f).store = s.store := rfl
@[simp] theorem updChannel_incidents (s : State) (c : Nat) (f : Channel → Channel) : (s.updChannel c f).incidents = s.incidents := rfl
@[simp] theorem updChannel_portA (s : State) (c : Nat) (f : Channel → Channel) : (s.updChannel c f).portA = s.portA := rfl
@[simp] theorem updChannel_portB (s : State) (c : Nat) (f : Channel → Channel) : (s.updChannel c f).portB = s.portB := rfl
@[simp] theorem updChannel_relay (s : State) (c : Nat) (f : Channel → Channel) : (s.updChannel c f).relay = s.relay := rfl
@[simp] theorem updChannel_hits (s : State) (c : Nat) (f : Channel → Channel) : (s.updChannel c f).hits = s.hits := rfl
@[simp] theorem updChannel_chain (s : State) (c : Nat) (f : Channel → Channel) : (s.updChannel c f).chain = s.chain := rfl
@[simp] theorem updChannel_wheel (s : State) (c : Nat) (f : Channel → Channel) : (s.updChannel c f).wheel = s.wheel := rfl
@[simp] theorem updChannel_load (s : State) (c : Nat) (f : Channel → Channel) : (s.updChannel c f).load = s.load := rfl
@[simp] theorem updChannel_composer (s : State) (c : Nat) (f : Channel → Channel) : (s.updChannel c f).composer = s.composer := rfl
@[simp] theorem updChannel_stability (s : State) (c : Nat) (f : Channel → Channel) : (s.updChannel c f).stability = s.stability := rfl
@[simp] theorem updChannel_tyre (s : State) (c : Nat) (f : Channel → Channel) : (s.updChannel c f).tyre = s.tyre := rfl
@[simp] theorem updChannel_mgmt (s : State) (c : Nat) (f : Channel → Channel) : (s.updChannel c f).mgmt = s.mgmt := rfl
@[simp] theorem updChannel_power (s : State) (c : Nat) (f : Channel → Channel) : (s.updChannel c f).power = s.power := rfl
@[simp] theorem updChannel_pending (s : State) (c : Nat) (f : Channel → Channel) : (s.updChannel c f).pending = s.pending := rfl
@[simp] theorem updChannel_unapplied (s : State) (c : Nat) (f : Channel → Channel) : (s.updChannel c f).unapplied = s.unapplied := rfl

/-! ### elapse, incidents -/

@[simp] theorem elapse_active (r : Nat) (s : State) : (elapse r s).active = s.active := rfl
@[simp] theorem elapse_generation (r : Nat) (s : State) : (elapse r s).generation = s.generation := rfl
@[simp] theorem elapse_configInvalid (r : Nat) (s : State) : (elapse r s).configInvalid = s.configInvalid := rfl
@[simp] theorem elapse_store (r : Nat) (s : State) : (elapse r s).store = s.store := rfl
@[simp] theorem elapse_incidents (r : Nat) (s : State) : (elapse r s).incidents = s.incidents := rfl
@[simp] theorem elapse_hits (r : Nat) (s : State) : (elapse r s).hits = s.hits := rfl
@[simp] theorem elapse_load (r : Nat) (s : State) : (elapse r s).load = s.load := rfl
@[simp] theorem elapse_pending (r : Nat) (s : State) : (elapse r s).pending = s.pending := rfl
@[simp] theorem elapse_unapplied (r : Nat) (s : State) : (elapse r s).unapplied = s.unapplied := rfl
@[simp] theorem openIncident_time (k : IncidentKind) (d : Nat) (s : State) : (openIncident k d s).time = s.time := by
  unfold openIncident; split <;> rfl
@[simp] theorem closeIncidents_time (w : Incident → Bool) (s : State) : (closeIncidents w s).time = s.time := rfl
@[simp] theorem closeIncident_time (k : IncidentKind) (d : Nat) (s : State) : (closeIncident k d s).time = s.time := rfl
@[simp] theorem closeKind_time (k : IncidentKind) (s : State) : (closeKind k s).time = s.time := rfl
@[simp] theorem openIncident_active (k : IncidentKind) (d : Nat) (s : State) : (openIncident k d s).active = s.active := by
  unfold openIncident; split <;> rfl
@[simp] theorem closeIncidents_active (w : Incident → Bool) (s : State) : (closeIncidents w s).active = s.active := rfl
@[simp] theorem closeIncident_active (k : IncidentKind) (d : Nat) (s : State) : (closeIncident k d s).active = s.active := rfl
@[simp] theorem closeKind_active (k : IncidentKind) (s : State) : (closeKind k s).active = s.active := rfl
@[simp] theorem openIncident_generation (k : IncidentKind) (d : Nat) (s : State) : (openIncident k d s).generation = s.generation := by
  unfold openIncident; split <;> rfl
@[simp] theorem closeIncidents_generation (w : Incident → Bool) (s : State) : (closeIncidents w s).generation = s.generation := rfl
@[simp] theorem closeIncident_generation (k : IncidentKind) (d : Nat) (s : State) : (closeIncident k d s).generation = s.generation := rfl
@[simp] theorem closeKind_generation (k : IncidentKind) (s : State) : (closeKind k s).generation = s.generation := rfl
@[simp] theorem openIncident_configInvalid (k : IncidentKind) (d : Nat) (s : State) : (openIncident k d s).configInvalid = s.configInvalid := by
  unfold openIncident; split <;> rfl
@[simp] theorem closeIncidents_configInvalid (w : Incident → Bool) (s : State) : (closeIncidents w s).configInvalid = s.configInvalid := rfl
@[simp] theorem closeIncident_configInvalid (k : IncidentKind) (d : Nat) (s : State) : (closeIncident k d s).configInvalid = s.configInvalid := rfl
@[simp] theorem closeKind_configInvalid (k : IncidentKind) (s : State) : (closeKind k s).configInvalid = s.configInvalid := rfl
@[simp] theorem openIncident_store (k : IncidentKind) (d : Nat) (s : State) : (openIncident k d s).store = s.store := by
  unfold openIncident; split <;> rfl
@[simp] theorem closeIncidents_store (w : Incident → Bool) (s : State) : (closeIncidents w s).store = s.store := rfl
@[simp] theorem closeIncident_store (k : IncidentKind) (d : Nat) (s : State) : (closeIncident k d s).store = s.store := rfl
@[simp] theorem closeKind_store (k : IncidentKind) (s : State) : (closeKind k s).store = s.store := rfl
@[simp] theorem openIncident_portA (k : IncidentKind) (d : Nat) (s : State) : (openIncident k d s).portA = s.portA := by
  unfold openIncident; split <;> rfl
@[simp] theorem closeIncidents_portA (w : Incident → Bool) (s : State) : (closeIncidents w s).portA = s.portA := rfl
@[simp] theorem closeIncident_portA (k : IncidentKind) (d : Nat) (s : State) : (closeIncident k d s).portA = s.portA := rfl
@[simp] theorem closeKind_portA (k : IncidentKind) (s : State) : (closeKind k s).portA = s.portA := rfl
@[simp] theorem openIncident_portB (k : IncidentKind) (d : Nat) (s : State) : (openIncident k d s).portB = s.portB := by
  unfold openIncident; split <;> rfl
@[simp] theorem closeIncidents_portB (w : Incident → Bool) (s : State) : (closeIncidents w s).portB = s.portB := rfl
@[simp] theorem closeIncident_portB (k : IncidentKind) (d : Nat) (s : State) : (closeIncident k d s).portB = s.portB := rfl
@[simp] theorem closeKind_portB (k : IncidentKind) (s : State) : (closeKind k s).portB = s.portB := rfl
@[simp] theorem openIncident_relay (k : IncidentKind) (d : Nat) (s : State) : (openIncident k d s).relay = s.relay := by
  unfold openIncident; split <;> rfl
@[simp] theorem closeIncidents_relay (w : Incident → Bool) (s : State) : (closeIncidents w s).relay = s.relay := rfl
@[simp] theorem closeIncident_relay (k : IncidentKind) (d : Nat) (s : State) : (closeIncident k d s).relay = s.relay := rfl
@[simp] theorem closeKind_relay (k : IncidentKind) (s : State) : (closeKind k s).relay = s.relay := rfl
@[simp] theorem openIncident_hits (k : IncidentKind) (d : Nat) (s : State) : (openIncident k d s).hits = s.hits := by
  unfold openIncident; split <;> rfl
@[simp] theorem closeIncidents_hits (w : Incident → Bool) (s : State) : (closeIncidents w s).hits = s.hits := rfl
@[simp] theorem closeIncident_hits (k : IncidentKind) (d : Nat) (s : State) : (closeIncident k d s).hits = s.hits := rfl
@[simp] theorem closeKind_hits (k : IncidentKind) (s : State) : (closeKind k s).hits = s.hits := rfl
@[simp] theorem openIncident_chain (k : IncidentKind) (d : Nat) (s : State) : (openIncident k d s).chain = s.chain := by
  unfold openIncident; split <;> rfl
@[simp] theorem closeIncidents_chain (w : Incident → Bool) (s : State) : (closeIncidents w s).chain = s.chain := rfl
@[simp] theorem closeIncident_chain (k : IncidentKind) (d : Nat) (s : State) : (closeIncident k d s).chain = s.chain := rfl
@[simp] theorem closeKind_chain (k : IncidentKind) (s : State) : (closeKind k s).chain = s.chain := rfl
@[simp] theorem openIncident_wheel (k : IncidentKind) (d : Nat) (s : State) : (openIncident k d s).wheel = s.wheel := by
  unfold openIncident; split <;> rfl
@[simp] theorem closeIncidents_wheel (w : Incident → Bool) (s : State) : (closeIncidents w s).wheel = s.wheel := rfl
@[simp] theorem closeIncident_wheel (k : IncidentKind) (d : Nat) (s : State) : (closeIncident k d s).wheel = s.wheel := rfl
@[simp] theorem closeKind_wheel (k : IncidentKind) (s : State) : (closeKind k s).wheel = s.wheel := rfl
@[simp] theorem openIncident_channels (k : IncidentKind) (d : Nat) (s : State) : (openIncident k d s).channels = s.channels := by
  unfold openIncident; split <;> rfl
@[simp] theorem closeIncidents_channels (w : Incident → Bool) (s : State) : (closeIncidents w s).channels = s.channels := rfl
@[simp] theorem closeIncident_channels (k : IncidentKind) (d : Nat) (s : State) : (closeIncident k d s).channels = s.channels := rfl
@[simp] theorem closeKind_channels (k : IncidentKind) (s : State) : (closeKind k s).channels = s.channels := rfl
@[simp] theorem openIncident_load (k : IncidentKind) (d : Nat) (s : State) : (openIncident k d s).load = s.load := by
  unfold openIncident; split <;> rfl
@[simp] theorem closeIncidents_load (w : Incident → Bool) (s : State) : (closeIncidents w s).load = s.load := rfl
@[simp] theorem closeIncident_load (k : IncidentKind) (d : Nat) (s : State) : (closeIncident k d s).load = s.load := rfl
@[simp] theorem closeKind_load (k : IncidentKind) (s : State) : (closeKind k s).load = s.load := rfl
@[simp] theorem openIncident_composer (k : IncidentKind) (d : Nat) (s : State) : (openIncident k d s).composer = s.composer := by
  unfold openIncident; split <;> rfl
@[simp] theorem closeIncidents_composer (w : Incident → Bool) (s : State) : (closeIncidents w s).composer = s.composer := rfl
@[simp] theorem closeIncident_composer (k : IncidentKind) (d : Nat) (s : State) : (closeIncident k d s).composer = s.composer := rfl
@[simp] theorem closeKind_composer (k : IncidentKind) (s : State) : (closeKind k s).composer = s.composer := rfl
@[simp] theorem openIncident_stability (k : IncidentKind) (d : Nat) (s : State) : (openIncident k d s).stability = s.stability := by
  unfold openIncident; split <;> rfl
@[simp] theorem closeIncidents_stability (w : Incident → Bool) (s : State) : (closeIncidents w s).stability = s.stability := rfl
@[simp] theorem closeIncident_stability (k : IncidentKind) (d : Nat) (s : State) : (closeIncident k d s).stability = s.stability := rfl
@[simp] theorem closeKind_stability (k : IncidentKind) (s : State) : (closeKind k s).stability = s.stability := rfl
@[simp] theorem openIncident_tyre (k : IncidentKind) (d : Nat) (s : State) : (openIncident k d s).tyre = s.tyre := by
  unfold openIncident; split <;> rfl
@[simp] theorem closeIncidents_tyre (w : Incident → Bool) (s : State) : (closeIncidents w s).tyre = s.tyre := rfl
@[simp] theorem closeIncident_tyre (k : IncidentKind) (d : Nat) (s : State) : (closeIncident k d s).tyre = s.tyre := rfl
@[simp] theorem closeKind_tyre (k : IncidentKind) (s : State) : (closeKind k s).tyre = s.tyre := rfl
@[simp] theorem openIncident_mgmt (k : IncidentKind) (d : Nat) (s : State) : (openIncident k d s).mgmt = s.mgmt := by
  unfold openIncident; split <;> rfl
@[simp] theorem closeIncidents_mgmt (w : Incident → Bool) (s : State) : (closeIncidents w s).mgmt = s.mgmt := rfl
@[simp] theorem closeIncident_mgmt (k : IncidentKind) (d : Nat) (s : State) : (closeIncident k d s).mgmt = s.mgmt := rfl
@[simp] theorem closeKind_mgmt (k : IncidentKind) (s : State) : (closeKind k s).mgmt = s.mgmt := rfl
@[simp] theorem openIncident_power (k : IncidentKind) (d : Nat) (s : State) : (openIncident k d s).power = s.power := by
  unfold openIncident; split <;> rfl
@[simp] theorem closeIncidents_power (w : Incident → Bool) (s : State) : (closeIncidents w s).power = s.power := rfl
@[simp] theorem closeIncident_power (k : IncidentKind) (d : Nat) (s : State) : (closeIncident k d s).power = s.power := rfl
@[simp] theorem closeKind_power (k : IncidentKind) (s : State) : (closeKind k s).power = s.power := rfl
@[simp] theorem openIncident_pending (k : IncidentKind) (d : Nat) (s : State) : (openIncident k d s).pending = s.pending := by
  unfold openIncident; split <;> rfl
@[simp] theorem openIncident_unapplied (k : IncidentKind) (d : Nat) (s : State) : (openIncident k d s).unapplied = s.unapplied := by
  unfold openIncident; split <;> rfl
@[simp] theorem closeIncidents_pending (w : Incident → Bool) (s : State) : (closeIncidents w s).pending = s.pending := rfl
@[simp] theorem closeIncidents_unapplied (w : Incident → Bool) (s : State) : (closeIncidents w s).unapplied = s.unapplied := rfl
@[simp] theorem closeIncident_pending (k : IncidentKind) (d : Nat) (s : State) : (closeIncident k d s).pending = s.pending := rfl
@[simp] theorem closeIncident_unapplied (k : IncidentKind) (d : Nat) (s : State) : (closeIncident k d s).unapplied = s.unapplied := rfl
@[simp] theorem closeKind_pending (k : IncidentKind) (s : State) : (closeKind k s).pending = s.pending := rfl
@[simp] theorem closeKind_unapplied (k : IncidentKind) (s : State) : (closeKind k s).unapplied = s.unapplied := rfl

/-! ### enqueue -/

@[simp] theorem enqueue_time (p : Port) (q : QueueClass) (x : Frame) (s : State) : (enqueue p q x s).time = s.time := by
  cases p <;> rfl
@[simp] theorem enqueue_active (p : Port) (q : QueueClass) (x : Frame) (s : State) : (enqueue p q x s).active = s.active := by
  cases p <;> rfl
@[simp] theorem enqueue_generation (p : Port) (q : QueueClass) (x : Frame) (s : State) : (enqueue p q x s).generation = s.generation := by
  cases p <;> rfl
@[simp] theorem enqueue_configInvalid (p : Port) (q : QueueClass) (x : Frame) (s : State) : (enqueue p q x s).configInvalid = s.configInvalid := by
  cases p <;> rfl
@[simp] theorem enqueue_store (p : Port) (q : QueueClass) (x : Frame) (s : State) : (enqueue p q x s).store = s.store := by
  cases p <;> rfl
@[simp] theorem enqueue_incidents (p : Port) (q : QueueClass) (x : Frame) (s : State) : (enqueue p q x s).incidents = s.incidents := by
  cases p <;> rfl
@[simp] theorem enqueue_relay (p : Port) (q : QueueClass) (x : Frame) (s : State) : (enqueue p q x s).relay = s.relay := by
  cases p <;> rfl
@[simp] theorem enqueue_hits (p : Port) (q : QueueClass) (x : Frame) (s : State) : (enqueue p q x s).hits = s.hits := by
  cases p <;> rfl
@[simp] theorem enqueue_chain (p : Port) (q : QueueClass) (x : Frame) (s : State) : (enqueue p q x s).chain = s.chain := by
  cases p <;> rfl
@[simp] theorem enqueue_wheel (p : Port) (q : QueueClass) (x : Frame) (s : State) : (enqueue p q x s).wheel = s.wheel := by
  cases p <;> rfl
@[simp] theorem enqueue_channels (p : Port) (q : QueueClass) (x : Frame) (s : State) : (enqueue p q x s).channels = s.channels := by
  cases p <;> rfl
@[simp] theorem enqueue_load (p : Port) (q : QueueClass) (x : Frame) (s : State) : (enqueue p q x s).load = s.load := by
  cases p <;> rfl
@[simp] theorem enqueue_composer (p : Port) (q : QueueClass) (x : Frame) (s : State) : (enqueue p q x s).composer = s.composer := by
  cases p <;> rfl
@[simp] theorem enqueue_stability (p : Port) (q : QueueClass) (x : Frame) (s : State) : (enqueue p q x s).stability = s.stability := by
  cases p <;> rfl
@[simp] theorem enqueue_tyre (p : Port) (q : QueueClass) (x : Frame) (s : State) : (enqueue p q x s).tyre = s.tyre := by
  cases p <;> rfl
@[simp] theorem enqueue_mgmt (p : Port) (q : QueueClass) (x : Frame) (s : State) : (enqueue p q x s).mgmt = s.mgmt := by
  cases p <;> rfl
@[simp] theorem enqueue_power (p : Port) (q : QueueClass) (x : Frame) (s : State) : (enqueue p q x s).power = s.power := by
  cases p <;> rfl
@[simp] theorem enqueue_pending (p : Port) (q : QueueClass) (x : Frame) (s : State) : (enqueue p q x s).pending = s.pending := by
  cases p <;> rfl
@[simp] theorem enqueue_unapplied (p : Port) (q : QueueClass) (x : Frame) (s : State) : (enqueue p q x s).unapplied = s.unapplied := by
  cases p <;> rfl

/-! ### recompose -/

@[simp] theorem recompose_time (s : State) : (recompose s).time = s.time := rfl
@[simp] theorem recompose_active (s : State) : (recompose s).active = s.active := rfl
@[simp] theorem recompose_generation (s : State) : (recompose s).generation = s.generation := rfl
@[simp] theorem recompose_configInvalid (s : State) : (recompose s).configInvalid = s.configInvalid := rfl
@[simp] theorem recompose_store (s : State) : (recompose s).store = s.store := rfl
@[simp] theorem recompose_incidents (s : State) : (recompose s).incidents = s.incidents := rfl
@[simp] theorem recompose_portA (s : State) : (recompose s).portA = s.portA := rfl
@[simp] theorem recompose_portB (s : State) : (recompose s).portB = s.portB := rfl
@[simp] theorem recompose_relay (s : State) : (recompose s).relay = s.relay := rfl
@[simp] theorem recompose_hits (s : State) : (recompose s).hits = s.hits := rfl
@[simp] theorem recompose_chain (s : State) : (recompose s).chain = s.chain := rfl
@[simp] theorem recompose_wheel (s : State) : (recompose s).wheel = s.wheel := rfl
@[simp] theorem recompose_composer (s : State) : (recompose s).composer = s.composer := rfl
@[simp] theorem recompose_stability (s : State) : (recompose s).stability = s.stability := rfl
@[simp] theorem recompose_tyre (s : State) : (recompose s).tyre = s.tyre := rfl
@[simp] theorem recompose_mgmt (s : State) : (recompose s).mgmt = s.mgmt := rfl
@[simp] theorem recompose_power (s : State) : (recompose s).power = s.power := rfl
@[simp] theorem recompose_pending (s : State) : (recompose s).pending = s.pending := rfl
@[simp] theorem recompose_unapplied (s : State) : (recompose s).unapplied = s.unapplied := rfl

end Sys2Proof.Machine
end

