-- ==== Sys2Proof/Laws/Frames.lean ====
section
/-! SUPPORT. The frames of the shared operations: which parts of the state each may change, composed from `SameBut`. -/

namespace Sys2Proof.Machine

variable {s t u : State} {L M : List Part}

theorem SameBut.refl (L : List Part) (s : State) : SameBut L s s := by
  intro p _
  cases p <;> rfl

theorem SameBut.trans (h : SameBut L s t) (g : SameBut L t u) : SameBut L s u := by
  intro p hp
  have a := h p hp
  have b := g p hp
  cases p <;> exact Eq.trans b a

theorem SameBut.mono (h : SameBut L s t) (hs : ∀ p ∈ L, p ∈ M) : SameBut M s t :=
  fun p hp => h p (fun hl => hp (hs p hl))

/-- Two changes after one another, each within its own parts. -/
theorem SameBut.comp (h : SameBut L s t) (g : SameBut M t u) {N : List Part} (hl : ∀ p ∈ L, p ∈ N) (hm : ∀ p ∈ M, p ∈ N) :
    SameBut N s u := (h.mono hl).trans (g.mono hm)

theorem same_foldl {α : Type} (f : State → α → State) (hf : ∀ t a, SameBut L t (f t a)) (l : List α) (s : State) :
    SameBut L s (l.foldl f s) := by
  induction l generalizing s with
  | nil => exact .refl L s
  | cons a l ih => exact (hf s a).trans (ih (f s a))

/-! ### The primitive updates -/

theorem same_updRelay (f) (s : State) : SameBut [.relay] s (s.updRelay f) := by
  intro p hp; cases p <;> first | rfl | exact absurd (by decide) hp
theorem same_updChain (f) (s : State) : SameBut [.chain] s (s.updChain f) := by
  intro p hp; cases p <;> first | rfl | exact absurd (by decide) hp
theorem same_updWheel (f) (s : State) : SameBut [.wheel] s (s.updWheel f) := by
  intro p hp; cases p <;> first | rfl | exact absurd (by decide) hp
theorem same_updComposer (f) (s : State) : SameBut [.composer] s (s.updComposer f) := by
  intro p hp; cases p <;> first | rfl | exact absurd (by decide) hp
theorem same_updStab (f) (s : State) : SameBut [.stability] s (s.updStab f) := by
  intro p hp; cases p <;> first | rfl | exact absurd (by decide) hp
theorem same_updTyre (f) (s : State) : SameBut [.tyre] s (s.updTyre f) := by
  intro p hp; cases p <;> first | rfl | exact absurd (by decide) hp
theorem same_updMgmt (f) (s : State) : SameBut [.mgmt] s (s.updMgmt f) := by
  intro p hp; cases p <;> first | rfl | exact absurd (by decide) hp
theorem same_updPower (f) (s : State) : SameBut [.power] s (s.updPower f) := by
  intro p hp; cases p <;> first | rfl | exact absurd (by decide) hp
theorem same_updLoad (f) (s : State) : SameBut [.load] s (s.updLoad f) := by
  intro p hp; cases p <;> first | rfl | exact absurd (by decide) hp
theorem same_mapChannels (f) (s : State) : SameBut [.channels] s (s.mapChannels f) := by
  intro p hp; cases p <;> first | rfl | exact absurd (by decide) hp
theorem same_updPosition (i f) (s : State) : SameBut [.tyre] s (s.updPosition i f) := same_updTyre _ s
theorem same_updPort (p f) (s : State) : SameBut [portPart p] s (s.updPort p f) := by
  cases p <;> intro q hq <;> cases q <;> first | rfl | exact absurd (by decide) hq
theorem same_recompose (s : State) : SameBut [.channels, .load] s (recompose s) := by
  intro p hp; cases p <;> first | rfl | exact absurd (by decide) hp
theorem same_enqueue (p q x) (s : State) : SameBut [portPart p] s (enqueue p q x s) := same_updPort p _ s
theorem same_openIncident (k d) (s : State) : SameBut [.incidents] s (openIncident k d s) := by
  unfold openIncident
  split <;> (intro p hp; cases p <;> first | rfl | exact absurd (by decide) hp)
theorem same_closeIncidents (w) (s : State) : SameBut [.incidents] s (closeIncidents w s) := by
  intro p hp; cases p <;> first | rfl | exact absurd (by decide) hp
theorem same_closeIncident (k d) (s : State) : SameBut [.incidents] s (closeIncident k d s) := same_closeIncidents _ s
theorem same_closeKind (k) (s : State) : SameBut [.incidents] s (closeKind k s) := same_closeIncidents _ s
theorem same_countHits (w) (s : State) : SameBut [.hits] s (countHits w s) := by
  intro p hp; cases p <;> first | rfl | exact absurd (by decide) hp

/-! ### Relay, stability and composer -/

theorem same_originateStability (s : State) : SameBut [.portA] s (originateStability s) := same_enqueue .A _ _ s
theorem same_originateTyre (i) (s : State) : SameBut [.portA] s (originateTyre i s) := same_enqueue .A _ _ s
theorem same_originateDiscover (s : State) : SameBut [.portB] s (originateDiscover s) := same_enqueue .B _ _ s

theorem same_changeStab (st) (s : State) : SameBut [.portA, .stability] s (changeStab st s) :=
  (same_updStab _ s).comp (same_originateStability _) (by decide) (by decide)

theorem same_enterOff (s : State) : SameBut [.incidents, .portA, .channels, .load, .stability] s (enterOff s) := by
  unfold enterOff
  split
  · exact .refl _ s
  · refine SameBut.comp (L := [.incidents, .portA, .channels, .load, .stability]) ?_ (same_recompose _) (by decide) (by decide)
    refine SameBut.comp (L := [.incidents, .channels, .stability]) ?_ (same_changeStab _ _) (by decide) (by decide)
    refine SameBut.comp (L := [.channels, .stability]) ?_ (same_closeIncident _ _ _) (by decide) (by decide)
    intro p hp; cases p <;> first | rfl | exact absurd (by decide) hp

theorem same_testOff (s : State) : SameBut [.incidents, .portA, .channels, .load, .stability] s (testOff s) := by
  unfold testOff
  split
  · exact same_enterOff s
  · exact .refl _ s

theorem same_acknowledgeTest (side) (s : State) :
    SameBut [.portA, .channels, .load, .stability] s (acknowledgeTest side s) := by
  unfold acknowledgeTest
  dsimp only
  refine SameBut.comp (L := [.portA, .channels, .stability]) ?_ (same_recompose _) (by decide) (by decide)
  refine SameBut.comp (L := [.channels, .stability]) ?_ (same_changeStab _ _) (by decide) (by decide)
  exact (same_mapChannels _ s).comp (same_updStab _ _) (by decide) (by decide)

theorem same_abandonTest (s : State) : SameBut [.portA, .channels, .load, .stability] s (abandonTest s) := by
  unfold abandonTest
  dsimp only
  refine SameBut.comp (L := [.portA, .channels, .stability]) ?_ (same_recompose _) (by decide) (by decide)
  refine SameBut.comp (L := [.channels, .stability]) ?_ (same_changeStab _ _) (by decide) (by decide)
  intro p hp; cases p <;> first | rfl | exact absurd (by decide) hp

theorem same_intervene (side) (s : State) :
    SameBut [.incidents, .portA, .channels, .load, .stability] s (intervene side s) := by
  unfold intervene
  dsimp only
  refine SameBut.comp (L := [.incidents, .portA, .channels, .stability]) ?_ (same_recompose _) (by decide) (by decide)
  refine SameBut.comp (L := [.incidents, .channels, .stability]) ?_ (same_changeStab _ _) (by decide) (by decide)
  refine SameBut.comp (L := [.channels, .stability]) ?_ (same_openIncident _ _ _) (by decide) (by decide)
  exact (same_mapChannels _ s).comp (same_updStab _ _) (by decide) (by decide)

theorem same_enterRecover (s : State) : SameBut [.portA, .channels, .load, .stability] s (enterRecover s) := by
  unfold enterRecover
  dsimp only
  refine SameBut.comp (L := [.portA, .channels, .stability]) ?_ (same_recompose _) (by decide) (by decide)
  refine SameBut.comp (L := [.channels, .stability]) ?_ (same_changeStab _ _) (by decide) (by decide)
  exact (same_mapChannels _ s).comp (same_updStab _ _) (by decide) (by decide)

theorem same_moveTo (st) (s : State) : SameBut [.portA, .stability] s (moveTo st s) :=
  (same_updStab _ s).comp (same_changeStab _ _) (by decide) (by decide)

theorem same_considerTest (ay) (s : State) :
    SameBut [.portA, .channels, .load, .stability] s (considerTest ay s) := by
  unfold considerTest offerTest
  dsimp only
  split
  · exact (same_updStab _ s).mono (by decide)
  · split
    · split
      · exact same_acknowledgeTest _ s
      · exact (same_updStab _ s).mono (by decide)
    · exact .refl _ s

/-- All that an evaluation may change. -/
theorem same_evaluate (s : State) : SameBut [.incidents, .portA, .channels, .load, .stability] s (evaluate s) := by
  unfold evaluate
  dsimp only
  split
  · exact same_enterOff s
  · split
    · exact (same_moveTo _ s).mono (by decide)
    · split
      · exact same_intervene _ s
      · split
        · exact (same_moveTo _ s).mono (by decide)
        · exact .refl _ s
    · split
      · exact same_intervene _ s
      · split
        · exact (same_moveTo _ s).mono (by decide)
        · exact (same_considerTest _ s).mono (by decide)
    · split
      · refine SameBut.comp (L := [.channels, .stability]) ?_ (same_intervene _ _) (by decide) (by decide)
        intro p hp; cases p <;> first | rfl | exact absurd (by decide) hp
      · split
        · exact (same_abandonTest s).mono (by decide)
        · exact .refl _ s
    · split
      · exact .refl _ s
      · exact (same_enterRecover s).mono (by decide)
    · split
      · exact same_intervene _ s
      · exact .refl _ s

theorem same_removeDegraded (s : State) : SameBut [.channels, .load, .stability] s (removeDegraded s) := by
  intro p hp; cases p <;> first | rfl | exact absurd (by decide) hp

theorem same_lift (s : State) : SameBut [.incidents, .portA, .channels, .load, .stability] s (lift s) := by
  unfold lift
  dsimp only
  refine SameBut.comp (L := [.channels, .stability]) ?_ (same_intervene _ _) (by decide) (by decide)
  intro p hp; cases p <;> first | rfl | exact absurd (by decide) hp

theorem same_workInState (s : State) : SameBut [.incidents, .portA, .channels, .load, .stability] s (workInState s) := by
  unfold workInState
  split
  · unfold workTest
    dsimp only
    split
    · exact (same_removeDegraded s).comp (same_abandonTest _) (by decide) (by decide)
    · split
      · exact (same_removeDegraded s).comp (same_lift _) (by decide) (by decide)
      · exact (same_removeDegraded s).mono (by decide)
  · unfold workWatch
    dsimp only
    split
    · exact .refl _ s
    · split
      · exact (same_updStab _ s).mono (by decide)
      · split
        · exact (same_acknowledgeTest _ s).mono (by decide)
        · exact .refl _ s
  all_goals exact .refl _ s

/-- All that the stability unit's work at a completion may change. -/
theorem same_stabilityWork (b) (s : State) :
    SameBut [.incidents, .portA, .channels, .load, .stability] s (stabilityWork b s) := by
  have h : SameBut [.incidents, .portA, .channels, .load, .stability] s
      (if b then evaluate (takeThreshold s) else testOff s) := by
    split
    · refine SameBut.comp (L := [.stability]) ?_ (same_evaluate _) (by decide) (by decide)
      intro p hp; cases p <;> first | rfl | exact absurd (by decide) hp
    · exact same_testOff s
  have g : ∀ t, SameBut [.incidents, .portA, .channels, .load, .stability] s t →
      SameBut [.incidents, .portA, .channels, .load, .stability] s
        (if t.stability.state = s.stability.state then workInState t else t) := by
    intro t ht
    split
    · exact ht.trans (same_workInState _)
    · exact ht
  exact g _ h

theorem same_demandLost (a b) (s : State) : SameBut [.incidents] s (demandLost a b s) := by
  unfold demandLost
  split
  · exact same_openIncident _ _ s
  · split
    · exact same_closeIncident _ _ s
    · exact .refl _ s

/-- All that a re-establishment of the brake mode may change. -/
theorem same_reestablish (s : State) :
    SameBut [.incidents, .portA, .channels, .load, .composer, .stability] s (reestablish s) := by
  unfold reestablish
  dsimp only
  have h : SameBut [.incidents, .portA, .channels, .load, .composer, .stability] s
      (recompose (demandLost s.composer.mode (brakeMode s)
        (s.updComposer fun c => { c with effective := effectiveDemand s, mode := brakeMode s }))) :=
    ((same_updComposer _ s).comp (N := [.incidents, .composer]) (same_demandLost _ _ _) (by decide) (by decide)).comp
      (same_recompose _) (by decide) (by decide)
  split
  · exact h
  · exact h.comp (same_testOff _) (by decide) (by decide)

theorem same_setEmergency (b) (s : State) :
    SameBut [.incidents, .channels, .load, .composer] s (setEmergency b s) := by
  unfold setEmergency
  split
  · exact .refl _ s
  · dsimp only
    refine SameBut.comp (L := [.incidents, .composer]) ?_ (same_recompose _) (by decide) (by decide)
    split
    · exact (same_updComposer _ s).comp (same_openIncident _ _ _) (by decide) (by decide)
    · exact (same_updComposer _ s).comp (same_closeIncident _ _ _) (by decide) (by decide)

/-! ### Tyres and service mode -/

theorem same_tyreSettle (s : State) : SameBut [.tyre, .channels, .load] s (tyreSettle s) := by
  unfold tyreSettle driveLamp
  dsimp only
  split
  · exact (same_recompose s).mono (by decide)
  · exact (same_updTyre _ s).comp (same_recompose _) (by decide) (by decide)

theorem same_setTyreState (i st) (s : State) : SameBut [.tyre, .portA] s (setTyreState i st s) := by
  unfold setTyreState
  dsimp only
  split
  · exact (same_updPosition _ _ s).mono (by decide)
  · exact (same_updPosition _ _ s).comp (same_originateTyre _ _) (by decide) (by decide)

theorem same_tyreIncidents (i a b) (s : State) : SameBut [.incidents] s (tyreIncidents i a b s) := by
  have h : SameBut [.incidents] s
      (if b.level = .critical && a.level ≠ .critical then openIncident .tyreCritical i s
        else if a.level = .critical && b.level ≠ .critical then closeIncident .tyreCritical i s else s) := by
    split
    · exact same_openIncident _ _ s
    · split
      · exact same_closeIncident _ _ s
      · exact .refl _ s
  unfold tyreIncidents
  dsimp only
  split
  · exact h.trans (same_openIncident _ _ _)
  · split
    · exact h.trans (same_closeIncident _ _ _)
    · exact h

/-- All that an accepted telegram may change. -/
theorem same_acceptTelegram (i fd x) (s : State) :
    SameBut [.incidents, .portA, .channels, .load, .tyre] s (acceptTelegram i fd x s) := by
  unfold acceptTelegram
  dsimp only
  refine SameBut.comp (L := [.incidents, .portA, .tyre]) ?_ (same_tyreSettle _) (by decide) (by decide)
  refine SameBut.comp (L := [.incidents, .tyre]) ?_ (same_setTyreState _ _ _) (by decide) (by decide)
  split
  · exact ((same_updPosition _ _ s).comp (N := [.incidents, .tyre]) (same_tyreIncidents _ _ _ _) (by decide) (by decide)).comp
      (same_closeIncident _ _ _) (by decide) (by decide)
  · exact (same_updPosition _ _ s).comp (same_tyreIncidents _ _ _ _) (by decide) (by decide)

theorem same_endLearn (s : State) : SameBut [.portA, .channels, .load, .tyre] s (endLearn s) := by
  unfold endLearn
  split
  · exact .refl _ s
  · refine SameBut.comp (L := [.portA, .tyre]) ?_ (same_tyreSettle _) (by decide) (by decide)
    exact (same_updTyre _ s).comp (same_setTyreState _ _ _) (by decide) (by decide)

/-! ### The swap of a commit -/

theorem same_closeTyreIncidents (i) (s : State) : SameBut [.incidents] s (closeTyreIncidents i s) :=
  ((same_closeIncident _ _ s).trans (same_closeIncident _ _ _)).trans (same_closeIncident _ _ _)

theorem same_setAtSwap (i st) (s : State) : SameBut [.tyre, .portA] s (setAtSwap i st s) := by
  unfold setAtSwap
  split
  · exact same_setTyreState _ _ s
  · split
    · exact (same_updTyre _ s).mono (by decide)
    · exact same_setTyreState _ _ s

theorem same_clearAtSwap (i st tm) (s : State) : SameBut [.incidents, .portA, .tyre] s (clearAtSwap i st tm s) :=
  ((same_updPosition _ _ s).comp (N := [.incidents, .tyre]) (same_closeTyreIncidents _ _) (by decide) (by decide)).comp
    (same_setAtSwap _ _ _) (by decide) (by decide)

theorem same_reevaluate (i) (s : State) : SameBut [.incidents, .portA, .tyre] s (reevaluate i s) := by
  have h : ∀ q : Position, SameBut [.incidents, .tyre] s (tyreIncidents i (s.position i) q (s.updPosition i fun _ => q)) :=
    fun q => (same_updPosition _ _ s).comp (same_tyreIncidents _ _ _ _) (by decide) (by decide)
  unfold reevaluate
  dsimp only
  split
  · exact .refl _ s
  · split
    all_goals first
      | exact (h _).mono (by decide)
      | exact (h _).comp (same_setAtSwap _ _ _) (by decide) (by decide)

theorem same_endLearnAt (i) (s : State) : SameBut [.portA, .channels, .load, .tyre] s (endLearnAt i s) := by
  unfold endLearnAt
  split
  · exact .refl _ s
  · split
    · exact same_endLearn s
    · exact .refl _ s

theorem same_swapPosition (b i) (s : State) :
    SameBut [.incidents, .portA, .channels, .load, .tyre] s (swapPosition b i s) := by
  unfold swapPosition
  dsimp only
  split
  · exact (same_endLearnAt i s).comp (same_clearAtSwap _ _ _ _) (by decide) (by decide)
  · split
    · exact (same_clearAtSwap _ _ _ s).mono (by decide)
    · split
      · exact (same_clearAtSwap _ _ _ s).mono (by decide)
      · exact (same_reevaluate i s).mono (by decide)

/-- All that the tyre unit may change at a swap. -/
theorem same_tyreSwap (b) (s : State) : SameBut [.incidents, .portA, .channels, .load, .tyre] s (tyreSwap b s) :=
  (same_foldl _ (fun t i => same_swapPosition b i t) _ s).comp (same_tyreSettle _) (by decide) (by decide)

/-- All that a waiting swap may change when it is applied. -/
theorem same_applyHeld (s : State) :
    SameBut [.incidents, .portA, .channels, .load, .composer, .stability, .tyre, .unapplied] s (applyHeld s) := by
  unfold applyHeld applySwap
  split
  · exact .refl _ s
  · rename_i b _
    have h : SameBut [.unapplied] s { s with unapplied := none } := by
      intro p hp; cases p <;> first | rfl | exact absurd (by decide) hp
    exact (h.comp (N := [.incidents, .portA, .channels, .load, .composer, .stability, .unapplied])
      (same_reestablish _) (by decide) (by decide)).comp (same_tyreSwap b _) (by decide) (by decide)

/-- With no swap waiting there is nothing to apply. -/
theorem applyHeld_none (s : State) (h : s.unapplied = none) : applyHeld s = s := by
  unfold applyHeld
  rw [h]

/-- A swap is applied once. -/
theorem applyHeld_unapplied (s : State) : (applyHeld s).unapplied = none := by
  unfold applyHeld
  split
  · assumption
  · exact ((same_reestablish _).comp (N := [.incidents, .portA, .channels, .load, .composer, .stability, .tyre])
      (same_tyreSwap _ _) (by decide) (by decide)) .unapplied (by decide)

/-! ### Service mode and motion -/

theorem same_endService (s : State) : SameBut [.mgmt, .channels, .load] s (endService s) := by
  unfold endService
  split
  · intro p hp; cases p <;> first | rfl | exact absurd (by decide) hp
  · exact .refl _ s

theorem same_endTests (s : State) : SameBut [.channels, .load] s (endTests s) := by
  intro p hp; cases p <;> first | rfl | exact absurd (by decide) hp

theorem same_motionEvent (s : State) : SameBut [.portA, .channels, .load, .tyre, .mgmt] s (motionEvent s) :=
  ((same_endService s).comp (N := [.portA, .channels, .load, .tyre, .mgmt]) (same_endLearn _) (by decide) (by decide)).comp
    (same_endTests _) (by decide) (by decide)

theorem same_respond (code r res data) (s : State) : SameBut [portPart r.port] s (respond code r res data s) :=
  same_enqueue _ _ _ s

/-! ### Completions -/

theorem same_stage5 (fr) (s : State) :
    SameBut [.portA, .wheel, .channels, .load, .tyre, .mgmt] s (stage5 s fr) := by
  unfold stage5
  dsimp only
  split
  · split
    · exact (same_updWheel _ s).comp (same_motionEvent _) (by decide) (by decide)
    · exact (same_updWheel _ s).mono (by decide)
  · split
    · split
      · exact .refl _ s
      · exact (same_updWheel _ s).mono (by decide)
    · exact (same_updWheel _ s).mono (by decide)

theorem same_stage1 (fr) (s : State) : SameBut [.channels] s (stage1 s fr) := same_mapChannels _ s
theorem same_stage2 (b) (s : State) : SameBut [.wheel] s (stage2 s b) := same_updWheel _ s
theorem same_stage3 (fr) (s : State) : SameBut [.channels] s (stage3 s fr) := same_mapChannels _ s
theorem same_stage4 (fr) (s : State) : SameBut [.channels, .load] s (stage4 s fr) :=
  (same_mapChannels _ s).comp (same_recompose _) (by decide) (by decide)

/-- All that the wheel and slip unit's work at a completion may change. -/
theorem same_wheelWork (fr b) (s : State) :
    SameBut [.portA, .wheel, .channels, .load, .tyre, .mgmt] s (wheelWork fr b s) := by
  unfold wheelWork
  refine SameBut.comp (L := [.wheel, .channels, .load]) ?_ (same_stage5 fr _) (by decide) (by decide)
  refine SameBut.comp (L := [.wheel, .channels]) ?_ (same_stage4 fr _) (by decide) (by decide)
  refine SameBut.comp (L := [.wheel, .channels]) ?_ (same_stage3 fr _) (by decide) (by decide)
  exact (same_stage1 fr s).comp (same_stage2 b _) (by decide) (by decide)

theorem same_loadWork (fr) (s : State) : SameBut [.channels, .load] s (loadWork fr s) := by
  intro p hp; cases p <;> first | rfl | exact absurd (by decide) hp

theorem same_composerWork (fr) (s : State) :
    SameBut [.incidents, .portA, .channels, .load, .composer, .stability] s (composerWork fr s) := by
  unfold composerWork
  refine SameBut.comp (L := [.incidents, .channels, .load, .composer]) ?_ (same_reestablish _) (by decide) (by decide)
  unfold judgeEmergency
  split
  · exact same_setEmergency _ s
  · split
    · exact .refl _ s
    · split
      · exact same_setEmergency _ s
      · exact .refl _ s

/-- All that going to SLEEP may change while no swap waits. -/
theorem same_enterSleep (s : State) (h : s.unapplied = none) : SameBut [.tyre, .power] s (enterSleep s) := by
  unfold enterSleep
  rw [applyHeld_none s h]
  unfold tyreSleep driveLamp
  dsimp only
  split
  · intro p hp; cases p <;> first | rfl | exact absurd (by decide) hp
  · intro p hp; cases p <;> first | rfl | exact absurd (by decide) hp

/-- In RUN a new voltage reaches the power controller alone. -/
theorem same_updateVoltage (v) (s : State) (h : s.inRun = true) : SameBut [.power] s (updateVoltage v s) := by
  unfold updateVoltage
  dsimp only
  simp only [h, Bool.not_true, Bool.and_false, Bool.false_eq_true, if_false]
  exact same_updPower _ s

/-- All that the five blocks' work at a completion may change. -/
theorem same_complete (fr b o) (s : State) :
    SameBut [.incidents, .portA, .wheel, .channels, .load, .composer, .stability, .tyre, .mgmt, .power] s
      (complete fr b o s) := by
  unfold complete
  refine same_foldl _ (fun t k => ?_) _ s
  cases k
  · exact (same_wheelWork fr b t).mono (by decide)
  · exact (same_loadWork fr t).mono (by decide)
  · exact (same_composerWork fr t).mono (by decide)
  · exact (same_stabilityWork _ t).mono (by decide)
  · show SameBut _ t (powerWork fr t)
    unfold powerWork
    split
    · exact .refl _ t
    · split
      · rename_i h
        simp only [Bool.and_eq_true] at h
        exact (same_updateVoltage _ t h.1).mono (by decide)
      · exact .refl _ t

end Sys2Proof.Machine
end

