-- ==== Sys2Proof/Laws/Moves.lean ====
section
/-! SUPPORT. What the blocks' operations can do to the ports, the incident list and the queue of commands, said once: they
enqueue frames, open and close incidents, and leave the rest of these three alone. Invariants of the ports and of the list
follow by one induction over `Moves`. -/

namespace Sys2Proof.Machine

/-- `Moves s t`: t follows from s by enqueues, openings and closings, and by changes that touch neither port, nor the
incident list, nor the queue of commands. -/
inductive Moves : State → State → Prop where
  | quiet {s t : State} (hA : t.portA = s.portA) (hB : t.portB = s.portB) (hI : t.incidents = s.incidents)
      (hP : t.pending = s.pending) : Moves s t
  | enqueued {s t : State} (p : Port) (q : QueueClass) (x : Frame) (h : Moves s t) : Moves s (enqueue p q x t)
  | opened {s t : State} (k : IncidentKind) (d : Nat) (h : Moves s t) : Moves s (openIncident k d t)
  | closed {s t : State} (w : Incident → Bool) (h : Moves s t) : Moves s (closeIncidents w t)
  | after {s t u : State} (h : Moves s t) (hA : u.portA = t.portA) (hB : u.portB = t.portB)
      (hI : u.incidents = t.incidents) (hP : u.pending = t.pending) : Moves s u

theorem Moves.refl (s : State) : Moves s s := .quiet rfl rfl rfl rfl

theorem Moves.trans {s t u : State} (h : Moves s t) (g : Moves t u) : Moves s u := by
  induction g with
  | quiet hA hB hI hP => exact .after h hA hB hI hP
  | enqueued p q x _ ih => exact .enqueued p q x ih
  | opened k d _ ih => exact .opened k d ih
  | closed w _ ih => exact .closed w ih
  | after _ hA hB hI hP ih => exact .after ih hA hB hI hP

theorem Moves.pending {s t : State} (h : Moves s t) : t.pending = s.pending := by
  induction h with
  | quiet _ _ _ hP => exact hP
  | enqueued p q x _ ih => simpa using ih
  | opened k d _ ih => simpa using ih
  | closed w _ ih => simpa using ih
  | after _ _ _ _ hP ih => exact hP.trans ih

/-- A fold of operations that move. -/
theorem moves_foldl {α : Type} (f : State → α → State) (hf : ∀ t a, Moves t (f t a)) (l : List α) (s : State) :
    Moves s (l.foldl f s) := by
  induction l generalizing s with
  | nil => exact .refl s
  | cons a l ih => exact (hf s a).trans (ih (f s a))

/-! ### The primitive updates -/

theorem moves_updRelay (f) (s : State) : Moves s (s.updRelay f) := .quiet rfl rfl rfl rfl
theorem moves_updChain (f) (s : State) : Moves s (s.updChain f) := .quiet rfl rfl rfl rfl
theorem moves_updWheel (f) (s : State) : Moves s (s.updWheel f) := .quiet rfl rfl rfl rfl
theorem moves_updComposer (f) (s : State) : Moves s (s.updComposer f) := .quiet rfl rfl rfl rfl
theorem moves_updStab (f) (s : State) : Moves s (s.updStab f) := .quiet rfl rfl rfl rfl
theorem moves_updTyre (f) (s : State) : Moves s (s.updTyre f) := .quiet rfl rfl rfl rfl
theorem moves_updMgmt (f) (s : State) : Moves s (s.updMgmt f) := .quiet rfl rfl rfl rfl
theorem moves_updPower (f) (s : State) : Moves s (s.updPower f) := .quiet rfl rfl rfl rfl
theorem moves_updLoad (f) (s : State) : Moves s (s.updLoad f) := .quiet rfl rfl rfl rfl
theorem moves_mapChannels (f) (s : State) : Moves s (s.mapChannels f) := .quiet rfl rfl rfl rfl
theorem moves_updPosition (i f) (s : State) : Moves s (s.updPosition i f) := .quiet rfl rfl rfl rfl
theorem moves_recompose (s : State) : Moves s (recompose s) := .quiet rfl rfl rfl rfl
theorem moves_enqueue (p q x) (s : State) : Moves s (enqueue p q x s) := .enqueued p q x (.refl s)
theorem moves_openIncident (k d) (s : State) : Moves s (openIncident k d s) := .opened k d (.refl s)
theorem moves_closeIncidents (w) (s : State) : Moves s (closeIncidents w s) := .closed w (.refl s)
theorem moves_closeIncident (k d) (s : State) : Moves s (closeIncident k d s) := .closed _ (.refl s)
theorem moves_closeKind (k) (s : State) : Moves s (closeKind k s) := .closed _ (.refl s)

/-! ### The relay -/

theorem moves_originateDiscover (s : State) : Moves s (originateDiscover s) := moves_enqueue _ _ _ s
theorem moves_originateWarn (s : State) : Moves s (originateWarn s) := moves_enqueue _ _ _ s
theorem moves_originateStatus (s : State) : Moves s (originateStatus s) := moves_enqueue _ _ _ s
theorem moves_originateTyre (i) (s : State) : Moves s (originateTyre i s) := moves_enqueue _ _ _ s
theorem moves_originateStability (s : State) : Moves s (originateStability s) := moves_enqueue _ _ _ s
theorem moves_unplace (s : State) : Moves s (unplace s) := moves_updRelay _ s
theorem moves_stopReports (s : State) : Moves s (stopReports s) := moves_updRelay _ s
theorem moves_startReports (s : State) : Moves s (startReports s) := moves_updRelay _ s

theorem moves_place (n) (s : State) : Moves s (place n s) := (moves_updRelay _ s).trans (moves_originateDiscover _)

theorem moves_discoverConsume (p d) (s : State) : Moves s (discoverConsume p d s) := by
  unfold discoverConsume
  split
  · exact .refl s
  · dsimp only
    split
    · split
      · exact .refl s
      · exact (moves_place _ s).trans (moves_closeIncident _ _ _)
    · split
      · exact (moves_unplace s).trans (moves_openIncident _ _ _)
      · exact .refl s

theorem moves_discoveryExpired (s : State) : Moves s (discoveryExpired s) :=
  (moves_updRelay _ s).trans (moves_originateDiscover _)

theorem moves_warnExpired (s : State) : Moves s (warnExpired s) := by
  unfold warnExpired
  dsimp only
  split
  · exact (moves_updRelay _ s).trans (moves_originateWarn _)
  · exact moves_updRelay _ s

theorem moves_statusExpired (s : State) : Moves s (statusExpired s) :=
  (moves_updRelay _ s).trans (moves_originateStatus _)

theorem moves_tyreExpired (s : State) : Moves s (tyreExpired s) := by
  unfold tyreExpired
  dsimp only
  split
  · exact moves_updRelay _ s
  · exact ((moves_updRelay _ s).trans (moves_originateTyre _ _)).trans (moves_updRelay _ _)

/-! ### Composition and stability -/

theorem moves_endTest (c) (s : State) : Moves s (endTest c s) := .quiet rfl rfl rfl rfl
theorem moves_endTests (s : State) : Moves s (endTests s) := .quiet rfl rfl rfl rfl

theorem moves_startTest (c p d) (s : State) : Moves s (startTest c p d s) := by
  unfold startTest
  split
  · exact moves_endTest c s
  · exact .quiet rfl rfl rfl rfl

theorem moves_rethreshold (s : State) : Moves s (rethreshold s) := .quiet rfl rfl rfl rfl
theorem moves_takeThreshold (s : State) : Moves s (takeThreshold s) := .quiet rfl rfl rfl rfl
theorem moves_endTestPulse (s : State) : Moves s (endTestPulse s) := .quiet rfl rfl rfl rfl
theorem moves_dropStabInt (s : State) : Moves s (dropStabInt s) := .quiet rfl rfl rfl rfl
theorem moves_dropStabTest (s : State) : Moves s (dropStabTest s) := .quiet rfl rfl rfl rfl

theorem moves_changeStab (st) (s : State) : Moves s (changeStab st s) :=
  (moves_updStab _ s).trans (moves_originateStability _)

theorem moves_enterOff (s : State) : Moves s (enterOff s) := by
  unfold enterOff
  split
  · exact .refl s
  · refine Moves.trans ?_ (moves_recompose _)
    refine Moves.trans ?_ (moves_changeStab _ _)
    refine Moves.trans ?_ (moves_closeIncident _ _ _)
    exact .quiet rfl rfl rfl rfl

theorem moves_testOff (s : State) : Moves s (testOff s) := by
  unfold testOff
  split
  · exact moves_enterOff s
  · exact .refl s

theorem moves_acknowledgeTest (side) (s : State) : Moves s (acknowledgeTest side s) := by
  unfold acknowledgeTest
  refine Moves.trans ?_ (moves_recompose _)
  refine Moves.trans ?_ (moves_changeStab _ _)
  exact .quiet rfl rfl rfl rfl

theorem moves_offerTest (side) (s : State) : Moves s (offerTest side s) := by
  unfold offerTest
  split
  · exact moves_acknowledgeTest side s
  · exact moves_updStab _ s

theorem moves_abandonTest (s : State) : Moves s (abandonTest s) := by
  unfold abandonTest
  refine Moves.trans ?_ (moves_recompose _)
  refine Moves.trans ?_ (moves_changeStab _ _)
  exact .quiet rfl rfl rfl rfl

theorem moves_intervene (side) (s : State) : Moves s (intervene side s) := by
  unfold intervene
  refine Moves.trans ?_ (moves_recompose _)
  refine Moves.trans ?_ (moves_changeStab _ _)
  refine Moves.trans ?_ (moves_openIncident _ _ _)
  exact .quiet rfl rfl rfl rfl

theorem moves_enterRecover (s : State) : Moves s (enterRecover s) := by
  unfold enterRecover
  refine Moves.trans ?_ (moves_recompose _)
  refine Moves.trans ?_ (moves_changeStab _ _)
  exact .quiet rfl rfl rfl rfl

theorem moves_lift (s : State) : Moves s (lift s) := by
  unfold lift
  refine Moves.trans ?_ (moves_intervene _ _)
  exact .quiet rfl rfl rfl rfl

theorem moves_moveTo (st) (s : State) : Moves s (moveTo st s) := (moves_updStab _ s).trans (moves_changeStab _ _)

theorem moves_considerTest (ay) (s : State) : Moves s (considerTest ay s) := by
  unfold considerTest
  dsimp only
  split
  · exact moves_updStab _ s
  · split
    · exact moves_offerTest _ s
    · exact .refl s

theorem moves_evaluate (s : State) : Moves s (evaluate s) := by
  unfold evaluate
  dsimp only
  split
  · exact moves_enterOff s
  · split
    · exact moves_moveTo _ s
    · split
      · exact moves_intervene _ s
      · split
        · exact moves_moveTo _ s
        · exact .refl s
    · split
      · exact moves_intervene _ s
      · split
        · exact moves_moveTo _ s
        · exact moves_considerTest _ s
    · split
      · exact (moves_endTestPulse s).trans (moves_intervene _ _)
      · split
        · exact moves_abandonTest s
        · exact .refl s
    · split
      · exact .refl s
      · exact moves_enterRecover s
    · split
      · exact moves_intervene _ s
      · exact .refl s

theorem moves_removeDegraded (s : State) : Moves s (removeDegraded s) := .quiet rfl rfl rfl rfl

theorem moves_workTest (s : State) : Moves s (workTest s) := by
  unfold workTest
  dsimp only
  refine (moves_removeDegraded s).trans ?_
  split
  · exact moves_abandonTest _
  · split
    · exact moves_lift _
    · exact .refl _

theorem moves_workWatch (s : State) : Moves s (workWatch s) := by
  unfold workWatch
  dsimp only
  split
  · exact .refl s
  · split
    · exact moves_updStab _ s
    · split
      · exact moves_acknowledgeTest _ s
      · exact .refl s

theorem moves_workInState (s : State) : Moves s (workInState s) := by
  unfold workInState
  split
  · exact moves_workTest s
  · exact moves_workWatch s
  all_goals exact .refl s

theorem moves_stabilityWork (b) (s : State) : Moves s (stabilityWork b s) := by
  have h : Moves s (if b then evaluate (takeThreshold s) else testOff s) := by
    split
    · exact (moves_takeThreshold s).trans (moves_evaluate _)
    · exact moves_testOff s
  have g : ∀ t, Moves s t → Moves s (if t.stability.state = s.stability.state then workInState t else t) := by
    intro t ht
    split
    · exact ht.trans (moves_workInState _)
    · exact ht
  exact g _ h

theorem moves_stabilitySwap (s : State) : Moves s (stabilitySwap s) := by
  unfold stabilitySwap
  dsimp only
  refine Moves.trans ?_ (moves_testOff _)
  exact .quiet rfl rfl rfl rfl

theorem moves_demandLost (a b) (s : State) : Moves s (demandLost a b s) := by
  unfold demandLost
  split
  · exact moves_openIncident _ _ s
  · split
    · exact moves_closeIncident _ _ s
    · exact .refl s

theorem moves_reestablish (s : State) : Moves s (reestablish s) := by
  have h : Moves s (recompose (demandLost s.composer.mode (brakeMode s)
      (s.updComposer fun c => { c with effective := effectiveDemand s, mode := brakeMode s }))) :=
    ((moves_updComposer _ s).trans (moves_demandLost _ _ _)).trans (moves_recompose _)
  unfold reestablish
  dsimp only
  split
  · exact h
  · exact h.trans (moves_testOff _)

theorem moves_recovered (s : State) : Moves s (recovered s) := by
  unfold recovered
  refine Moves.trans ?_ (moves_changeStab _ _)
  exact (moves_updStab _ s).trans (moves_closeIncident _ _ _)

/-! ### Tyres -/

theorem moves_driveLamp (s : State) : Moves s (driveLamp s) := by
  unfold driveLamp
  dsimp only
  split
  · exact .refl s
  · exact moves_updTyre _ s

theorem moves_tyreSettle (s : State) : Moves s (tyreSettle s) := (moves_driveLamp s).trans (moves_recompose _)

theorem moves_setTyreState (i st) (s : State) : Moves s (setTyreState i st s) := by
  unfold setTyreState
  dsimp only
  split
  · exact moves_updPosition _ _ s
  · exact (moves_updPosition _ _ s).trans (moves_originateTyre _ _)

theorem moves_tyreIncidents (i a b) (s : State) : Moves s (tyreIncidents i a b s) := by
  unfold tyreIncidents
  have h : Moves s (if b.level = .critical && a.level ≠ .critical then openIncident .tyreCritical i s
      else if a.level = .critical && b.level ≠ .critical then closeIncident .tyreCritical i s else s) := by
    split
    · exact moves_openIncident _ _ s
    · split
      · exact moves_closeIncident _ _ s
      · exact .refl s
  dsimp only
  split
  · exact h.trans (moves_openIncident _ _ _)
  · split
    · exact h.trans (moves_closeIncident _ _ _)
    · exact h

theorem moves_acceptTelegram (i fd t) (s : State) : Moves s (acceptTelegram i fd t s) := by
  unfold acceptTelegram
  dsimp only
  refine Moves.trans ?_ (moves_tyreSettle _)
  refine Moves.trans ?_ (moves_setTyreState _ _ _)
  have h := (moves_updPosition i (fun _ => acceptRecord s.active i fd t (s.position i)) s).trans
    (moves_tyreIncidents i (s.position i) (acceptRecord s.active i fd t (s.position i)) _)
  split
  · exact h.trans (moves_closeIncident _ _ _)
  · exact h

theorem moves_beginLearnWrite (s : State) : Moves s (beginLearnWrite s) := moves_updMgmt _ s

theorem moves_storeLearned (s : State) : Moves s (storeLearned s) := by
  unfold storeLearned
  split
  · exact moves_updMgmt _ s
  · exact moves_beginLearnWrite s

theorem moves_writeLearned (i fd x) (s : State) : Moves s (writeLearned i fd x s) := .quiet rfl rfl rfl rfl

theorem moves_closeTyreIncidents (i) (s : State) : Moves s (closeTyreIncidents i s) :=
  ((moves_closeIncident _ _ s).trans (moves_closeIncident _ _ _)).trans (moves_closeIncident _ _ _)

theorem moves_completeLearn (l t) (s : State) : Moves s (completeLearn l t s) := by
  unfold completeLearn
  refine Moves.trans ?_ (moves_acceptTelegram _ _ _ _)
  refine Moves.trans ?_ (moves_updTyre _ _)
  refine Moves.trans ?_ (moves_closeTyreIncidents _ _)
  refine Moves.trans ?_ (moves_updPosition _ _ _)
  exact (moves_writeLearned _ _ _ s).trans (moves_storeLearned _)

theorem moves_endLearn (s : State) : Moves s (endLearn s) := by
  unfold endLearn
  split
  · exact .refl s
  · exact ((moves_updTyre _ s).trans (moves_setTyreState _ _ _)).trans (moves_tyreSettle _)

theorem moves_startLearn (i fd) (s : State) : Moves s (startLearn i fd s) :=
  ((moves_updTyre _ s).trans (moves_setTyreState _ _ _)).trans (moves_tyreSettle _)

theorem moves_startTyres (s : State) : Moves s (startTyres s) := moves_updTyre _ s
theorem moves_tyreSleep (s : State) : Moves s (tyreSleep s) := (moves_updTyre _ s).trans (moves_driveLamp _)
theorem moves_tyreWake (s : State) : Moves s (tyreWake s) := (moves_updTyre _ s).trans (moves_driveLamp _)

theorem moves_setAtSwap (i st) (s : State) : Moves s (setAtSwap i st s) := by
  unfold setAtSwap
  split
  · exact moves_setTyreState _ _ s
  · split
    · exact moves_updTyre _ s
    · exact moves_setTyreState _ _ s

theorem moves_clearAtSwap (i st tm) (s : State) : Moves s (clearAtSwap i st tm s) :=
  ((moves_updPosition _ _ s).trans (moves_closeTyreIncidents _ _)).trans (moves_setAtSwap _ _ _)

theorem moves_reevaluate (i) (s : State) : Moves s (reevaluate i s) := by
  unfold reevaluate
  dsimp only
  split
  · exact .refl s
  · split
    all_goals first
      | exact (moves_updPosition _ _ s).trans (moves_tyreIncidents _ _ _ _)
      | exact ((moves_updPosition _ _ s).trans (moves_tyreIncidents _ _ _ _)).trans (moves_setAtSwap _ _ _)

theorem moves_endLearnAt (i) (s : State) : Moves s (endLearnAt i s) := by
  unfold endLearnAt
  split
  · exact .refl s
  · split
    · exact moves_endLearn s
    · exact .refl s

theorem moves_swapPosition (b i) (s : State) : Moves s (swapPosition b i s) := by
  unfold swapPosition
  dsimp only
  split
  · exact (moves_endLearnAt i s).trans (moves_clearAtSwap _ _ _ _)
  · split
    · exact moves_clearAtSwap _ _ _ s
    · split
      · exact moves_clearAtSwap _ _ _ s
      · exact moves_reevaluate i s

theorem moves_tyreSwap (b) (s : State) : Moves s (tyreSwap b s) :=
  (moves_foldl _ (fun t i => moves_swapPosition b i t) _ s).trans (moves_tyreSettle _)

theorem moves_applySwap (b) (s : State) : Moves s (applySwap b s) := (moves_reestablish s).trans (moves_tyreSwap b _)

theorem moves_applyHeld (s : State) : Moves s (applyHeld s) := by
  unfold applyHeld
  split
  · exact .refl s
  · rename_i b _
    have h : Moves s { s with unapplied := none } := .quiet rfl rfl rfl rfl
    exact h.trans (moves_applySwap b _)

theorem moves_deliver (b) (s : State) : Moves s (deliver b s) := by
  unfold deliver
  split
  · exact .refl s
  · dsimp only
    split
    · exact (moves_applyHeld s).trans (moves_updTyre _ _)
    · exact (moves_applyHeld s).trans (moves_updTyre _ _)

theorem moves_offerLearn (t) (s : State) : Moves s (offerLearn t s) := by
  unfold offerLearn
  split
  · exact .refl s
  · split
    · exact moves_completeLearn _ _ s
    · exact .refl s

theorem moves_handleTelegram (t) (s : State) : Moves s (handleTelegram t s) := by
  unfold handleTelegram
  split
  · exact moves_offerLearn t s
  · split
    · exact .refl s
    · split
      · exact .refl s
      · exact moves_acceptTelegram _ _ _ s

theorem moves_takeTelegram (s : State) : Moves s (takeTelegram s) := by
  unfold takeTelegram
  split
  · exact .refl s
  · exact ((moves_applyHeld s).trans (moves_updTyre _ _)).trans (moves_handleTelegram _ _)

theorem moves_savedMissing (i) (s : State) : Moves s (savedMissing i s) := by
  unfold savedMissing
  split
  · exact .refl s
  · split
    · exact ((moves_updTyre _ s).trans (moves_openIncident _ _ _)).trans (moves_tyreSettle _)
    · exact .refl s

theorem moves_fallSilent (i) (s : State) : Moves s (fallSilent i s) := by
  unfold fallSilent
  dsimp only
  refine (moves_updPosition i (fun q => { q with missing := none }) s).trans ?_
  split
  · exact moves_savedMissing i _
  · exact .refl _
  · exact ((moves_setTyreState _ _ _).trans (moves_openIncident _ _ _)).trans (moves_tyreSettle _)

theorem moves_missingExpired (i) (s : State) : Moves s (missingExpired i s) := by
  unfold missingExpired
  dsimp only
  split
  · exact (moves_applyHeld s).trans (moves_fallSilent i _)
  · exact moves_applyHeld s

/-! ### Completions -/

theorem moves_endService (s : State) : Moves s (endService s) := by
  unfold endService
  split
  · exact .quiet rfl rfl rfl rfl
  · exact .refl s

theorem moves_motionEvent (s : State) : Moves s (motionEvent s) :=
  ((moves_endService s).trans (moves_endLearn _)).trans (moves_endTests _)

theorem moves_stage5 (fr) (s : State) : Moves s (stage5 s fr) := by
  unfold stage5
  dsimp only
  split
  · split
    · exact (moves_updWheel _ s).trans (moves_motionEvent _)
    · exact moves_updWheel _ s
  · split
    · split
      · exact .refl s
      · exact moves_updWheel _ s
    · exact moves_updWheel _ s

theorem moves_wheelWork (fr b) (s : State) : Moves s (wheelWork fr b s) :=
  (((moves_mapChannels _ s).trans (moves_updWheel _ (stage1 s fr))).trans
    ((moves_mapChannels _ (stage2 (stage1 s fr) b)).trans
      ((moves_mapChannels _ (stage3 (stage2 (stage1 s fr) b) fr)).trans (moves_recompose _)))).trans (moves_stage5 _ _)

theorem moves_loadWork (fr) (s : State) : Moves s (loadWork fr s) := .quiet rfl rfl rfl rfl

theorem moves_setEmergency (b) (s : State) : Moves s (setEmergency b s) := by
  unfold setEmergency
  split
  · exact .refl s
  · dsimp only
    split
    · exact ((moves_updComposer _ s).trans (moves_openIncident _ _ _)).trans (moves_recompose _)
    · exact ((moves_updComposer _ s).trans (moves_closeIncident _ _ _)).trans (moves_recompose _)

theorem moves_judgeEmergency (fr) (s : State) : Moves s (judgeEmergency fr s) := by
  unfold judgeEmergency
  split
  · exact moves_setEmergency _ s
  · split
    · exact .refl s
    · split
      · exact moves_setEmergency _ s
      · exact .refl s

theorem moves_composerWork (fr) (s : State) : Moves s (composerWork fr s) :=
  (moves_judgeEmergency fr s).trans (moves_reestablish _)

theorem moves_enterSleep (s : State) : Moves s (enterSleep s) :=
  ((moves_applyHeld s).trans (moves_updPower _ _)).trans (moves_tyreSleep _)
theorem moves_setLockout (s : State) : Moves s (setLockout s) := moves_updPower _ s

theorem moves_updateVoltage (v) (s : State) : Moves s (updateVoltage v s) := by
  unfold updateVoltage
  dsimp only
  split
  · split
    · exact .quiet rfl rfl rfl rfl
    · exact (show Moves s (setLockout (s.updPower fun p =>
        { p with voltage := v, low := nextLow s.active.tuning.batteryLimit v s.power.low })) from
          .quiet rfl rfl rfl rfl).trans (moves_enterSleep _)
  · exact moves_updPower _ s

theorem moves_powerWork (fr) (s : State) : Moves s (powerWork fr s) := by
  unfold powerWork
  split
  · exact .refl s
  · split
    · exact moves_updateVoltage _ s
    · exact .refl s

theorem moves_blockWork (fr b k) (s : State) : Moves s (blockWork fr b k s) := by
  unfold blockWork
  split
  · exact moves_wheelWork fr b s
  · exact moves_loadWork fr s
  · exact moves_composerWork fr s
  · exact moves_stabilityWork _ s
  · exact moves_powerWork fr s

theorem moves_complete (fr b o) (s : State) : Moves s (complete fr b o s) :=
  moves_foldl _ (fun t k => moves_blockWork fr b k t) _ s

/-! ### The chain -/

theorem moves_nodeIncident (n a b) (s : State) : Moves s (nodeIncident n a b s) := by
  unfold nodeIncident
  split
  · exact moves_openIncident _ _ s
  · split
    · exact moves_closeIncident _ _ s
    · exact .refl s

theorem moves_applyResponse (n r) (s : State) : Moves s (applyResponse n r s) :=
  (show Moves s (updNode n _ s) from moves_updChain _ s).trans (moves_nodeIncident _ _ _ _)

theorem moves_applyResponses (rs) (s : State) : Moves s (applyResponses rs s) :=
  moves_foldl _ (fun t n => moves_applyResponse n _ t) _ s

theorem moves_moveGood (s : State) : Moves s (moveGood s) := by
  unfold moveGood
  split
  · exact moves_updChain _ s
  · exact .refl s
  · split
    · exact (moves_updChain _ s).trans (moves_closeIncident _ _ _)
    · exact .refl s

theorem moves_moveFailed (s : State) : Moves s (moveFailed s) := by
  unfold moveFailed
  split
  · exact (moves_updChain _ s).trans (moves_openIncident _ _ _)
  · exact .refl s

theorem moves_goodSession (rs o) (s : State) : Moves s (goodSession rs o s) := by
  unfold goodSession
  refine Moves.trans ?_ (moves_complete _ _ _ _)
  refine Moves.trans ?_ (moves_recompose _)
  refine Moves.trans ?_ (moves_moveGood _)
  exact (moves_applyResponses rs s).trans (moves_updChain _ _)

theorem moves_failSession (x o) (s : State) : Moves s (failSession x o s) := by
  unfold failSession
  refine Moves.trans ?_ (moves_complete _ _ _ _)
  refine Moves.trans ?_ (moves_recompose _)
  exact (moves_updChain _ s).trans (moves_moveFailed _)

theorem moves_reinitialise (s : State) : Moves s (reinitialise s) := by
  unfold reinitialise
  dsimp only
  refine Moves.trans ?_ (moves_reestablish _)
  refine Moves.trans ?_ (moves_setEmergency _ _)
  refine Moves.trans (t := closeKind .nodeDegraded (closeKind .chainFaulted (bindChain (chainReset s)))) ?_ (.quiet rfl rfl rfl rfl)
  refine Moves.trans ?_ (moves_closeKind _ _)
  refine Moves.trans ?_ (moves_closeKind _ _)
  exact .quiet rfl rfl rfl rfl

theorem moves_sessionStart (b) (s : State) : Moves s (sessionStart b s) := by
  unfold sessionStart
  refine Moves.trans (t := if b || chainDiffers s then reinitialise s else bindChain s) ?_ (.quiet rfl rfl rfl rfl)
  split
  · exact moves_reinitialise s
  · exact moves_updChain _ s

theorem moves_startPeriod (s : State) : Moves s (startPeriod s) := moves_updChain _ s

theorem moves_startChain (b) (s : State) : Moves s (startChain b s) := by
  unfold startChain
  split
  · exact (moves_sessionStart b s).trans (moves_startPeriod _)
  · exact .refl s

theorem moves_periodExpired (o) (s : State) : Moves s (periodExpired o s) := by
  have h : Moves s (if (startPeriod s).chain.outstanding.isSome then failSession .noResponse o (startPeriod s)
      else startPeriod s) := by
    split
    · exact (moves_startPeriod s).trans (moves_failSession _ _ _)
    · exact moves_startPeriod s
  have g : ∀ t, Moves s t → Moves s (if t.active.chain.configured then sessionStart false t else t) := by
    intro t ht
    split
    · exact ht.trans (moves_sessionStart _ _)
    · exact ht
  exact g _ h

theorem moves_listReturned (l o) (s : State) : Moves s (listReturned l o s) := by
  unfold listReturned
  split
  · split
    · exact moves_goodSession _ _ s
    · exact moves_failSession _ _ s
  · exact .refl s

theorem moves_stopChain (s : State) : Moves s (stopChain s) :=
  ((moves_updChain _ s).trans (moves_closeKind _ _)).trans (moves_closeKind _ _)

end Sys2Proof.Machine
end

