-- ==== Sys2Proof/Laws/Shared.lean ====
section
/-! SUPPORT. What the shared operations give when read back: the lists of channels, groups, nodes and positions, the ports,
the incident list, the expiry of a timer and the checks before a request. -/

namespace Sys2Proof.Machine

/-! ### Timers -/

@[simp] theorem onExpiry_none (f : State → State) (s : State) : onExpiry none f s = s := rfl
@[simp] theorem onExpiry_some (r : Nat) (f : State → State) (s : State) : onExpiry (some r) f s = f (elapse r s) := rfl

/-! ### Ports -/

theorem enqueue_port (p : Port) (q : QueueClass) (x : Frame) (s : State) :
    (enqueue p q x s).port p = (s.port p).enqueue q { frame := x, restart := false } := updPort_port_self s p _

theorem choose_of_some (ps : PortState) (h : ps.offer.isSome = true) : ps.choose = ps := by
  unfold PortState.choose
  rw [if_pos h]

/-! ### Channels, groups, nodes, positions -/

theorem mapChannels_channel (s : State) (f : Nat → Channel → Channel) {c : Nat} (h : 1 ≤ c) (hc : c ≤ s.channels.length) :
    (s.mapChannels f).channel c = f c (s.channel c) := by
  have h2 : c - 1 < s.channels.length := by omega
  have h3 : c - 1 + 1 = c := by omega
  simp [State.channel, State.mapChannels, h2, h3]

/-- One channel after every value is rewritten: computed from the loads as they now stand. -/
theorem recompose_channel (s : State) {c : Nat} (h : 1 ≤ c) (hc : c ≤ s.channels.length) :
    (recompose s).channel c = channelNow (s.updLoad fun _ => loadNow s) c (s.channel c) :=
  mapChannels_channel _ _ h hc

/-- One group after every value is rewritten. -/
theorem recompose_group (s : State) {g : Nat} (h : 1 ≤ g) (hg : g ≤ 3) : (recompose s).group g = groupNow s g := by
  have h3 : g = 1 ∨ g = 2 ∨ g = 3 := by omega
  rcases h3 with rfl | rfl | rfl <;> rfl

theorem updNode_node (n m : Nat) (f : Node → Node) (s : State) (h : 1 ≤ n) (hn : n ≤ s.chain.nodes.length) (hm : 1 ≤ m) :
    (updNode n f s).node m = if m = n then f (s.node m) else s.node m := by
  have h2 : n - 1 < s.chain.nodes.length := by omega
  by_cases e : m = n
  · subst e
    simp [State.node, updNode, List.getD_eq_getElem?_getD, h2]
  · have e2 : n - 1 ≠ m - 1 := by omega
    simp [State.node, updNode, List.getD_eq_getElem?_getD, e, e2]

theorem updPosition_position (i j : Nat) (f : Position → Position) (s : State) (h : i < s.tyre.positions.length) :
    (s.updPosition i f).position j = if j = i then f (s.position j) else s.position j := by
  by_cases e : j = i
  · subst e
    simp [State.position, State.updPosition, List.getD_eq_getElem?_getD, h]
  · have e2 : i ≠ j := fun x => e x.symm
    simp [State.position, State.updPosition, List.getD_eq_getElem?_getD, e, e2]

/-! ### Incidents -/

theorem openFor_iff (k : IncidentKind) (d : Nat) (i : Incident) :
    i.openFor k d = true ↔ i.kind = k ∧ i.detail = d ∧ i.closed = none := by
  simp [Incident.openFor, and_comm, and_left_comm]

/-- After an opening the kind and detail are OPEN (R173). -/
theorem hasOpen_openIncident (k : IncidentKind) (d : Nat) (s : State) : HasOpen k d (openIncident k d s) := by
  unfold openIncident
  split
  · rename_i h
    obtain ⟨i, hi, ho⟩ := List.any_eq_true.mp h
    have hk := (openFor_iff k d i).mp ho
    refine ⟨{ i with repeats := satSucc 255 i.repeats }, ?_, hk⟩
    exact List.mem_map.mpr ⟨i, hi, if_pos ho⟩
  · exact ⟨_, List.mem_append_right _ (List.mem_singleton.mpr rfl), rfl, rfl, rfl⟩

/-- After a closing nothing of that kind and detail is OPEN (R174). -/
theorem not_hasOpen_closeIncident (k : IncidentKind) (d : Nat) (s : State) : ¬ HasOpen k d (closeIncident k d s) := by
  rintro ⟨i, hi, hk, hd, hc⟩
  obtain ⟨j, _, rfl⟩ := List.mem_map.mp hi
  by_cases h : (j.closed.isNone && (decide (j.kind = k) && decide (j.detail = d))) = true
  · rw [if_pos h] at hc
    exact absurd hc (by simp)
  · rw [if_neg h] at hk hd hc
    exact h (by simp [hk, hd, hc])

/-! ### Requests -/

theorem takes_eq_true (s : State) (r : Request) : takes r s = true ↔ taken s r := by
  simp [takes, taken, State.inRun, Request.wf]

theorem busy_eq_false (s : State) : busy s = false ↔ free s := by
  simp [busy, free, State.storeWriting]

/-- The checks of R161 said once: a request is not taken, is BUSY, is short, or acts. -/
theorem manage_cases (code : Byte) (need : Nat) (exempt : Bool) (act : State → State) (r : Request) (s : State) :
    (takes r s = false ∧ manage code need exempt act r s = s) ∨
    (takes r s = true ∧ exempt = false ∧ busy (touchIdle s) = true ∧
      manage code need exempt act r s = respond code r .busy [] (touchIdle s)) ∨
    (takes r s = true ∧ (exempt = true ∨ busy (touchIdle s) = false) ∧ r.args.length < need ∧
      manage code need exempt act r s = respond code r .badValue [] (touchIdle s)) ∨
    (takes r s = true ∧ (exempt = true ∨ busy (touchIdle s) = false) ∧ need ≤ r.args.length ∧
      manage code need exempt act r s = act (touchIdle s)) := by
  cases h : takes r s <;> cases e : exempt <;> cases b : busy (touchIdle s) <;>
    by_cases n : r.args.length < need <;> simp [manage, h, b, n] <;> omega

theorem touchIdle_mgmt (s : State) : (touchIdle s).mgmt = idled s.mgmt := by
  unfold touchIdle idled State.inService
  split <;> rfl

end Sys2Proof.Machine
end

