-- ==== Sys2Proof/Tests/Slice0.lean ====
section
/-! SUPPORT. The model's own tests: an ill-formed operand for each check, figures that the manual works out, and for each
statement with hypotheses a state and operands that meet them. Expected figures are the manual's own (sections named). -/

namespace Sys2Proof.Tests

open Sys2Proof.Machine

set_option Elab.async false

/-! ### Each check refuses an ill-formed operand -/

/-- A frame that holds so many data bytes. -/
def frameOf (n : Nat) : Frame := { cls := 1, target := 7, origin := 0, data := List.replicate n 0 }

/-- A request that holds so many argument bytes. -/
def requestWith (n : Nat) : Request := { port := .A, origin := 0, tag := 5, args := List.replicate n 0 }

/-- The five blocks in the manual's order. -/
def five : List Block := [.wheel, .load, .composer, .stability, .power]

theorem test_wf_frame : (Instr.frameReceived .A (frameOf 8) .passFirst).wf = true ∧
    (Instr.frameReceived .A (frameOf 9) .passFirst).wf = false := by decide

theorem test_wf_request : (Instr.stage (requestWith 6)).wf = true ∧ (Instr.stage (requestWith 7)).wf = false := by decide

theorem test_wf_unknown : (Instr.unknownRequest 13 (requestWith 0)).wf = true ∧
    (Instr.unknownRequest 12 (requestWith 0)).wf = false ∧ (Instr.unknownRequest 0 (requestWith 7)).wf = false := by decide

theorem test_wf_supply : (Instr.coldStart 400 true).wf = true ∧ (Instr.coldStart 401 true).wf = false ∧
    (Instr.linkPowerOff 401).wf = false ∧ (Instr.batterySampleTimerExpiry 401).wf = false := by decide

theorem test_wf_order : (Instr.periodTimerExpiry five).wf = true ∧ (Instr.periodTimerExpiry five.tail).wf = false ∧
    (Instr.responseListReturn [] [.load, .load, .composer, .stability, .power]).wf = false := by decide

theorem test_wf_position : (Instr.missingTimerExpiry 15).wf = true ∧ (Instr.missingTimerExpiry 16).wf = false := by decide

theorem test_wf_channel : (Instr.serviceTestTimerExpiry 6).wf = true ∧ (Instr.serviceTestTimerExpiry 0).wf = false ∧
    (Instr.serviceTestTimerExpiry 7).wf = false := by decide

/-! ### Figures of the manual -/

/-- The record of group 1 and group 2 of section 5.10. -/
def bulk : GroupRec := { pE := 50, pL := 450, lE := 250, lL := 900, e := 102, d0 := 20, lead := 10, pMax := 850, k := 4 }

/-- R86, R87 and section 5.10. -/
theorem test_load_ratio : loadRatio bulk (some 290) = 614 ∧ groupLoad bulk 614 = 640 ∧ loadRatio bulk (some 410) = 922 ∧
    groupLoad bulk 922 = 835 ∧ loadRatio bulk (some 292) = 620 := by decide

/-- R90, R91 and section 5.10: the target, the derate of the CRITICAL side, and the empty and laden ends. -/
theorem test_characteristic : characteristic bulk 614 400 = 310 ∧ derate defaultTuning .critical 310 = 232 ∧
    characteristic bulk 0 400 = 159 ∧ characteristic bulk 1024 400 = 410 ∧ characteristic bulk 922 400 = 385 := by decide

/-- R94 and sections 6.9 and 7.10: intervention values at 350. -/
theorem test_intervention_values : characteristic bulk 614 350 = 272 ∧ derate defaultTuning .critical 272 = 204 ∧
    characteristic bulk 922 350 = 338 := by decide

/-- R84: toward 310 and toward 250 from 290, both with k = 4, and a frozen filter. -/
theorem test_filter : filterStep 4 true (some 290) 310 = 291 ∧ filterStep 4 true (some 290) 250 = 288 ∧
    filterStep 4 false (some 290) 310 = 290 ∧ filterStep 4 true none 310 = 310 := by decide

/-- R120, R121: the worked case at 19 200 kg, and the last value with a floor. -/
theorem test_threshold : thresholdOf defaultStab 1920 .none = 365 ∧ thresholdOf defaultStab 1920 .low = 345 ∧
    thresholdOf defaultStab 1920 .critical = 305 ∧ 345 * 205 / 256 = 276 ∧ 345 * 154 / 256 = 207 ∧
    thresholdOf defaultStab 400 .critical = 390 ∧ thresholdOf defaultStab 1475 .low = 372 := by decide

/-- R67: the table of section 4.5. -/
theorem test_acceleration : wheelAccel (some 100) 82 10 = -500 ∧ wheelAccel (some 100) 97 10 = -83 ∧
    wheelAccel (some 100) 103 10 = 83 ∧ wheelAccel (some 100) 85 10 = -416 ∧ wheelAccel (some 100) 92 5 = -444 ∧
    wheelAccel (some 100) 71 20 = -402 ∧ wheelAccel none 71 20 = 0 := by decide

/-- R65: three completions of the worked case of section 4.4. -/
theorem test_reference : decayStep 80 10 = 2 ∧ nextReference 600 2 (some 596) = 598 ∧ nextReference 598 2 none = 596 ∧
    nextReference 592 2 (some 585) = 590 ∧ nextReference 588 2 (some 592) = 592 := by decide

/-- R68: slips of section 4.10. -/
theorem test_slip : slipOf 70 599 570 = 49 ∧ slipOf 70 595 460 = 232 ∧ slipOf 70 587 580 = 12 ∧ slipOf 70 69 0 = 0 := by decide

/-- R147 and section 8.11. -/
theorem test_compensation : compensate 101 880 25 = 764 := by decide

/-- R150: the rates of section 8.10 at 45 s, 75 s and 90 s, and what they do to the flag. -/
theorem test_leak : lossRate [(0, 700), (15000, 695), (30000, 690), (45000, 684)] = some 21 ∧
    lossRate [(30000, 690), (45000, 684), (60000, 679), (75000, 678)] = some 16 ∧
    nextLeak 20 (some 21) false false = true ∧ nextLeak 20 (some 16) false true = true ∧
    nextLeak 20 (some 8) false true = false := by decide

/-- R149 at a nominal pressure of 750: the two thresholds and the two recoveries. -/
theorem test_levels : nextLevel defaultTuning 750 673 .normal = .low ∧ nextLevel defaultTuning 750 678 .normal = .normal ∧
    nextLevel defaultTuning 750 600 .normal = .critical ∧ nextLevel defaultTuning 750 691 .low = .low ∧
    nextLevel defaultTuning 750 692 .low = .normal := by decide

/-- The record lengths of section 11.2. -/
theorem test_record_lengths :
    (recordBytes factoryImage State.reset .stability 0).length = 64 ∧
    (recordBytes factoryImage State.reset .tuning 0).length = 31 ∧
    (recordBytes factoryImage State.reset .tyrePosition 0).length = 52 := by decide +kernel

/-- Every record of the factory image passes its checks but the CHAIN record, whose node count of 0 no commit may hold
(R42, R168). -/
theorem test_factory_image : firstFailure factoryImage = some (.chain, 0) := by decide +kernel

/-- The state after reset is what a cold start makes of a store whose CRC fails (R172, R183). -/
theorem test_reset_is_cold_start : coldStart 246 true State.reset = State.reset := by decide +kernel

/-! ### States that the witnesses use -/

/-- Position 3 of section 8.10 with two IDs, and position 5 with none. -/
def wheels : List TyreRec :=
  (List.replicate 16 emptyTyre).set 3
    { configured := true, group := 1, side := .left, axle := 1, slot := 0, nominal := 750,
      primary := ⟨true, 0x11⟩, alternate := ⟨true, 0x22⟩ } |>.set 5
    { configured := true, group := 2, side := .right, axle := 2, slot := 0, nominal := 800,
      primary := ⟨false, 0⟩, alternate := ⟨false, 0⟩ }

/-- An image with a REF and two MOD units, the groups of section 5.10 and those two positions. -/
def duo : Image :=
  { factoryImage with chain := ⟨3, [.ref, .mod, .mod, .none], 10⟩, groups := [bulk, bulk, defaultGroupRec], tyres := wheels }

/-- A NORMAL node with a record. -/
def nodeOf (m : Measures) : Node := { Node.start with record := some { values := m, time := 900 } }

/-- The running chain of `duo`, session 3 outstanding. -/
def duoChain : Chain :=
  { Chain.start with
    bound := some duo.chain, health := .running, period := some 10, session := 3, outstanding := some 3, goodTotal := 40,
    nodes := [nodeOf (.ref 700 0 250 246), nodeOf (.mod 0 600 0 600 290), nodeOf (.mod 0 600 0 600 410), Node.start] }

/-- The record of position 3 after a telegram. -/
def heard : Position :=
  { startPosition duo 3 with
    state := .ok, lastP := some 750, lastTemp := some 20, lastSeq := some 4, lastField := some .primary,
    lastTime := some 800, history := [(800, 750)] }

/-- Position 3 OK, the others as they start. -/
def duoTyres : Tyre :=
  { Tyre.start with positions := ((List.range 16).map (startPosition duo)).set 3 heard }

/-- A demand of 400 kPa, accepted on port A. -/
def demand400 : Demand :=
  { value := 400, stop := true, park := false, seq := 57, towing := some 600, ingress := .A, time := 950 }

/-- In RUN at own position 2, both partners present, the chain RUNNING, the demand FRESH, the wheels turning at 600. -/
def driving : State :=
  takeThreshold (recompose (reestablish (recompose
    { State.reset with
      time := 1000, active := duo, generation := 1, configInvalid := false, incidents := [],
      store := { image := duo, generation := 1, crcOk := true },
      portA := { PortState.start with present := true, presence := some 700, lastReception := some 950 },
      portB := { PortState.start with present := true, presence := some 700, lastReception := some 950 },
      relay := { Relay.start with own := some 2, discovery := some 400, warn := some 40, status := some 300, tyre := some 20 },
      chain := duoChain, wheel := { Wheel.start with reference := 600 },
      load := { Load.start with groups := [{ GroupState.start with pf := some 290 }, { GroupState.start with pf := some 410 },
        GroupState.start] },
      composer := { Composer.start with demand := some demand400, timer := some 60 },
      stability := { Stability.start with state := .watch },
      tyre := duoTyres, power := { Power.start with settle := none } })))

/-- The same part standing still, in service mode, its shadow a copy of the active image. -/
def serving : State :=
  { driving with
    wheel := { Wheel.start with stationary := true }, mgmt := { Mgmt.start with shadow := some duo, idle := some 5000 } }

/-- The same part parked. -/
def parked : State :=
  leaveRun { driving with power := { driving.power with linkPower := false } }

/-- A queued DEMAND of a sequence. -/
def demandFrame (n : Nat) : Queued :=
  { frame := { cls := 1, target := 7, origin := 0, data := [0, 0, 0, BitVec.ofNat 8 n, 0, 0] }, restart := false }

/-- A queued frame of a class from the towing vehicle. -/
def otherFrame (c : BitVec 5) : Queued := { frame := { cls := c, target := 7, origin := 0, data := [] }, restart := false }

/-- Port B's SAFETY queue at the start of section 1.8. -/
def congested : PortState :=
  { PortState.start with
    present := true, presence := some 500, offer := some .safety,
    safety := [demandFrame 40, demandFrame 41, otherFrame 2, demandFrame 42, demandFrame 43, otherFrame 2, demandFrame 44,
      demandFrame 45] }

/-- Section 1.8: D45 gives way to D46 in place, then D41 to C5 at the tail; D40 leaves. -/
theorem test_congested_queue :
    (congested.enqueue .safety (demandFrame 46)).safety = [demandFrame 40, demandFrame 41, otherFrame 2, demandFrame 42,
      demandFrame 43, otherFrame 2, demandFrame 44, demandFrame 46] ∧
    ((congested.enqueue .safety (demandFrame 46)).enqueue .safety (otherFrame 5)).safety = [demandFrame 40, otherFrame 2,
      demandFrame 42, demandFrame 43, otherFrame 2, demandFrame 44, demandFrame 46, otherFrame 5] ∧
    congested.transmitted.safety = congested.safety.tail ∧ congested.transmitted.offer = some .safety := by decide

/-- Section 5.10: the targets, loads and commands of the worked case; both tyres without fault. -/
theorem test_driving : driving.load.total = 1475 ∧ (driving.group 1).target = 310 ∧ (driving.group 2).target = 385 ∧
    (driving.channel 1).command = { mode := .control, pressure := 310 } ∧ driving.composer.mode = .electronic ∧
    driving.stability.threshold = 392 := by decide +kernel

/-! ### The worked classification of section 2.8 -/

/-- The image of section 2.8: slots 4, 5, 8 with its tail 9, 10 and 12, and the range checkers 1 and 2. -/
def sample : Image :=
  let bytes (l : List Nat) : List Byte := l.map (BitVec.ofNat 8)
  { factoryImage with
    ranges := [⟨2, 0, 1000⟩, ⟨1, 0, 50⟩, ⟨0, 0, 0⟩, ⟨0, 0, 0⟩]
    slots := factoryImage.slots.set 0 (bytes [1, 0, 1, 0, 0, 0, 1, 1, 31, 0, 0, 0, 0, 0, 0, 2, 1, 0, 0, 4])
      |>.set 1 (bytes [1, 0, 1, 0, 0, 1, 1, 3, 31, 0, 0, 0, 0, 0, 0, 0, 0, 1, 0, 5])
      |>.set 4 (bytes [3, 1, 1, 4, 15, 0, 0, 1, 31, 0, 0, 0, 0, 0, 1, 15, 0, 15, 15, 255])
      |>.set 5 (bytes [0, 8, 15, 0, 0, 0, 0, 0, 0, 0, 0, 0, 0, 0, 0, 0, 0, 0, 0, 255])
      |>.set 6 (bytes [1, 1, 1, 4, 15, 0, 0, 1, 31, 0, 0, 1, 1, 0, 0, 3, 0, 15, 15, 255])
      |>.set 8 (bytes [1, 1, 1, 5, 15, 0, 0, 3, 31, 0, 0, 0, 0, 2, 2, 15, 15, 15, 1, 255]) }

/-- The lookup of a frame at own position 2 and a reference speed. -/
def classified (reference : Nat) (p : Port) (f : Frame) : Action × List Nat :=
  let s := { State.reset with
    active := sample, relay := { Relay.start with own := some 2 }, wheel := { Wheel.start with reference := reference } }
  lookup sample p (buildKey s p f)

/-- A DEMAND of 8 data bytes with a first word. -/
def demandOf (origin : BitVec 3) (v : Nat) : Frame :=
  { cls := 1, target := 7, origin := origin, data := beBytes 2 v ++ List.replicate 6 0 }

/-- The WARN of frames 4 and 5. -/
def rearWarn : Frame := { cls := 3, target := 0, origin := 4, data := [0, 0, 1] }

theorem test_sample_demand : classified 612 .A (demandOf 0 420) = (⟨.copy, .demand, .none, .safety, none⟩, [4]) ∧
    classified 612 .A (demandOf 1 420) = (⟨.drop, .none, .none, .safety, none⟩, [4, 10]) ∧
    classified 612 .A (demandOf 0 0xFFFF) = (⟨.copy, .none, .none, .safety, none⟩, [4, 8]) := by decide +kernel

theorem test_sample_warn : classified 612 .B rearWarn = (⟨.pass, .none, .mergeWarn, .safety, none⟩, [5]) ∧
    classified 0 .B rearWarn = (⟨.pass, .none, .mergeWarn, .general, none⟩, [5, 12]) ∧
    mergeWarn 4 rearWarn.data = [0, 4, 2] := by decide +kernel

/-! ### Lists of the valve chain -/

/-- A response list: header, responses from position N down to 1, ring CRC. -/
def listOf (n : Nat) (body : List Byte) : List Byte :=
  let l := BitVec.ofNat 8 (0xA0 + n) :: body
  l ++ beBytes 2 (crc16 l).toNat

/-- A MOD response: flags, and both wheels at one speed and pressure. -/
def modBytes (flags : Byte) (p v bag : Nat) : List Byte :=
  [2, flags] ++ beBytes 2 p ++ beBytes 2 v ++ beBytes 2 p ++ beBytes 2 v ++ beBytes 2 bag

/-- A REF response. -/
def refBytes (flags : Byte) (supply control ay : Nat) : List Byte :=
  [1, flags] ++ beBytes 2 supply ++ beBytes 2 control ++ beBytes 2 ay ++ beBytes 2 246

/-- A list of three good responses: supply 440, wheels at 598. -/
def goodList : List Byte := listOf 3 (modBytes 0 0 598 411 ++ modBytes 0 0 598 291 ++ refBytes 0 440 0 250)

/-- The two bytes of CRC that session 3's list of some responses ends in. -/
def goodCrc (rs : List (List Byte)) : List Byte := (listOf 3 rs.flatten).drop (rs.flatten.length + 1)

/-- A list with a stale REF, a SOLENOID fault at position 2 and a stale position 3. -/
def mixedList : List Byte := listOf 3 (modBytes 1 0 598 411 ++ modBytes 2 0 598 291 ++ refBytes 1 440 0 250)

/-! ### Witnesses: conditions that every step keeps -/

theorem test_witness_step : ({ State.reset with pending := [.wakeLineAsserted, .telegramTaken] } : State).pending =
    .wakeLineAsserted :: [.telegramTaken] := by decide

/-- No timer runs, and no command waits. -/
def quiet : State := { State.reset with power := { Power.start with settle := none, sample := none } }

theorem test_witness_idle : quiet.pending = [] ∧ quiet.relay.discovery = none ∧ quiet.relay.warn = none ∧
    quiet.relay.status = none ∧ quiet.relay.tyre = none ∧ (quiet.port .A).presence = none ∧
    (quiet.port .B).presence = none ∧ quiet.chain.period = none ∧ quiet.wheel.stationaryTimer = none ∧
    quiet.composer.timer = none ∧ quiet.stability.window = none ∧ quiet.stability.spacing = none ∧
    quiet.stability.recover = none ∧ (∀ i ∈ List.range 16, (quiet.position i).missing = none) ∧ quiet.tyre.learn = none ∧
    quiet.tyre.blink = none ∧ quiet.mgmt.idle = none ∧ quiet.mgmt.restartTimer = none ∧ quiet.power.settle = none ∧
    quiet.power.park = none ∧ quiet.power.wake = none ∧ quiet.power.listen = none ∧ quiet.power.sample = none ∧
    (∀ c ∈ channelNumbers, (quiet.channel c).testTimer = none) := by decide +kernel

/-- `driving` with a full SAFETY queue at port B, a frame at port A, an OPEN and a CLOSED incident, and a command waiting. -/
def loaded : State :=
  { driving with
    portA := { driving.portA with general := [otherFrame 2], offer := some .general }, portB := congested,
    incidents := [⟨.nodeDegraded, 2, 3, 10, some 20⟩, ⟨.nodeDegraded, 2, 0, 30, none⟩],
    pending := [.demandTimerExpiry] }

theorem test_witness_queues : PortsWf loaded ∧ ∃ t, step loaded = .next t :=
  ⟨⟨by constructor <;> decide +kernel, by constructor <;> decide +kernel⟩, _, rfl⟩

theorem test_witness_incidents : IncidentsWf loaded ∧ ∃ t, step loaded = .next t :=
  ⟨⟨by decide +kernel, by decide +kernel, by unfold Incident.clash; decide +kernel⟩, _, rfl⟩

theorem test_witness_commands : ChannelsFollow loaded ∧ ∃ t, step loaded = .next t := by
  refine ⟨⟨by decide +kernel, fun _ c hc he => ?_, by decide +kernel⟩, _, rfl⟩
  simp only [channelNumbers, List.mem_cons, List.not_mem_nil, or_false] at hc
  rcases hc with rfl | rfl | rfl | rfl | rfl | rfl <;>
    first
    | (constructor <;> decide +kernel)
    | exact absurd he (by decide +kernel)

theorem test_witness_load : LoadFollows loaded ∧ ∃ t, step loaded = .next t := by
  refine ⟨⟨by decide +kernel, by decide +kernel, fun _ g hg he => ?_, by decide +kernel, by decide +kernel,
    fun _ c hc he => ?_⟩, _, rfl⟩
  · simp only [List.mem_cons, List.not_mem_nil, or_false] at hg
    rcases hg with rfl | rfl | rfl
    · constructor <;> decide +kernel
    · constructor <;> decide +kernel
    · exact absurd he (by decide +kernel)
  · simp only [channelNumbers, List.mem_cons, List.not_mem_nil, or_false] at hc
    rcases hc with rfl | rfl | rfl | rfl | rfl | rfl <;>
      first
      | (constructor <;> decide +kernel)
      | exact absurd he (by decide +kernel)

theorem test_witness_mode : ModeFollows loaded ∧ ∃ t, step loaded = .next t :=
  ⟨⟨by unfold braking; decide +kernel, by unfold braking refServes; decide +kernel, by decide +kernel⟩, _, rfl⟩

/-- `driving` in TEST on channels 1 and 3, with a command waiting. -/
def testing : State := { acknowledgeTest .left driving with pending := [.testWindowExpiry] }

theorem test_witness_stability : StabilityWf testing ∧ testing.stability.state = .test ∧
    testing.stability.testChannels = [1, 3] ∧ ∃ t, step testing = .next t :=
  ⟨by constructor <;> decide +kernel, by decide +kernel, by decide +kernel, _, rfl⟩

theorem test_duo_ids (x : BitVec 32) : duo.idCount x ≤ 1 := by
  by_cases h1 : 17#32 = x
  · subst h1; decide +kernel
  · by_cases h2 : 34#32 = x
    · subst h2; decide +kernel
    · simp [duo, wheels, Image.idCount, IdField.holds, emptyTyre, bit, h1, h2, List.replicate]

theorem test_witness_ids : UniqueIds loaded ∧ ∃ t, step loaded = .next t :=
  ⟨⟨⟨by decide +kernel, test_duo_ids⟩, fun _ h => (by cases h), fun _ h => (by cases h), by decide +kernel⟩, _, rfl⟩

/-- `parked` after a swap whose report came out of RUN: the image before it had other IDs at position 3. -/
def holdingSwap : State :=
  { parked with unapplied := some { duo with tyres := duo.tyres.set 3 { duo.tyre 3 with primary := ⟨true, 0x44⟩ } } }

theorem test_witness_power_with_swap : PowerWf holdingSwap ∧ holdingSwap.unapplied ≠ none ∧
    ∃ t, exec .linkPowerOn holdingSwap = .next t ∧ t.power.state ≠ holdingSwap.power.state :=
  ⟨⟨by constructor <;> decide +kernel, fun _ => by
      constructor <;> first | decide +kernel | (constructor <;> decide +kernel), by decide +kernel, by decide +kernel⟩,
    by decide +kernel, _, rfl, by decide +kernel⟩

theorem test_witness_power : PowerWf parked ∧ parked.power.state = .parkWatch ∧ ∃ t, step parked = .next t :=
  ⟨⟨by constructor <;> decide +kernel, fun _ => by
      constructor <;> first | decide +kernel | (constructor <;> decide +kernel), by decide +kernel, by decide +kernel⟩,
    by decide +kernel, _, rfl⟩

/-! ### Witnesses: links, relay and classifier -/

theorem test_witness_tables : mayLoad (.frameReceived .A (frameOf 8) .passFirst) = false ∧
    mayLoad (.storeWriteFailed) = true ∧ mayLoad .linkPowerOn = false := by decide

theorem test_witness_reception : parked.power.state ≠ .run ∧ driving.power.state = .run ∧ (frameOf 8).data.length ≤ 8 ∧
    (frameOf 8).cls ≠ 0x10 ∧ State.reset.power.state = .run ∧ State.reset.portA.present = false := by decide +kernel

/-- A WARN of so many data bytes, which the factory table relays to port A. -/
def warnOf (n : Nat) : Frame := { cls := 3, target := 0, origin := 4, data := List.replicate n 1 }

theorem test_witness_relayed : ∀ n ∈ [2, 3, 8],
    driving.power.state = .run ∧ (warnOf n).data.length ≤ 8 ∧
      (lookup driving.active .B (buildKey driving .B (warnOf n))).1.delivers .B (warnOf n).cls = false ∧
      (lookup driving.active .B (buildKey driving .B (warnOf n))).1.rewrite = .mergeWarn := by decide +kernel

/-- A DISCOVER with its data. -/
def discoverOf (d : List Byte) : Frame := { cls := 6, target := 7, origin := 1, data := d }

theorem test_witness_discover : driving.power.state = .run ∧ driving.relay.own = some 2 ∧ (discoverOf []).cls = 0x06 ∧
    (∀ n ∈ [0, 5, 6, 7, 255], (discoverOf [n]).data.length ≤ 8 ∧ (discoverOf [n]).data ≠ []) ∧
    driving.relay.own ≠ some ((byteAt (discoverOf [5]).data 0).toNat + 1) ∧
    driving.relay.own = some ((byteAt (discoverOf [1]).data 0).toNat + 1) ∧
    (byteAt (discoverOf [6]).data 0).toNat = 6 ∧ 7 ≤ (byteAt (discoverOf [7]).data 0).toNat := by decide +kernel

/-- A DEMAND frame with a value, a sequence and so many data bytes. -/
def demandOn (v n : Nat) : Frame := { cls := 1, target := 7, origin := 0, data := (beBytes 2 v ++ [1, 58, 2, 88, 0, 0]).take n }

theorem test_witness_demand : ∀ f ∈ [demandOn 400 5, demandOn 0xFFFF 6, demandOn 0xFFFE 6, demandOn 0 8],
    let a := (lookup driving.active .A (buildKey driving .A f)).1
    driving.power.state = .run ∧ f.data.length ≤ 8 ∧ f.cls = 0x01 ∧ a.disposition = .copy ∧ a.consumer = .demand := by
  decide +kernel

/-- `driving` under a table whose slot 4 consumes the demand. -/
def consuming : State :=
  { driving with active := { duo with slots := duo.slots.set 0 ((duo.slots.getD 0 []).set 15 1) } }

theorem test_witness_demand_consumed : (lookup consuming.active .A (buildKey consuming .A (demandOn 400 6))).1.disposition =
      .consume ∧ (lookup consuming.active .A (buildKey consuming .A (demandOn 400 6))).1.consumer = .demand ∧
    consuming.power.state = .run := by decide +kernel

/-- `driving` under a table whose slot 4 accepts either port: a DEMAND on port B too short to be recorded. -/
def eitherPort : State := { driving with active := { duo with slots := duo.slots.set 0 ((duo.slots.getD 0 []).set 6 0) } }

theorem test_witness_demand_relayed :
    (lookup eitherPort.active .B (buildKey eitherPort .B (demandOn 400 5))).1.disposition = .copy ∧
    (lookup eitherPort.active .B (buildKey eitherPort .B (demandOn 400 5))).1.consumer = .demand ∧
    ∃ t, exec (.frameReceived .B (demandOn 400 5) .passFirst) eitherPort = .next t ∧
      t.stability.state = eitherPort.stability.state :=
  ⟨by decide +kernel, by decide +kernel, _, rfl, by decide +kernel⟩

theorem test_witness_demand_clauses : (demandOn 400 5).data.length < 6 ∧ beAt (demandOn 0xFFFF 6).data 0 2 = 0xFFFF ∧
    6 ≤ (demandOn 0xFFFE 6).data.length ∧ beAt (demandOn 0xFFFE 6).data 0 2 ≠ 0xFFFF := by decide

/-- A MGMT_REQ to own position 2: IDENTIFY with six argument bytes. -/
def identifyFrame : Frame := { cls := 0x10, target := 2, origin := 7, data := [1, 9, 0, 0, 0, 0, 0, 0] }

theorem test_witness_management : driving.power.state = .run ∧ identifyFrame.cls = 0x10 ∧
    identifyFrame.data = 1 :: 9 :: List.replicate 6 0 ∧ (List.replicate 6 (0 : Byte)).length ≤ 6 ∧
    driving.relay.own = some identifyFrame.target.toNat ∧ identifyFrame.target ≠ 7 := by decide +kernel

theorem test_witness_key : (demandOf 0 0).target = 7 ∧ rearWarn.target ≠ 7 ∧ State.reset.relay.own = none ∧
    driving.relay.own = some 2 ∧ (0x7F#8).getLsbD 0 = true ∧ (0x7F#8).getLsbD 6 = true ∧ (0x40#8).getLsbD 0 = false ∧
    (0x40#8).getLsbD 6 = true := by decide +kernel

/-- `driving` with a checker of each source. -/
def checking : State := { driving with active := { duo with ranges := [⟨0, 0, 0⟩, ⟨1, 0, 600⟩, ⟨2, 420, 420⟩, ⟨3, 1, 0⟩] } }

/-- Its key of a DEMAND of 420: the reference of 600 and the first word stand at their limits, and no word lies in 1..0. -/
theorem test_witness_range_mask : (∀ j ∈ [0, 1, 2, 3], (checking.active.ranges.getD j ⟨0, 0, 0⟩).source = j) ∧
    (buildKey checking .A (demandOf 0 420)).range = 6#8 ∧ (buildKey checking .A (frameOf 1)).range = 2#8 := by decide +kernel

theorem test_witness_entry : (byteAt (sample.slot 8) 0).getLsbD 1 = true ∧
    (buildKey driving .A (demandOn 0 1)).word0 = none ∧ (buildKey driving .A (demandOn 7 2)).word0 = some 7 ∧
    entryMatches sample ((buildKey driving .A (demandOf 0 0xFFFF)).second 4) 8 = true := by decide +kernel

theorem test_witness_lookup : winner factoryImage (buildKey driving .A (frameOf 8)) = some 4 ∧
    winner factoryImage (buildKey driving .A { frameOf 0 with cls := 5 }) = none ∧ (factoryImage.port .A).missDisp = 0 ∧
    (factoryImage.port .A).missQueue = 1 := by decide +kernel

/-- The key of a frame at own position 2 and a reference speed of 612. -/
def keyOf (f : Frame) : Key :=
  buildKey { State.reset with
    active := sample, relay := { Relay.start with own := some 2 }, wheel := { Wheel.start with reference := 612 } } .A f

theorem test_witness_second_pass : (∀ f ∈ [demandOf 0 420, demandOf 1 420], winner sample (keyOf f) = some 4) ∧
    (slotAction (sample.slot 4)).next = some 4 ∧
    winner sample { keyOf (demandOf 0 420) with pass := 1, group := BitVec.ofNat 8 4 } = none ∧
    winner sample { keyOf (demandOf 1 420) with pass := 1, group := BitVec.ofNat 8 4 } = some 10 ∧
    (slotAction (factoryImage.slot 4)).next = none := by decide +kernel

theorem test_witness_presence : ∀ p ∈ [Port.A, Port.B],
    (driving.port p).presence = some 700 ∧ (driving.port p).holdsRestart = false := by decide +kernel

theorem test_witness_reports : (driving.port .A).offer = none ∧ (loaded.port .A).general = otherFrame 2 :: [] ∧
    (loaded.port .A).offer = some .general ∧ (otherFrame 2).restart = false ∧
    (loaded.port .B).safety = demandFrame 40 :: congested.safety.tail ∧ (loaded.port .B).offer = some .safety ∧
    (demandFrame 40).restart = false := by decide +kernel

/-- A port with so many frames queued, the head of SAFETY on offer unless GENERAL's is. -/
def holding (safety general : Nat) (q : Option QueueClass) : PortState :=
  { PortState.start with
    present := true, safety := List.replicate safety (otherFrame 2), general := List.replicate general (otherFrame 2),
    offer := q }

theorem test_witness_enqueue : PortState.start.present = false ∧
    ((holding 7 0 none).present = true ∧ (holding 7 0 none).safety.length < 8) ∧
    ((holding 0 23 none).present = true ∧ (holding 0 23 none).general.length < 24) ∧
    ((holding 0 24 none).present = true ∧ ¬ (holding 0 24 none).general.length < 24) ∧
    (∀ q ∈ [QueueClass.safety, .general], (holding 8 1 (some q)).present = true ∧
      (holding 8 1 (some q)).safety.length = 8 ∧ (holding 8 1 (some q)).offer ≠ none) ∧
    (otherFrame 2).sameSender (otherFrame 2) = true ∧ (∀ y ∈ (holding 8 1 none).safety, (otherFrame 5).sameSender y = false) ∧
    (holding 8 1 none).safety.drop 1 = List.replicate 6 (otherFrame 2) ++ otherFrame 2 :: [] := by decide

/-- `driving` with a WARN heard at an operating time. -/
def heardAt (t : Time) : State := { driving with relay := { driving.relay with warnHeard := some t } }

theorem test_witness_relay_timers : driving.relay.discovery = some 400 ∧ driving.relay.warn = some 40 ∧
    driving.relay.status = some 300 ∧ driving.relay.tyre = some 20 ∧
    (elapse 40 State.reset).portB.present = false ∧ (elapse 40 driving).relay.warnHeard = none ∧
    (elapse 40 (heardAt 740)).relay.warnHeard = some 740#32 ∧ ((elapse 40 (heardAt 740)).time - 740#32).toNat = 300 ∧
    (elapse 40 (heardAt 741)).portB.present = true ∧ (elapse 40 (heardAt 741)).relay.warnHeard = some 741#32 ∧
    ((elapse 40 (heardAt 741)).time - 741#32).toNat < 300 := by decide +kernel

theorem test_witness_tyre_report : (∀ i ∈ List.range 16, (State.reset.active.tyre i).assigned = false) ∧
    ((elapse 20 driving).active.tyre (((elapse 20 driving).relay.reportIndex + 3) % 16)).assigned = true ∧
    (∀ j ∈ List.range 3,
      ((elapse 20 driving).active.tyre (((elapse 20 driving).relay.reportIndex + j) % 16)).assigned = false) := by
  decide +kernel

/-! ### Witnesses: valve chain, wheels, load and brakes -/

/-- `driving` between two sessions. -/
def idle : State := { driving with chain := { duoChain with outstanding := none } }

/-- A part whose active image has another chain than the one bound. -/
def rewired : State := { idle with active := { duo with chain := ⟨2, [.ref, .mod, .none, .none], 20⟩ } }

/-- A part just in RUN with its settle timer running. -/
def settling (img : Image) : State := { State.reset with active := img }

theorem test_witness_sessions : (∀ s ∈ [idle, rewired], s.chain.period = some 10 ∧ (elapse 10 s).chain.outstanding = none ∧
      (elapse 10 s).active.chain.count ≠ 0) ∧
    chainDiffers (elapse 10 idle) = false ∧ chainDiffers (elapse 10 rewired) = true ∧
    (elapse 10 { idle with active := factoryImage }).active.chain.count = 0 ∧ idle.channels.length = 6 := by decide +kernel

/-- The list of the session that starts: its REF at position 1, its MOD units at positions 2 and 3 in CONTROL while the chain
is RUNNING and in PASS_THROUGH while it is STARTING. -/
theorem test_witness_command_list : duo.chain.kind 1 = .ref ∧ duo.chain.kind 2 = .mod ∧ duo.chain.kind 3 = .mod ∧
    (∃ t, exec (.periodTimerExpiry []) idle = .next t ∧ modPosition t 1 = 2 ∧ modPosition t 2 = 3 ∧
      channelExists t 1 = true ∧ (t.channel 1).command = { mode := .control, pressure := 310 }) ∧
    ∃ t, exec .settleTimerExpiry (settling duo) = .next t ∧ modPosition t 1 = 2 ∧
      (t.channel 1).command.mode = .passThrough :=
  ⟨by decide +kernel, by decide +kernel, by decide +kernel,
    ⟨_, rfl, by decide +kernel, by decide +kernel, by decide +kernel, by decide +kernel⟩,
    _, rfl, by decide +kernel, by decide +kernel⟩

theorem test_witness_settle : (∀ img ∈ [factoryImage, duo], (settling img).power.settle = some 50 ∧
      (elapse 50 (settling img)).power.state = .run) ∧
    (elapse 50 (settling factoryImage)).active.chain.count = 0 ∧ (elapse 50 (settling duo)).active.chain.count ≠ 0 ∧
    chainDiffers (elapse 50 (settling duo)) = false ∧
    { rewired with power := Power.start }.power.settle = some 50 ∧
    chainDiffers (elapse 50 { rewired with power := Power.start }) = true ∧
    (elapse 5 { parked with power := { parked.power with settle := some 5 } }).power.state ≠ .run := by decide +kernel

/-- `driving` at its second failure in a row. -/
def failing : State := { driving with chain := { duoChain with failCount := 2 } }

theorem test_witness_no_response : failing.chain.period = some 10 ∧ failing.chain.outstanding ≠ none ∧
    chainDiffers (elapse 10 failing) = false ∧ 3 ≤ satSucc 255 (elapse 10 failing).chain.failCount := by decide +kernel

theorem test_witness_failed_list : idle.chain.outstanding = none ∧ (byteAt [0x93] 0).toNat / 16 ≠ 0xA ∧
    failing.chain.outstanding ≠ some ((byteAt [0xA4] 0).toNat % 16) ∧ (byteAt [0xA3] 0).toNat / 16 = 0xA ∧
    failing.chain.outstanding = some ((byteAt [0xA3] 0).toNat % 16) ∧ (checkList (inUse failing) [0xA3]).1 = .count ∧
    (checkList (inUse failing) (goodList.set 1 1)).1 ≠ .none ∧ (checkList (inUse failing) (goodList.set 4 1)).1 = .crc := by
  decide +kernel

/-- Three responses of the right kinds, two of them, and three with the REF first. -/
theorem test_witness_list_checks : let m := modBytes 0 0 598 411
    let r := refBytes 0 440 0 250
    (∀ rs ∈ [[m, m, r], [m, r], [r, m, m]], ∀ x ∈ rs, (byteAt x 0 = 1 ∧ x.length = 10) ∨ (byteAt x 0 = 2 ∧ x.length = 12)) ∧
    [m, m, r].length = duo.chain.count ∧ [m, r].length ≠ duo.chain.count ∧
    (∀ n ∈ [1, 2, 3], (byteAt ([m, m, r].getD (duo.chain.count - n) []) 0).toNat = (duo.chain.kind n).code) ∧
    (byteAt ([r, m, m].getD (duo.chain.count - 3) []) 0).toNat ≠ (duo.chain.kind 3).code ∧
    (crc16 (0xA3 :: [m, m, r].flatten)).toNat = beAt (goodCrc [m, m, r]) 0 2 ∧
    (crc16 (0xA3 :: [m, m, r].flatten)).toNat ≠ beAt (goodCrc [m, r, m]) 0 2 ∧
    (checkList duo.chain goodList).1 ≠ .count := by decide +kernel

theorem test_witness_good_list : ∀ l ∈ [goodList, mixedList], l ≠ [] ∧ (byteAt l 0).toNat / 16 = 0xA ∧
    driving.chain.outstanding = some ((byteAt l 0).toNat % 16) ∧ (checkList (inUse driving) l).1 = .none ∧
    driving.chain.nodes.length = 4 := by decide +kernel

theorem test_witness_good_nodes :
    let y := fun l n => responseFor (inUse driving) (checkList (inUse driving) l).2 n
    ¬ 4 ≤ (inUse driving).count ∧ 3 ≤ (inUse driving).count ∧ (∀ n ∈ [1, 2, 3], (y goodList n).stale = false ∧
      (y goodList n).solenoid = false ∧ (y goodList n).sensor = false) ∧ (y mixedList 1).stale = true ∧
    (y mixedList 2).solenoid = true ∧ (y mixedList 3).stale = true := by decide +kernel

theorem test_witness_reference : answers driving goodList = true ∧
    channelNumbers.filterMap (eligibleSpeed driving (followers driving)) = [600, 600, 600, 600] ∧
    channelNumbers.filterMap (eligibleSpeed State.reset (followers State.reset)) = [] := by decide +kernel

/-- A list in which every wheel falls to 570 in one session. -/
def slipping : List Byte := listOf 3 (modBytes 0 0 570 411 ++ modBytes 0 0 570 291 ++ refBytes 0 700 0 250)

/-- `driving` with a previous speed of 600 and a slip-control state at channel 1. -/
def cycling (st : SlipState) : State :=
  driving.updChannel 1 fun ch => { ch with prevSpeed := some 600, slipState := st, holdP := some 80, level := some 80 }

theorem test_witness_slip : driving.channels.length = 6 ∧ channelExists driving 1 = true ∧
    (∀ st ∈ [SlipState.follow, .release, .reapply], answers (cycling st) slipping = true ∧
      ((cycling st).channel 1).slipState = st) ∧
    ∃ t, exec (.responseListReturn slipping []) (cycling .follow) = .next t ∧ (t.channel 1).slipState = .release :=
  ⟨by decide +kernel, by decide +kernel, by decide +kernel, _, rfl, by decide +kernel⟩

/-- `cycling` with its values following their inputs, and a wheel at position 2 that turns at a speed. -/
def turning (st : SlipState) (v : Nat) : State :=
  recompose { cycling st with chain := { duoChain with nodes := duoChain.nodes.set 1 (nodeOf (.mod 70 v 0 600 290)) } }

/-- Channel 1 at the wheel unit's work, at a slip of 0 and at one of 341. -/
theorem test_witness_transitions : (∀ st ∈ [SlipState.follow, .release, .hold, .reapply], ∀ v ∈ [600, 400],
      recompose (turning st v) = turning st v ∧ (turning st v).channels.length = 6 ∧
      (turning st v).wheel.stationary = false ∧ channelExists (turning st v) 1 = true ∧
      ((turning st v).channel 1).slipState = st ∧ modPosition (turning st v) (groupOf 1) ∈ [2] ∧
      (channelNode (turning st v) 1).record = some { values := .mod 70 v 0 600 290, time := 900 }) ∧
    (∀ x ∈ [(SlipState.follow, 600, SlipState.follow), (.follow, 400, .release), (.release, 600, .hold),
        (.release, 400, .release), (.hold, 600, .reapply), (.hold, 400, .release), (.reapply, 600, .reapply),
        (.reapply, 400, .release)],
      ((blockWork [2] channelNumbers .wheel (turning x.1 x.2.1)).channel 1).slipState = x.2.2) := by decide +kernel

/-- The other cases: a held reading between the two slips of HOLD, a test hold, a level that reaches the target, a return, a
reading that is not fresh and a wheel that has no previous speed. -/
theorem test_witness_other_transitions :
    (let s := (turning .hold 560).updChannel 1 fun ch => { ch with prevSpeed := some 560 }
     let t := blockWork [2] channelNumbers .wheel s
     recompose s = s ∧ (t.channel 1).slipState = .hold ∧ s.active.tuning.sReapply ≤ (t.channel 1).slip) ∧
    (let s := (turning .follow 400).updChannel 1 fun ch => { ch with testHold := true }
     recompose s = s ∧ ((blockWork [2] channelNumbers .wheel s).channel 1).slipState = .follow) ∧
    (let s := (turning .reapply 600).updChannel 1 fun ch => { ch with level := some 309 }
     recompose (recompose s) = recompose s ∧
        ((blockWork [2] channelNumbers .wheel (recompose s)).channel 1).slipState = .follow) ∧
    (let s := { turning .release 600 with wheel := { Wheel.start with reference := 60 } }
     recompose s = s ∧ (blockWork [2] [] .wheel s).wheel.reference < s.active.tuning.absMin) ∧
    ((blockWork [] [] .wheel (turning .release 600)).channel 1).prevSpeed = none ∧
    ((turning .release 600).channel 3).prevSpeed = none := by decide +kernel

theorem test_witness_motion : answers serving goodList = true ∧ serving.wheel.stationary = true ∧
    ∃ t, exec (.responseListReturn goodList []) serving = .next t ∧ 0 < t.wheel.reference ∧ t.wheel.stationary = false :=
  ⟨by decide +kernel, by decide +kernel, _, rfl, by decide +kernel, by decide +kernel⟩

/-- Several plain timers running. -/
def ticking : State :=
  { driving with
    wheel := { Wheel.start with stationaryTimer := some 5 }, stability := { driving.stability with spacing := some 5 },
    tyre := { duoTyres with blink := some 5 } }.updChannel 1 fun ch => { ch with serviceTest := some 300, testTimer := some 5 }

theorem test_witness_plain_timers : ticking.wheel.stationaryTimer = some 5 ∧ ticking.stability.spacing = some 5 ∧
    ticking.tyre.blink = some 5 ∧ (ticking.channel 1).testTimer = some 5 ∧ ticking.channels.length = 6 ∧
    channelExists (elapse 5 ticking) 1 = true ∧ channelExists (elapse 5 ticking) 4 = true := by decide +kernel

theorem test_witness_bag : (∀ l ∈ [goodList, mixedList], answers driving l = true ∧
      (checkList (inUse driving) l).1 = .none) ∧ driving.chain.nodes.length = 4 ∧ (inUse driving).count ≤ 4 ∧
    driving.load.groups.length = 3 ∧ groupExists driving 1 = true ∧ modPosition driving 1 = 2 ∧
    (driving.group 1).pf = some 290 ∧ (leaveLoad driving).load.groups.length = 3 ∧
    ((leaveLoad driving).group 1).pf = none ∧
    (responseFor (inUse driving) (checkList (inUse driving) mixedList).2 2).updates = false ∧
    (responseFor (inUse driving) (checkList (inUse driving) goodList).2 2).updates = true ∧
    (responseFor (inUse driving) (checkList (inUse driving) goodList).2 2).values = .mod 0 598 0 598 291 := by
  decide +kernel

/-- The load unit's work at the demand of 400, at one below group 1's D0 of 20, in FALLBACK, and at a first reading. -/
theorem test_witness_filter : let at_ := fun d => { driving with composer := { driving.composer with effective := d } }
    driving.load.groups.length = 3 ∧ groupExists driving 1 = true ∧ modPosition driving 1 = 2 ∧
    (driving.node 2).record = some { values := .mod 0 600 0 600 290, time := 900 } ∧ (driving.group 1).pf = some 290 ∧
    (at_ 19).composer.mode ≠ .fallback ∧ (at_ 19).composer.effective < (driving.active.group 1).d0 ∧
    (driving.active.group 1).d0 ≤ (at_ 20).composer.effective ∧
    ({ driving with composer := Composer.start } : State).composer.mode = .fallback ∧
    ((leaveLoad driving).group 1).pf = none ∧ (2 ∉ ([3] : List Nat)) := by decide +kernel

theorem test_witness_demand_timer : driving.composer.timer = some 60 ∧ braking (elapse 60 driving) ∧
    refServes (elapse 60 driving) ∧ (elapse 60 driving).composer.mode ≠ .backup ∧
    ¬ braking (elapse 60 { driving with configInvalid := true }) ∧
    ∃ t, exec .demandTimerExpiry driving = .next t ∧ t.composer.mode = .backup :=
  ⟨by decide +kernel, by unfold braking; decide +kernel, by unfold refServes; decide +kernel, by decide +kernel,
    by unfold braking; decide +kernel, _, rfl, by decide +kernel⟩

theorem test_witness_emergency : (∀ l ∈ [goodList, mixedList], answers driving l = true ∧
      (checkList (inUse driving) l).1 = .none) ∧ driving.power.state = .run ∧ driving.chain.nodes.length = 4 ∧
    (inUse driving).count ≤ 4 ∧ (inUse driving).ref = some 1 ∧
    (responseFor (inUse driving) (checkList (inUse driving) goodList).2 1).updates = true ∧
    (responseFor (inUse driving) (checkList (inUse driving) goodList).2 1).values = .ref 440 0 250 246 ∧
    (responseFor (inUse driving) (checkList (inUse driving) mixedList).2 1).updates = false := by decide +kernel

/-- A REF at its fourth stale response in a row. -/
def staleRef : State :=
  { driving with chain := { duoChain with nodes := duoChain.nodes.modify 0 fun n => { n with stale := 4 } } }

theorem test_witness_emergency_degraded : answers staleRef mixedList = true ∧
    ∃ t, exec (.responseListReturn mixedList []) staleRef = .next t ∧ (t.node 1).degraded = true :=
  ⟨by decide +kernel, _, rfl, by decide +kernel⟩

/-! ### Witnesses: rollover prevention -/

theorem test_witness_threshold : stabOk defaultStab = true ∧ 500 ≤ (defaultStab.point 0).1 ∧
    (defaultStab.point 5).1 ≤ 5000 ∧ (defaultStab.point 1).1 ≤ 1000 ∧ 1000 < (defaultStab.point 2).1 ∧
    (defaultStab.point 1).1 ≤ 1999 ∧ 1999 < (defaultStab.point 2).1 := by decide +kernel

theorem test_witness_threshold_in_use : (∃ k, (inUse driving).ref = some k ∧ k ∈ [1, 2, 3]) ∧
    ¬ (∃ k, (inUse driving).ref = some k ∧ k ∈ [2, 3]) :=
  ⟨⟨1, by decide +kernel, by decide⟩, fun ⟨_, h, m⟩ => by
    rw [show (inUse driving).ref = some 1 from by decide +kernel] at h; cases h; exact absurd m (by decide)⟩

/-- `driving` in RECOVER, or in WATCH with a window timer that no run leaves there. -/
def recovering (st : StabState) : State :=
  { driving with stability := { driving.stability with state := st, window := some 9, recover := some 9 } }

theorem test_witness_stability_timers : testing.stability.window = some 400 ∧ testing.stability.state = .test ∧
    1 ∈ testing.stability.testChannels ∧ (recovering .watch).stability.window = some 9 ∧
    (recovering .watch).stability.state ≠ .test ∧ (recovering .recover).stability.recover = some 9 := by decide +kernel

/-- `driving` at a lateral acceleration and stability state. -/
def leaning (a : Int) (st : StabState) : State :=
  { driving with
    chain := { duoChain with nodes := duoChain.nodes.set 0 (nodeOf (.ref 700 0 a 246)) }
    stability := { driving.stability with state := st } }

theorem test_witness_intervention : ∀ st ∈ [StabState.armed, .watch, .recover], ∀ a ∈ [(392 : Int), -392],
    (leaning a st).channels.length = 6 ∧ offCondition (leaning a st) = false ∧ (leaning a st).stability.state ≠ .off ∧
      (leaning a st).stability.state ≠ .intervene ∧ (leaning a st).stability.threshold ≤ (lateral (leaning a st)).natAbs ∧
      ((leaning a st).channel 1).intervention ≤ pMaxOf (leaning a st) 1 := by decide +kernel

theorem test_witness_intervention_in_test : testing.channels.length = 6 ∧ offCondition testing = false ∧
    ({ testing with stability := { testing.stability with threshold := 250 } } : State).stability.threshold ≤
      (lateral testing).natAbs ∧ testing.stability.state = .test := by decide +kernel

/-- The candidate channels of the left side, as the statement computes them. -/
def leftOf (s : State) : List Nat :=
  channelNumbers.filter fun c => sideOf c = Side.left && channelExists s c && !(channelNode s c).degraded

theorem test_witness_test : ∀ a ∈ [(313 : Int), 391], let s := leaning a .watch
    s.channels.length = 6 ∧ offCondition s = false ∧ s.stability.state = .watch ∧ 0 < lateral s ∧
      s.stability.watchLevel ≤ (lateral s).natAbs ∧ (lateral s).natAbs < s.stability.threshold ∧
      s.stability.spacing = none ∧ s.stability.pendingTest = .none ∧ leftOf s = [1, 3] ∧
      (∀ c ∈ leftOf s, (s.channel c).slipState = .follow) := by decide +kernel

theorem test_witness_held_test : let s := { cycling .release with chain := (leaning 350 .watch).chain }
    offCondition s = false ∧ s.stability.watchLevel ≤ (lateral s).natAbs ∧ (lateral s).natAbs < s.stability.threshold ∧
      s.stability.state = .watch ∧ s.stability.spacing = none ∧ s.stability.pendingTest = .none ∧ leftOf s = [1, 3] ∧
      (s.channel 1).slipState ≠ .follow := by decide +kernel

/-- The stability unit's work at a completion, with the REF's record fresh or not. -/
def judgedBy (fresh : List Nat) (s : State) : State := blockWork fresh [] .stability s

/-- `testing` at a lateral acceleration, and with a slip at channel 1. -/
def lifting (a : Int) (slip : Nat) : State :=
  { testing with chain := { duoChain with nodes := duoChain.nodes.set 0 (nodeOf (.ref 700 0 a 246)) } }.updChannel 1
    fun ch => { ch with slip := slip }

theorem test_witness_off : let disabled := fun st => { leaning 250 st with active := { duo with stab.enable := false } }
    (disabled .off).active.stab.enable = false ∧ (disabled .off).stability.state = .off ∧
    (disabled .intervene).stability.state ≠ .off ∧ (disabled .intervene).channels.length = 6 ∧
    (disabled .intervene).stability.testChannels = [] ∧
    ({ driving with wheel := Wheel.start } : State).wheel.reference < driving.active.stab.vMin ∧
    ({ driving with composer := Composer.start } : State).composer.mode = .fallback := by decide +kernel

/-- At a fresh REF reading: arming, the watch level of 313 reached and missed, release at the release level of 235, RECOVER,
and a test that the trailer has left for the other side. -/
theorem test_witness_evaluations : (∀ x ∈ [(StabState.off, (250 : Int)), (.armed, 313), (.armed, 312), (.watch, 312),
      (.intervene, 235), (.intervene, 234), (.recover, 391), (.armed, 392)],
      offCondition (leaning x.2 x.1) = false ∧ (leaning x.2 x.1).channels.length = 6 ∧
      (leaning x.2 x.1).stability.testChannels = [] ∧ (leaning x.2 x.1).stability.state = x.1 ∧
      (inUse (leaning x.2 x.1)).ref = some 1 ∧ lateral (leaning x.2 x.1) = x.2 ∧
      (takeThreshold (leaning x.2 x.1)).stability.threshold = 392 ∧
      (takeThreshold (leaning x.2 x.1)).stability.watchLevel = 313 ∧
      (takeThreshold (leaning x.2 x.1)).stability.releaseLevel = 235) ∧
    (evaluate (takeThreshold (leaning 392 .armed))).stability.state ≠ .armed ∧
    (judgedBy [1] (leaning 312 .watch)).stability.state = .armed ∧
    (judgedBy [1] (lifting (-250) 0)).stability.state = .watch ∧ (lifting (-250) 0).stability.inner = .left := by
  decide +kernel

/-- Work on a test: no lift, a lift at s_lift, a DEGRADED test channel, and the last one. -/
theorem test_witness_test_work : let s := lifting 250 (defaultStab.sLift - 1)
    let degraded := fun l => { s with chain := { s.chain with
      nodes := l.foldl (fun ns n => ns.modify (n - 1) fun m => { m with degraded := true }) s.chain.nodes } }
    s.channels.length = 6 ∧ s.stability.testChannels = [1, 3] ∧ offCondition s = false ∧ s.stability.state = .test ∧
    (∀ c ∈ s.stability.testChannels, c ∈ channelNumbers ∧ channelExists s c = true) ∧
    (s.channel 1).slip < s.active.stab.sLift ∧ (s.channel 3).slip < s.active.stab.sLift ∧
    (judgedBy [1] (lifting 250 defaultStab.sLift)).stability.state = .intervene ∧
    (judgedBy [] (degraded [3])).stability.testChannels = [1] ∧
    (judgedBy [] (degraded [2, 3])).stability.state = .watch := by decide +kernel

/-- A pending test of the left side: withdrawn on the other side, started, held by a channel that slips, and withdrawn with
no candidate. -/
theorem test_witness_pending_test : let pending := fun a s => { leaning a .watch with
      channels := s.channels, stability := { driving.stability with pendingTest := .left } }
    (∀ a ∈ [(313 : Int), -313], offCondition (pending a driving) = false ∧ (pending a driving).channels.length = 6 ∧
      (pending a driving).stability.state = .watch ∧ (pending a driving).stability.testChannels = []) ∧
    (judgedBy [1] (pending (-313) driving)).stability.pendingTest = .none ∧
    (judgedBy [1] (pending 313 driving)).stability.state = .test ∧ (judgedBy [] (pending 0 driving)).stability.state = .test ∧
    ((pending 313 (cycling .hold)).channel 1).slipState ≠ .follow ∧
    (judgedBy [1] (pending 313 (cycling .hold))).stability.pendingTest = .left ∧
    (let s := pending 313 driving
     (judgedBy [] { s with chain := { s.chain with
        nodes := s.chain.nodes.map fun n => { n with degraded := n.record ≠ (duoChain.nodes.getD 0 Node.start).record && (
          n.record.any fun r => r.bag ≠ 0) } } }).stability.pendingTest = .none) := by decide +kernel

/-! ### Witnesses: tyres -/

/-- A telegram's ten bytes: ID, absolute pressure, temperature code, flags, sequence, CRC. -/
def tenBytes (id p temp flags seq : Nat) : List Byte :=
  let l := beBytes 4 id ++ beBytes 2 p ++ beBytes 1 temp ++ beBytes 1 flags ++ beBytes 1 seq
  l ++ [crc8 l]

/-- A telegram with an ID, flags for LEARN and ALERT, and a sequence, arriving at an operating time. -/
def telegramOf (id : BitVec 32) (learn alert : Bool) (seq : BitVec 4) (at_ : Time) : Telegram :=
  { id := id, pressure := 880, temp := 25, learn := learn, alert := alert, batteryLow := false, seq := seq, arrival := at_ }

/-- `driving` with telegrams in the FIFO. -/
def hearing (l : List Telegram) : State := { driving with tyre := { duoTyres with fifo := l } }

theorem test_witness_delivery : (enterSleep parked).power.state = .sleep ∧ parked.power.state ≠ .sleep ∧
    parked.unapplied = none ∧ driving.unapplied = none ∧
    (hearing (List.replicate 15 (telegramOf 1 true true 1 0))).tyre.fifo.length < 16 ∧
    ¬ (hearing (List.replicate 16 (telegramOf 1 true true 1 0))).tyre.fifo.length < 16 ∧
    (tenBytes 0x11 1400 165 7 15).length = 10 ∧ beAt (tenBytes 0x11 1400 165 7 15) 4 2 ≤ 1400 ∧
    (byteAt (tenBytes 0x11 1400 165 7 15) 6).toNat ≤ 165 ∧
    crc8 ((tenBytes 0x11 1400 165 7 15).take 9) = byteAt (tenBytes 0x11 1400 165 7 15) 9 := by decide +kernel

/-- `driving` with a learn running at position 5, primary, and telegrams in the FIFO. -/
def learning (l : List Telegram) : State := (startLearn 5 .primary serving).updTyre fun t => { t with fifo := l }

/-- Dropped: from an unknown sensor without LEARN and with no learn, from position 3 again with its sequence after 1999 ms,
and, at position 3 LEARNING, from its sensor. -/
theorem test_witness_dropped : driving.tyre.fifo = [] ∧ (hearing []).unapplied = none ∧
    findMatch (hearing [telegramOf 9 false false 4 900]).active 9 = none ∧ (hearing []).tyre.learn = none ∧
    findMatch (hearing []).active 0x11 = some (3, .primary) ∧ ((hearing []).position 3).lastSeq = some 4#4 ∧
    ((hearing []).position 3).lastField = some .primary ∧ ((hearing []).position 3).lastTime = some 800#32 ∧
    (2799#32 - 800#32).toNat < 2000 ∧ ¬ (2800#32 - 800#32).toNat < 2000 ∧
    ((startLearn 3 .alternate serving).position 3).state = .learning ∧ (telegramOf 9 false true 0 0).learn = false ∧
    idHeld (learning []) 0x22 = true := by decide +kernel

theorem test_witness_accepted : let x := telegramOf 0x22 false true 4 2900
    let s := hearing [x]
    s.unapplied = none ∧ s.tyre.fifo = x :: [] ∧ s.tyre.positions.length = 16 ∧ (s.position 3).history.length ≤ 4 ∧
      findMatch s.active x.id = some (3, .alternate) ∧ (s.position 3).state ≠ .learning ∧
      isDuplicate (s.position 3) .alternate x = false := by decide +kernel

/-- The ALERT flag sets the leak flag, and 764 kPa is no CRITICAL level: the incident that opens is TYRE_LEAK. -/
theorem test_witness_leak_opens : ∃ t, exec .telegramTaken (hearing [telegramOf 0x22 false true 4 2900]) = .next t ∧
    (t.position 3).lastP = some 764 ∧ (t.position 3).leak = true ∧ (driving.position 3).leak = false :=
  ⟨_, rfl, by decide +kernel, by decide +kernel, by decide +kernel⟩

theorem test_witness_critical_opens :
    ∃ t, exec .telegramTaken (hearing [{ telegramOf 0x11 false false 5 2900 with pressure := 600 }]) = .next t ∧
      (t.position 3).level = .critical ∧ (driving.position 3).level ≠ .critical :=
  ⟨_, rfl, by decide +kernel, by decide +kernel⟩

/-- Both at once, and no TYRE_CRITICAL of position 3 is OPEN before. -/
theorem test_witness_both_open : let s := hearing [{ telegramOf 0x22 false true 4 2900 with pressure := 600 }]
    (∃ t, exec .telegramTaken s = .next t ∧ (t.position 3).level = .critical ∧ (t.position 3).leak = true) ∧
      (s.position 3).level ≠ .critical ∧ (s.position 3).leak = false ∧ ∀ i ∈ s.incidents, i.kind ≠ .tyreCritical :=
  ⟨⟨_, rfl, by decide +kernel, by decide +kernel⟩, by decide +kernel⟩

theorem test_witness_levels : 600 * 256 < 750 * defaultTuning.critFrac ∧ 750 * defaultTuning.critFrac ≤ 601 * 256 ∧
    673 * 256 < 750 * defaultTuning.lowFrac ∧ 750 * defaultTuning.lowFrac ≤ 674 * 256 ∧
    618 * 256 < 750 * (defaultTuning.critFrac + 6) ∧ 750 * (defaultTuning.critFrac + 6) ≤ 619 * 256 := by decide

/-- Section 8.11: the new sensor's telegram with LEARN at position 5, with and without a commit's write in progress. -/
theorem test_witness_learn : let x := telegramOf 0x33 true false 1 2900
    let l : Learn := { pos := 5, field := .primary, saved := .unassigned, timer := some 120000 }
    let s := learning [x]
    s.unapplied = none ∧ s.tyre.fifo = x :: [] ∧ s.tyre.positions.length = 16 ∧ s.tyre.learn = some l ∧ l.pos < 16 ∧
      findMatch s.active x.id = none ∧ x.learn = true ∧ idHeld s x.id = false ∧ s.mgmt.writing = none ∧
      idHeld { s with mgmt := { s.mgmt with writing := some ⟨duo, 2, true⟩ } } x.id = false := by decide +kernel

/-- Missing timers running at positions 3 and 15; position 3 in a state. -/
def silent (st : TyreState) : State :=
  (driving.updPosition 3 fun q => { q with missing := some 7, state := st }).updPosition 15 fun q =>
    { q with missing := some 7 }

theorem test_witness_missing : ((silent .ok).position 3).missing = some 7 ∧ ((silent .ok).position 15).missing = some 7 ∧
    (silent .ok).tyre.positions.length = 16 ∧ (silent .ok).unapplied = none ∧ ((silent .ok).position 3).state ≠ .learning ∧
    (silent .ok).power.state ≠ .sleep ∧ ((silent .missing).position 3).state = .missing := by decide +kernel

theorem test_witness_saved_missing : let s := startLearn 3 .alternate (silent .ok)
    let l : Learn := { pos := 3, field := .alternate, saved := .ok, timer := some 119993 }
    (s.position 3).missing = some 7 ∧ (elapse 7 s).tyre.learn = some l ∧ (s.position 3).state = .learning ∧ l.pos = 3 ∧
      l.saved ≠ .missing := by decide +kernel

theorem test_witness_learn_timer : (learning []).tyre.learn =
      some { pos := 5, field := .primary, saved := .unassigned, timer := some 120000 } ∧
    (learning []).tyre.positions.length = 16 ∧ (learning []).unapplied = none := by decide +kernel

/-! ### Witnesses: management, service mode and the store -/

/-- A chain bound and no response yet. -/
def rebound : State := { driving with chain := { duoChain with nodes := List.replicate 4 Node.start } }

/-- A request from the towing vehicle on port A with its argument bytes. -/
def asking (args : List Byte) : Request := { port := .A, origin := 0, tag := 5, args := args }

/-- `serving` while the store is written. -/
def writingNow (commit : Bool) : State :=
  { serving with mgmt := { serving.mgmt with
      writing := some { image := duo, generation := 2, commit := commit }, followOn := true,
      inProgress := if commit then some { tag := 9, port := .A, origin := 0 } else none } }

theorem test_witness_common_checks : parked.power.state ≠ .run ∧ taken driving (requestWith 6) ∧
    ¬ free (writingNow true) ∧ free driving ∧ driving.mgmt.shadow = none ∧
    (∀ p ∈ requestsOf (requestWith 6), argumentsOf p.1 ≤ (requestWith 6).args.length) ∧
    (requestWith 2).args.length < argumentsOf 5 ∧ (requestWith 4).args.length < argumentsOf 10 := by
  unfold taken free; decide +kernel

theorem test_witness_answers : taken driving (asking [0x90, 0xC0, 0]) ∧ 3 ≤ (asking [0x90, 0xC0, 0]).args.length ∧
    1 < beAt (asking [0x90, 0xC0, 2]).args 2 1 ∧ knownCode 0 = false ∧ knownCode 13 = false ∧
    readAnswer driving [0x90, 0xC0, 0] = (.done, [1, 1, 1, 1, 0]) := by unfold taken; decide +kernel

/-- READ: views, kinds and indexes at the ends of their ranges, a record's end, and the shadow with and without one. -/
theorem test_witness_read : (∀ k ∈ [RecKind.classEntry, .port, .range, .chain, .group, .channel, .stability, .tuning,
      .tyrePosition, .incident, .hits], RecKind.ofCode k.code = some k ∧ 1 ≤ k.code ∧ k.code ≤ 11) ∧
    loaded.incidents.length = 2 ∧ driving.mgmt.shadow = none ∧ serving.mgmt.shadow = some duo ∧
    (readAnswer driving [0x10, 0x00, 2]).1 = .badValue ∧ (readAnswer driving [0xC0, 0x00, 0]).1 = .badAddress ∧
    (readAnswer driving [0x30, 0x00, 0]).1 = .badAddress ∧ (readAnswer loaded [0xA0, 0x80, 0]).1 = .badAddress ∧
    (readAnswer loaded [0xA0, 0x40, 0]).1 = .done ∧ readAnswer driving [0x40, 0x12, 0] = (.done, [0]) ∧
    (readAnswer driving [0x40, 0x13, 0]).1 = .badAddress ∧ (readAnswer driving [0x40, 0x00, 1]).1 = .notInService ∧
    (readAnswer serving [0x40, 0x00, 1]) = (.done, [3, 1, 2, 2, 0]) ∧ (readAnswer driving [0x60, 0x00, 1]).1 = .done := by
  decide +kernel

/-- The records that the fields of section 11.2 are read from: nodes with and without a record, groups and channels that
exist and that do not, a history, a learn, and incidents. -/
theorem test_witness_read_fields : (driving.node 1).record = some { values := .ref 700 0 250 246, time := 900 } ∧
    (driving.node 2).record = some { values := .mod 0 600 0 600 290, time := 900 } ∧ (900#32).toNat < 65536 ∧
    (inUse rebound).kind 1 = .ref ∧ (inUse rebound).kind 2 = .mod ∧ (rebound.node 1).record = none ∧
    (rebound.node 2).record = none ∧ 3 ≤ (inUse driving).count ∧ ¬ 4 ≤ (inUse driving).count ∧
    groupExists driving 2 = true ∧ groupExists driving 3 = false ∧ channelExists driving 4 = true ∧
    channelExists driving 5 = false ∧ driving.composer.demand = some demand400 ∧ State.reset.composer.demand = none ∧
    (driving.position 3).history[0]? = some (800, 750) ∧ (driving.position 3).history.length ≤ 1 ∧
    (learning []).tyre.learn = some { pos := 5, field := .primary, saved := .unassigned, timer := some 120000 } ∧
    driving.tyre.learn = none ∧ loaded.incidents[1]? = some ⟨.nodeDegraded, 2, 0, 30, none⟩ := by decide +kernel

theorem test_witness_service : taken driving (asking []) ∧ free driving ∧ driving.wheel.stationary = false ∧
    taken serving (asking []) ∧ free serving ∧ serving.wheel.stationary = true ∧ serving.mgmt.shadow.isSome = true ∧
    serving.mgmt.idle = some 5000 ∧ ({ serving with mgmt := .start } : State).mgmt.shadow.isSome = false := by
  unfold taken free; decide +kernel

/-- STAGE of GROUP 2 at offset 0: P_e and P_l. -/
def stageGroup (pE pL : Nat) : Request := asking ([0x50, 0x80] ++ beBytes 2 pE ++ beBytes 2 pL)

theorem test_witness_stage : taken serving (stageGroup 60 1000) ∧ free serving ∧ serving.mgmt.shadow = some duo ∧
    3 ≤ (stageGroup 60 1000).args.length ∧ RecKind.ofCode (beAt (stageGroup 60 1000).args 0 2 / 4096) = some .group ∧
    stageable .group 2 = true ∧ stageable .group 4 = false ∧ RecKind.ofCode 0 = none ∧ RecKind.ofCode 12 = none := by
  unfold taken free; decide +kernel

theorem test_witness_stage_values : (fieldsWritten (configLayout duo .group 2) 0 4).isSome = true ∧
    (fieldsWritten (configLayout duo .group 2) 0 3).isNone = true ∧
    (∀ fs ∈ fieldsWritten (configLayout duo .group 2) 0 4, valuesOk fs ((stageGroup 60 1000).args.drop 2) = true ∧
      valuesOk fs ((stageGroup 951 1000).args.drop 2) = false) := by decide +kernel

/-- STAGE of a position's present bits, which leave its alternate ID present and its primary ID all ones. -/
def stagePresent : Request := asking [0x90, 0xC7, 2]

/-- STAGE of the flags of slot 4, which become those of a WIDE entry, and of slot 5, which has no successor of its own. -/
def stageFlags (slot : Nat) (flags : Byte) : Request := asking (beBytes 2 (0x1000 + 64 * slot) ++ [flags])

theorem test_witness_stage_read_back : duo.shaped ∧ (∀ r ∈ [stageGroup 60 1000, stagePresent, stageFlags 4 3, stageFlags 5 0],
      taken serving r ∧ 3 ≤ r.args.length ∧ (stageInto duo r.args).1 = .done) ∧ free serving ∧
    serving.mgmt.shadow = some duo ∧ RecKind.ofCode (beAt stagePresent.args 0 2 / 4096) = some .tyrePosition ∧
    RecKind.ofCode (beAt (stageFlags 4 3).args 0 2 / 4096) = some .classEntry ∧ stageable .group 3 = true ∧
    stageable .classEntry 5 = true ∧ 14 < (shownConfig duo .group 3).length ∧
    (byteAt ((stageInto duo (stageFlags 4 3).args).2.slot 4) 0).getLsbD 1 = true ∧
    (byteAt (duo.slot 4) 0).getLsbD 1 = false := by unfold Image.shaped taken free; decide +kernel

/-- The shadow with a group record whose P_e is not below its P_l. -/
def broken : Image := { duo with groups := [bulk, { bulk with pE := 450 }, defaultGroupRec] }

theorem test_witness_commit : taken serving (asking []) ∧ free serving ∧ serving.mgmt.shadow = some duo ∧
    serving.wheel.stationary = true ∧ driving.wheel.stationary = false ∧
    (∀ q ∈ validationOrder, recordOk duo q.1 q.2 = true) ∧
    validationOrder = validationOrder.take 68 ++ (.group, 2) :: validationOrder.drop 69 ∧
    recordOk broken .group 2 = false ∧ (∀ q ∈ validationOrder.take 68, recordOk broken q.1 q.2 = true) := by
  unfold taken free; decide +kernel

theorem test_witness_learn_request : let r := asking [3, 1]
    taken serving r ∧ free serving ∧ 2 ≤ r.args.length ∧ serving.tyre.learn = none ∧ serving.wheel.stationary = true ∧
      beAt r.args 0 1 ≤ 15 ∧ beAt r.args 1 1 ≤ 1 ∧ (serving.active.tyre (beAt r.args 0 1)).configured = true ∧
      serving.tyre.positions.length = 16 := by unfold taken free; decide +kernel

/-- LEARN_TYRE on either port, and the four refusals of R156: position 5 is configured, position 4 is not. -/
theorem test_witness_learn_refused : (∀ p ∈ [Port.A, .B], taken serving { asking [5, 0] with port := p }) ∧
    (serving.position 5).state ≠ .learning ∧ (serving.active.tyre 5).configured = true ∧
    (learning []).tyre.learn ≠ none ∧ driving.tyre.learn = none ∧ driving.wheel.stationary = false ∧
    beAt (asking [16, 0]).args 0 1 = 16 ∧ (serving.active.tyre 4).configured = false ∧ 1 < beAt (asking [5, 2]).args 1 1 := by
  unfold taken; decide +kernel

/-- The refusals of R113, at the ends of their ranges: channel 4 exists, channel 5 does not. -/
theorem test_witness_service_test_refused :
    let s := { serving with wheel := driving.wheel }
    taken s (asking (4 :: List.replicate 4 0)) ∧ free s ∧ s.mgmt.shadow.isSome = true ∧ s.wheel.stationary = false ∧
    (∀ c ∈ [0, 7], c ∉ channelNumbers) ∧ channelExists serving 5 = false ∧ channelExists serving 4 = true ∧
    pMaxOf serving 4 < 851 ∧ beAt (asking [4, 0, 0, 0, 99]).args 3 2 < 100 ∧
    10000 < beAt (asking ([4, 0, 0] ++ beBytes 2 10001)).args 3 2 := by unfold taken free; decide +kernel

theorem test_witness_cancel : taken (learning []) (asking []) ∧ free (learning []) ∧
    (learning []).tyre.learn = some { pos := 5, field := .primary, saved := .unassigned, timer := some 120000 } ∧
    (learning []).tyre.positions.length = 16 := by unfold taken free; decide +kernel

theorem test_witness_cancel_on_either_port : (∀ p ∈ [Port.A, .B], taken (learning []) { asking [] with port := p }) ∧
    ((learning []).position 5).state ≠ .unassigned := by unfold taken; decide +kernel

theorem test_witness_service_test : ∀ r ∈ [asking ([4] ++ beBytes 2 850 ++ beBytes 2 100),
      asking ([4] ++ beBytes 2 0 ++ beBytes 2 10000)],
    taken serving r ∧ free serving ∧ 5 ≤ r.args.length ∧ serving.mgmt.shadow.isSome = true ∧
      serving.wheel.stationary = true ∧ beAt r.args 0 1 = 4 ∧ channelExists serving 4 = true ∧
      serving.channels.length = 6 ∧ beAt r.args 1 2 ≤ pMaxOf serving 4 ∧ 100 ≤ beAt r.args 3 2 ∧
      beAt r.args 3 2 ≤ 10000 := by unfold taken free; decide +kernel

/-- `serving` with a RESTART answered on port A, its response on offer. -/
def restarting : State := acceptRestart (asking []) serving

/-- The same without a partner on port A, and with a write in progress. -/
def unanswered : State := serving.updPort .A PortState.lose
def waiting : State := { restarting with mgmt := { restarting.mgmt with writing := some ⟨duo, 2, false⟩ } }

theorem test_witness_restart : taken serving (asking []) ∧ free serving ∧ serving.mgmt.shadow.isSome = true ∧
    (serving.port .A).present = true ∧ (serving.port .A).general.length < 24 ∧
    taken unanswered (asking []) ∧ free unanswered ∧ unanswered.mgmt.shadow.isSome = true ∧
    (unanswered.port .A).present = false := by unfold taken free; decide +kernel

theorem test_witness_restart_events : restarting.mgmt.restartTimer = some 200 ∧ restarting.mgmt.restartPending = true ∧
    restarting.mgmt.writing = none ∧ (restarting.port .A).offersRestart = true ∧
    (restarting.port .A).presence = some 700 ∧ (restarting.port .A).holdsRestart = true ∧
    waiting.mgmt.restartTimer = some 200 ∧ waiting.mgmt.restartPending = true ∧ waiting.mgmt.writing ≠ none := by
  decide +kernel

theorem test_witness_reports_of_store : serving.mgmt.writing = none ∧
    (∀ b ∈ [true, false], (writingNow b).mgmt.writing = some { image := duo, generation := 2, commit := b } ∧
      (writingNow b).mgmt.restartDue = false) ∧
    (writingNow true).mgmt.inProgress = some { tag := 9, port := .A, origin := 0 } := by decide +kernel

/-- A restart that waits for the report of a store write, of a commit or of another write. -/
theorem test_witness_restart_due : ∀ b ∈ [true, false],
    let s := { writingNow b with mgmt := { (writingNow b).mgmt with restartPending := true, restartDue := true } }
    s.mgmt.writing = some { image := duo, generation := 2, commit := b } ∧ s.mgmt.restartDue = true := by decide +kernel

/-- A commit's write in progress, in a state. -/
def committing (img : Image) (p : Port) (s : State) : State :=
  { s with mgmt := { s.mgmt with
      writing := some { image := img, generation := 2, commit := true },
      inProgress := some { tag := 9, port := p, origin := 0 } } }

/-- An image that takes position 3's primary ID away and configures position 4. -/
def reshaped : Image :=
  { duo with tyres := duo.tyres.set 3 { duo.tyre 3 with primary := ⟨false, 0⟩ } |>.set 4 { duo.tyre 3 with
      primary := ⟨true, 0x33⟩, alternate := ⟨false, 0⟩ } }

/-- An unconfigured chain of a part in RUN, its settle timer expired. -/
def unconfigured : State := { State.reset with power := { Power.start with settle := none } }

theorem test_witness_swap : (∀ s ∈ [committing reshaped .A driving, committing duo .B unconfigured, committing duo .A testing],
      s.mgmt.restartDue = false ∧ s.channels.length = 6 ∧ s.tyre.positions.length = 16 ∧ s.power.state = .run ∧
      s.unapplied = none) ∧
    (committing duo .B unconfigured).power.settle = none ∧ (committing duo .B unconfigured).chain.period = none ∧
    duo.chain.count ≠ 0 ∧ driving.chain.period ≠ none ∧ State.reset.power.settle ≠ none ∧ factoryImage.chain.count = 0 ∧
    parked.power.state ≠ .run ∧ parked.tyre.positions.length = 16 ∧ parked.channels.length = 6 ∧
    parked.mgmt.inProgress = none ∧ (serving.tyre.learn = none) := by decide +kernel

/-- In TEST a commit of the same image leaves the test running, and no frame but its answer goes to port A. -/
theorem test_witness_swap_in_test : ∃ t, exec .storeWriteSucceeded (committing duo .A testing) = .next t ∧
    t.stability.state = .test ∧ t.stability.state = (committing duo .A testing).stability.state ∧
    (∀ i ∈ List.range 16, (t.position i).state = (testing.position i).state) ∧ 1 ∈ testing.stability.testChannels ∧
    channelExists t 1 = true :=
  ⟨_, rfl, by decide +kernel, by decide +kernel, by decide +kernel, by decide +kernel, by decide +kernel⟩

/-- The rows of R159's table: positions that are unused, unassigned, assigned with other IDs and kept, and a learn's. -/
theorem test_witness_positions_at_swap : (reshaped.tyre 0).configured = false ∧ (reshaped.tyre 5).configured = true ∧
    (reshaped.tyre 5).assigned = false ∧ (reshaped.tyre 4).assigned = true ∧ (duo.tyre 4).configured = false ∧
    (duo.tyre 3).assigned = true ∧ (duo.tyre 3).primary.present ≠ (reshaped.tyre 3).primary.present ∧
    (duo.tyre 3).configured = true ∧ driving.tyre.learn = none ∧ ((startLearn 3 .primary serving).position 3).state = .learning ∧
    ((startLearn 3 .primary serving).tyre.learn.map (·.pos)) = some 3 := by decide +kernel

/-- The events at which a swap that came out of RUN is applied. -/
theorem test_witness_held_swap : holdingSwap.power.state ≠ .sleep ∧ holdingSwap.power.state ≠ .run ∧
    holdingSwap.unapplied.isSome = true ∧ holdingSwap.channels.length = 6 ∧ holdingSwap.tyre.positions.length = 16 ∧
    (let s := { holdingSwap with tyre := { duoTyres with fifo := [telegramOf 0x11 false false 5 1000] } }
     s.tyre.fifo ≠ []) ∧
    (let s := { enterSleep parked with unapplied := holdingSwap.unapplied }
     s.power.state = .sleep ∧ s.power.lockout = false ∧ s.unapplied.isSome = true) ∧
    (let s := holdingSwap.updPosition 3 fun q => { q with missing := some 7 }
     (s.position 3).missing = some 7 ∧ ((applyHeld (elapse 7 s)).position 3).missing ≠ some 0) ∧
    (let s := { holdingSwap with unapplied := some duo }.updPosition 3 fun q => { q with missing := some 7 }
     (s.position 3).missing = some 7 ∧ ((applyHeld (elapse 7 s)).position 3).missing = some 0) := by decide +kernel

/-! ### Witnesses: power -/

theorem test_witness_cold_start : (∀ v ∈ [219, 220, 400], v ≤ 400) ∧ (coldStart 219 false driving).power.low = true ∧
    (coldStart 220 false driving).power.low = false ∧ (coldStart 220 true driving).configInvalid = false ∧
    (coldStart 220 true (writingNow true)).configInvalid = true := by decide +kernel

/-- Blocks at a cold start from a valid store: groups and channels of `duo`, and positions of each kind. -/
theorem test_witness_cold_start_blocks : let t := coldStart 246 true driving
    channelExists t 4 = true ∧ channelExists t 5 = false ∧ groupExists t 2 = true ∧ groupExists t 3 = false ∧
    (t.active.tyre 3).assigned = true ∧ (t.active.tyre 5).configured = true ∧ (t.active.tyre 5).assigned = false ∧
    (t.active.tyre 0).configured = false ∧ t.load.total = 500 := by decide +kernel

theorem test_witness_power_off : parked.power.state ≠ .run ∧ driving.power.state = .run ∧ driving.unapplied = none ∧
    driving.active.tuning.parkWatch = true ∧ (powerOff 220 driving).power.low = false ∧
    (powerOff 219 driving).power.low = true := by decide +kernel

theorem test_witness_power_on : driving.power.state = .run ∧ parked.power.state = .parkWatch ∧
    parked.unapplied = none ∧ (enterSleep parked).unapplied = none ∧
    (enterSleep parked).power.state = .sleep ∧ (enterSleep parked).tyre.positions.length = 16 ∧
    ((enterSleep parked).active.tyre 3).assigned = true ∧ ((enterSleep parked).position 3).state ≠ .missing := by
  decide +kernel

/-- `parked` with a timer of the park watch, and position 3 in a state. -/
def watching (ph : ParkPhase) (st : TyreState) : State :=
  { parked with power := { parked.power with phase := ph, park := some 9, listen := some 9 } }.updPosition 3 fun q =>
    { q with state := st }

theorem test_witness_park_watch : (watching .parked .ok).unapplied = none ∧
    (∀ st ∈ [TyreState.ok, .leak], (watching .parked st).power.park = some 9 ∧
      (watching .parked st).power.state = .parkWatch ∧ (watching .parked st).power.phase = .parked ∧
      (watching .listening st).power.listen = some 9 ∧ (watching .listening st).power.phase = .listening) ∧
    anyFailing (watching .parked .leak) = true ∧ anyFailing (watching .parked .ok) = false := by decide +kernel

theorem test_witness_sleep : (enterSleep parked).power.wake = some 600000 ∧ (enterSleep parked).power.state = .sleep ∧
    (enterSleep parked).tyre.positions.length = 16 ∧ (enterSleep parked).power.lockout = false ∧
    driving.power.state ≠ .sleep ∧ (setLockout (enterSleep parked)).power.lockout = true := by decide +kernel

theorem test_witness_sample : driving.power.sample = some 1000 ∧ driving.power.state = .run ∧ driving.unapplied = none ∧
    refDegraded driving = false ∧ (refRecord driving).isSome = true ∧ parked.power.sample = some 1000 ∧
    parked.power.state ≠ .run ∧ refRecord State.reset = none ∧ State.reset.power.state = .run ∧
    State.reset.power.sample = some 1000 ∧ parked.power.low = false ∧ parked.unapplied = none := by decide +kernel

theorem test_witness_low_sample : ∃ t, exec (.batterySampleTimerExpiry 219) parked = .next t ∧ t.power.low = true :=
  ⟨_, rfl, by decide +kernel⟩

theorem test_witness_ref_voltage : refRecord driving = some { values := .ref 700 0 250 246, time := 900 } ∧
    (inUse driving).ref = some 1 ∧ 1 ∈ [1, 2, 3] ∧ 1 ∉ [2, 3] ∧ driving.power.state = .run := by decide +kernel

end Sys2Proof.Tests
end

section
/-! PROOFS. The queues and the transmitter of a port: what an enqueue, a report, a flush and a reception make of a port, and
that each keeps the form of R3 to R7. -/

namespace Sys2Proof.Machine

/-! ### The transmitter's choice -/

/-- The transmitter's choice in the words of the claims: what is on offer stays, else the queues' first comes (R7). -/
theorem choose_eq (ps : PortState) :
    ps.choose = { ps with offer := if ps.offer.isSome then ps.offer else offered ps.safety ps.general } := by
  unfold PortState.choose offered
  by_cases h : ps.offer.isSome = true
  · rw [if_pos h, if_pos h]
  · rw [if_neg h, if_neg h]
    cases ps.safety <;> cases ps.general <;> rfl

@[simp] theorem choose_present (ps : PortState) : ps.choose.present = ps.present := by rw [choose_eq]
@[simp] theorem choose_presence (ps : PortState) : ps.choose.presence = ps.presence := by rw [choose_eq]
@[simp] theorem choose_lastReception (ps : PortState) : ps.choose.lastReception = ps.lastReception := by rw [choose_eq]
@[simp] theorem choose_safety (ps : PortState) : ps.choose.safety = ps.safety := by rw [choose_eq]
@[simp] theorem choose_general (ps : PortState) : ps.choose.general = ps.general := by rw [choose_eq]
@[simp] theorem choose_discards (ps : PortState) : ps.choose.discards = ps.discards := by rw [choose_eq]

theorem offered_eq_none {a b : List Queued} : offered a b = none ↔ a = [] ∧ b = [] := by
  unfold offered
  cases a <;> cases b <;> simp

theorem offered_eq_safety {a b : List Queued} : offered a b = some .safety ↔ a ≠ [] := by
  unfold offered
  cases a <;> cases b <;> simp

theorem offered_eq_general {a b : List Queued} (h : offered a b = some .general) : b ≠ [] := by
  unfold offered at h
  cases a <;> cases b <;> simp_all

/-! ### Enqueues -/

/-- An absent partner's port discards every frame (R4). -/
theorem enqueue_absent {ps : PortState} (h : ps.present = false) (q : QueueClass) (x : Queued) : ps.enqueue q x = ps := by
  unfold PortState.enqueue
  rw [h]
  rfl

theorem enqueue_safety {ps : PortState} (h : ps.present = true) (x : Queued) :
    ps.enqueue .safety x = (ps.pushSafety x).choose := by
  unfold PortState.enqueue
  rw [h]
  rfl

theorem enqueue_general {ps : PortState} (h : ps.present = true) (x : Queued) :
    ps.enqueue .general x = (ps.pushGeneral x).choose := by
  unfold PortState.enqueue
  rw [h]
  rfl

/-- The SAFETY queue after a frame came to a full one: the replaced queue behind the frame on offer (R5). -/
def safetyFull (held : Nat) (l : List Queued) (x : Queued) : List Queued :=
  l.take held ++ (replaceLast x (l.drop held)).getD ((l.drop held).tail ++ [x])

theorem pushSafety_of_room {ps : PortState} (h : ps.safety.length < 8) (x : Queued) :
    ps.pushSafety x = { ps with safety := ps.safety ++ [x] } := if_pos h

theorem pushSafety_of_full {ps : PortState} (h : ¬ ps.safety.length < 8) (x : Queued) :
    ps.pushSafety x = { ps with safety := safetyFull (if ps.offer = some .safety then 1 else 0) ps.safety x } := if_neg h

theorem pushGeneral_of_room {ps : PortState} (h : ps.general.length < 24) (x : Queued) :
    ps.pushGeneral x = { ps with general := ps.general ++ [x] } := if_pos h

theorem pushGeneral_of_full {ps : PortState} (h : ¬ ps.general.length < 24) (x : Queued) :
    ps.pushGeneral x = { ps with discards := satSucc 65535 ps.discards } := if_neg h

/-- A replacement keeps the number of frames (R5). -/
theorem replaceLast_length {x : Queued} {l l' : List Queued} (h : replaceLast x l = some l') : l'.length = l.length := by
  induction l generalizing l' with
  | nil => cases h
  | cons y l ih =>
    unfold replaceLast at h
    split at h
    · next l'' e =>
      cases h
      simp [ih e]
    · split at h
      · cases h
        rfl
      · cases h

/-- No frame of the class and origin: nothing to replace (R5). -/
theorem replaceLast_eq_none {x : Queued} {l : List Queued} (h : ∀ y ∈ l, x.sameSender y = false) :
    replaceLast x l = none := by
  induction l with
  | nil => rfl
  | cons y l ih =>
    unfold replaceLast
    rw [ih fun z hz => h z (List.mem_cons_of_mem _ hz), h y List.mem_cons_self]
    rfl

/-- The newest frame of the class and origin is replaced in place (R5). -/
theorem replaceLast_append {x y : Queued} {b : List Queued} (hy : x.sameSender y = true)
    (hb : ∀ z ∈ b, x.sameSender z = false) (a : List Queued) :
    replaceLast x (a ++ y :: b) = some (a ++ x :: b) := by
  induction a with
  | nil => simp [replaceLast, replaceLast_eq_none hb, hy]
  | cons w a ih => simp [replaceLast, ih]

theorem safetyFull_length {held : Nat} {l : List Queued} (h : held < l.length) (x : Queued) :
    (safetyFull held l x).length = l.length := by
  unfold safetyFull
  cases e : replaceLast x (l.drop held) with
  | none =>
    simp
    omega
  | some l' =>
    simp [replaceLast_length e]
    omega

/-! ### What an enqueue leaves alone -/

@[simp] theorem pushSafety_present (ps : PortState) (x : Queued) : (ps.pushSafety x).present = ps.present := by
  unfold PortState.pushSafety; split <;> rfl
@[simp] theorem pushSafety_presence (ps : PortState) (x : Queued) : (ps.pushSafety x).presence = ps.presence := by
  unfold PortState.pushSafety; split <;> rfl
@[simp] theorem pushSafety_lastReception (ps : PortState) (x : Queued) :
    (ps.pushSafety x).lastReception = ps.lastReception := by unfold PortState.pushSafety; split <;> rfl
@[simp] theorem pushGeneral_present (ps : PortState) (x : Queued) : (ps.pushGeneral x).present = ps.present := by
  unfold PortState.pushGeneral; split <;> rfl
@[simp] theorem pushGeneral_presence (ps : PortState) (x : Queued) : (ps.pushGeneral x).presence = ps.presence := by
  unfold PortState.pushGeneral; split <;> rfl
@[simp] theorem pushGeneral_lastReception (ps : PortState) (x : Queued) :
    (ps.pushGeneral x).lastReception = ps.lastReception := by unfold PortState.pushGeneral; split <;> rfl

/-- An enqueue is the choice after a push, or nothing. -/
theorem enqueue_cases (ps : PortState) (q : QueueClass) (x : Queued) :
    ps.enqueue q x = ps ∨ ps.enqueue q x = (ps.pushSafety x).choose ∨ ps.enqueue q x = (ps.pushGeneral x).choose := by
  cases hp : ps.present with
  | false => exact .inl (enqueue_absent hp q x)
  | true =>
    cases q with
    | safety => exact .inr (.inl (enqueue_safety hp x))
    | general => exact .inr (.inr (enqueue_general hp x))

@[simp] theorem enqueue_present (ps : PortState) (q : QueueClass) (x : Queued) :
    (ps.enqueue q x).present = ps.present := by
  rcases enqueue_cases ps q x with h | h | h <;> simp [h]

@[simp] theorem enqueue_presence (ps : PortState) (q : QueueClass) (x : Queued) :
    (ps.enqueue q x).presence = ps.presence := by
  rcases enqueue_cases ps q x with h | h | h <;> simp [h]

@[simp] theorem enqueue_lastReception (ps : PortState) (q : QueueClass) (x : Queued) :
    (ps.enqueue q x).lastReception = ps.lastReception := by
  rcases enqueue_cases ps q x with h | h | h <;> simp [h]

/-! ### The form of R3 to R7 -/

/-- The choice gives the form of R3 to R7 to queues within their bounds that offer no frame they do not hold. -/
theorem portWf_choose {ps : PortState} (safety : ps.safety.length ≤ 8) (general : ps.general.length ≤ 24)
    (discards : ps.discards ≤ 65535) (absent : ps.present = false → ps.safety = [] ∧ ps.general = [])
    (offersS : ps.offer = some .safety → ps.safety ≠ []) (offersG : ps.offer = some .general → ps.general ≠ []) :
    PortWf ps.choose := by
  rw [choose_eq]
  cases e : ps.offer with
  | none => exact ⟨safety, general, discards, absent, offered_eq_none, offered_eq_safety.mp, offered_eq_general⟩
  | some q =>
    refine ⟨safety, general, discards, absent, ⟨fun h => (Option.some_ne_none q h).elim, ?_⟩, ?_, ?_⟩
    · rintro ⟨hs, hg⟩
      cases q with
      | safety => exact absurd hs (offersS e)
      | general => exact absurd hg (offersG e)
    · exact fun h => offersS (e.trans h)
    · exact fun h => offersG (e.trans h)

/-- The choice when no frame is on offer. -/
theorem portWf_choose_anew {ps : PortState} (ho : ps.offer = none) (safety : ps.safety.length ≤ 8)
    (general : ps.general.length ≤ 24) (discards : ps.discards ≤ 65535)
    (absent : ps.present = false → ps.safety = [] ∧ ps.general = []) : PortWf ps.choose :=
  portWf_choose safety general discards absent (by simp [ho]) (by simp [ho])

theorem satSucc_le {limit n : Nat} (h : n ≤ limit) : satSucc limit n ≤ limit := by
  unfold satSucc
  split <;> omega

/-- The SAFETY queue takes a frame and stays within its 8 frames (R4, R5). -/
theorem portWf_enqueue_safety {ps : PortState} (h : PortWf ps) (hp : ps.present = true) (x : Queued) :
    PortWf (ps.enqueue .safety x) := by
  rw [enqueue_safety hp]
  by_cases hr : ps.safety.length < 8
  · rw [pushSafety_of_room hr]
    refine portWf_choose ?_ h.general h.discards ?_ ?_ h.offersG
    · simp; omega
    · simp [hp]
    · simp
  · have hl : (safetyFull (if ps.offer = some .safety then 1 else 0) ps.safety x).length = ps.safety.length :=
      safetyFull_length (by split <;> omega) x
    rw [pushSafety_of_full hr]
    refine portWf_choose (hl.le.trans h.safety) h.general h.discards ?_ ?_ h.offersG
    · simp [hp]
    · intro _ he
      have h0 : (safetyFull (if ps.offer = some .safety then 1 else 0) ps.safety x).length = 0 :=
        congrArg List.length he
      omega

/-- The GENERAL queue takes a frame or counts its discard, and stays within its 24 frames (R4, R6). -/
theorem portWf_enqueue_general {ps : PortState} (h : PortWf ps) (hp : ps.present = true) (x : Queued) :
    PortWf (ps.enqueue .general x) := by
  rw [enqueue_general hp]
  by_cases hr : ps.general.length < 24
  · rw [pushGeneral_of_room hr]
    refine portWf_choose h.safety ?_ h.discards ?_ h.offersS ?_
    · simp; omega
    · simp [hp]
    · simp
  · rw [pushGeneral_of_full hr]
    exact portWf_choose h.safety h.general (satSucc_le h.discards) h.absent h.offersS h.offersG

theorem portWf_enqueue {ps : PortState} (h : PortWf ps) (q : QueueClass) (x : Queued) : PortWf (ps.enqueue q x) := by
  cases hp : ps.present with
  | false => rwa [enqueue_absent hp]
  | true =>
    cases q with
    | safety => exact portWf_enqueue_safety h hp x
    | general => exact portWf_enqueue_general h hp x

/-- A port with empty queues and nothing on offer, present or absent. -/
theorem portWf_of_empty {ps : PortState} (hs : ps.safety = []) (hg : ps.general = []) (ho : ps.offer = none)
    (hd : ps.discards ≤ 65535) : PortWf ps := by
  constructor <;> simp [*]

theorem portWf_start : PortWf PortState.start := portWf_of_empty rfl rfl rfl (by decide)
theorem portWf_lose {ps : PortState} (h : PortWf ps) : PortWf ps.lose := portWf_of_empty rfl rfl rfl h.discards
theorem portWf_leave {ps : PortState} (h : PortWf ps) : PortWf ps.leave := portWf_of_empty rfl rfl rfl h.discards

/-- The presence timer is no part of the form. -/
theorem portWf_presence {ps : PortState} (h : PortWf ps) (t : Timer) : PortWf { ps with presence := t } := { h with }

/-- A reception makes the partner present and leaves the queues (R1). -/
theorem portWf_receive {ps : PortState} (h : PortWf ps) (t : Timer) (u : Option Time) :
    PortWf { ps with present := true, lastReception := u, presence := t } :=
  { h with absent := fun e => Bool.noConfusion e }

/-- TRANSMITTED takes the head of the queue on offer (R7). -/
theorem portWf_transmitted {ps : PortState} (h : PortWf ps) : PortWf ps.transmitted := by
  unfold PortState.transmitted
  have hs := h.safety
  have hg := h.general
  split
  · exact h
  · refine portWf_choose_anew rfl ?_ h.general h.discards fun ha => ?_
    · simp; omega
    · simp [h.absent ha]
  · refine portWf_choose_anew rfl h.safety ?_ h.discards fun ha => ?_
    · simp; omega
    · simp [h.absent ha]

/-- NOT_SENT lets the transmitter choose again (R7). -/
theorem portWf_notSent {ps : PortState} (h : PortWf ps) : PortWf ps.notSent := by
  unfold PortState.notSent
  split
  · exact h
  · exact portWf_choose_anew rfl h.safety h.general h.discards h.absent

@[simp] theorem transmitted_present (ps : PortState) : ps.transmitted.present = ps.present := by
  unfold PortState.transmitted; split <;> simp
@[simp] theorem transmitted_presence (ps : PortState) : ps.transmitted.presence = ps.presence := by
  unfold PortState.transmitted; split <;> simp
@[simp] theorem notSent_present (ps : PortState) : ps.notSent.present = ps.present := by
  unfold PortState.notSent; split <;> simp
@[simp] theorem notSent_presence (ps : PortState) : ps.notSent.presence = ps.presence := by
  unfold PortState.notSent; split <;> simp

end Sys2Proof.Machine
end

section
/-! PROOFS. What the management unit, the store's reports and the power controller can do to the ports and the incident list,
as `Moves`, after the operations of Laws/Moves.lean; and that every step keeps the form of the queues (R3 to R7). -/

namespace Sys2Proof.Machine

/-! ### Requests -/

theorem moves_respond (code r res data) (s : State) : Moves s (respond code r res data s) := moves_enqueue _ _ _ s

theorem moves_touchIdle (s : State) : Moves s (touchIdle s) := by
  unfold touchIdle
  split
  · exact moves_updMgmt _ s
  · exact .refl s

/-- A request moves the ports and the incident list as its own work does. -/
theorem moves_manage {act : State → State} (hact : ∀ t, Moves t (act t)) (code need exempt r) (s : State) :
    Moves s (manage code need exempt act r s) := by
  rcases manage_cases code need exempt act r s with ⟨_, h⟩ | ⟨_, _, _, h⟩ | ⟨_, _, _, h⟩ | ⟨_, _, _, h⟩ <;> rw [h]
  · exact .refl s
  · exact (moves_touchIdle s).trans (moves_respond _ _ _ _ _)
  · exact (moves_touchIdle s).trans (moves_respond _ _ _ _ _)
  · exact (moves_touchIdle s).trans (hact _)

theorem moves_doIdentify (r) (s : State) : Moves s (doIdentify r s) :=
  moves_manage (fun t => moves_respond _ _ _ _ t) _ _ _ r s

theorem moves_doRead (r) (s : State) : Moves s (doRead r s) :=
  moves_manage (fun t => moves_respond _ _ _ _ t) _ _ _ r s

theorem moves_doEnterService (r) (s : State) : Moves s (doEnterService r s) := by
  refine moves_manage (fun t => ?_) _ _ _ r s
  split
  · exact moves_respond _ _ _ _ t
  · split
    · exact moves_respond _ _ _ _ t
    · exact (show Moves t (startService t) from moves_updMgmt _ t).trans (moves_respond _ _ _ _ _)

theorem moves_doLeaveService (r) (s : State) : Moves s (doLeaveService r s) := by
  refine moves_manage (fun t => ?_) _ _ _ r s
  split
  · exact (moves_endService t).trans (moves_respond _ _ _ _ _)
  · exact moves_respond _ _ _ _ t

theorem moves_doDiscard (r) (s : State) : Moves s (doDiscard r s) := by
  refine moves_manage (fun t => ?_) _ _ _ r s
  split
  · exact (moves_updMgmt _ t).trans (moves_respond _ _ _ _ _)
  · exact moves_respond _ _ _ _ t

theorem moves_stageShadow (img r) (s : State) : Moves s (stageShadow img r s) := by
  unfold stageShadow
  split
  · exact (moves_updMgmt _ s).trans (moves_respond _ _ _ _ _)
  · exact moves_respond _ _ _ _ s

theorem moves_doStage (r) (s : State) : Moves s (doStage r s) := by
  refine moves_manage (fun t => ?_) _ _ _ r s
  split
  · exact moves_respond _ _ _ _ t
  · exact moves_stageShadow _ r t

theorem moves_commitShadow (img r) (s : State) : Moves s (commitShadow img r s) := by
  unfold commitShadow
  split
  · exact moves_respond _ _ _ _ s
  · exact moves_updMgmt _ s

theorem moves_doCommit (r) (s : State) : Moves s (doCommit r s) := by
  refine moves_manage (fun t => ?_) _ _ _ r s
  split
  · exact moves_respond _ _ _ _ t
  · split
    · exact moves_respond _ _ _ _ t
    · exact moves_commitShadow _ r t

theorem moves_doLearnTyre (r) (s : State) : Moves s (doLearnTyre r s) := by
  refine moves_manage (fun t => ?_) _ _ _ r s
  split
  · exact (moves_startLearn _ _ t).trans (moves_respond _ _ _ _ _)
  · exact moves_respond _ _ _ _ t

theorem moves_doCancelLearn (r) (s : State) : Moves s (doCancelLearn r s) :=
  moves_manage (fun t => (moves_endLearn t).trans (moves_respond _ _ _ _ _)) _ _ _ r s

theorem moves_doServiceTest (r) (s : State) : Moves s (doServiceTest r s) := by
  refine moves_manage (fun t => ?_) _ _ _ r s
  split
  · exact (moves_startTest _ _ _ t).trans (moves_respond _ _ _ _ _)
  · exact moves_respond _ _ _ _ t

theorem moves_doUnknown (code r) (s : State) : Moves s (doUnknown code r s) := by
  unfold doUnknown
  split
  · exact moves_respond _ _ _ _ s
  · exact .refl s

/-! ### The demand and the relayed frames -/

theorem moves_consumeDemand (p d) (s : State) : Moves s (consumeDemand p d s) := by
  unfold consumeDemand
  split
  · exact .refl s
  · exact (moves_updComposer _ s).trans (moves_reestablish _)

theorem moves_applyPass (p f a) (s : State) : Moves s (applyPass p f a s) := by
  unfold applyPass
  split
  · exact moves_enqueue _ _ _ s
  · exact .refl s

/-! ### Power -/

theorem moves_enterRun (s : State) : Moves s (enterRun s) := by
  unfold enterRun
  refine Moves.trans ?_ (moves_reestablish _)
  refine Moves.trans ?_ (moves_setEmergency _ _)
  exact (moves_applyHeld s).trans (.quiet rfl rfl rfl rfl)

theorem moves_powerOn (s : State) : Moves s (powerOn s) := by
  unfold powerOn
  dsimp only
  refine (moves_updPower (fun p => { p with linkPower := true }) s).trans ?_
  split
  · exact .refl _
  · split
    · exact (moves_enterRun _).trans (moves_tyreWake _)
    · exact moves_enterRun _

theorem moves_settleExpired (s : State) : Moves s (settleExpired s) := (moves_updPower _ s).trans (moves_startChain _ _)

theorem moves_parkExpired (s : State) : Moves s (parkExpired s) := by
  unfold parkExpired
  split
  · exact moves_updPower _ s
  · split
    · exact moves_updPower _ s
    · exact (moves_updPower _ s).trans (moves_enterSleep _)

theorem moves_listenExpired (s : State) : Moves s (listenExpired s) := by
  unfold listenExpired
  split
  · exact moves_updPower _ s
  · split
    · exact moves_updPower _ s
    · exact (moves_updPower _ s).trans (moves_enterSleep _)

theorem moves_startListening (s : State) : Moves s (startListening s) :=
  ((moves_applyHeld s).trans (moves_updPower _ _)).trans (moves_tyreWake _)

theorem moves_wakeExpired (s : State) : Moves s (wakeExpired s) := by
  unfold wakeExpired
  split
  · exact moves_startListening s
  · exact moves_updPower _ s

theorem moves_wakeLine (s : State) : Moves s (wakeLine s) := by
  unfold wakeLine
  split
  · exact moves_startListening s
  · exact .refl s

theorem moves_sampleExpired (v) (s : State) : Moves s (sampleExpired v s) := by
  unfold sampleExpired
  dsimp only
  refine (moves_updPower (fun p => { p with sample := some 1000 }) s).trans ?_
  split
  · exact moves_updateVoltage _ _
  · exact .refl _

/-! ### The store's reports -/

theorem moves_answerCommit (res data) (s : State) : Moves s (answerCommit res data s) := by
  unfold answerCommit
  split
  · exact .refl s
  · exact (moves_respond _ _ _ _ s).trans (moves_updMgmt _ _)

theorem moves_endWrite (s : State) : Moves s (endWrite s) := moves_updMgmt _ s

theorem moves_followOn (s : State) : Moves s (followOn s) := by
  unfold followOn
  split
  · exact (moves_updMgmt _ s).trans (moves_beginLearnWrite _)
  · exact .refl s

theorem moves_written (w) (s : State) : Moves s (written w s) := by
  refine Moves.trans (t := { s with store := _ }) ?_ (moves_closeKind _ _)
  exact .quiet rfl rfl rfl rfl

theorem moves_swapImage (w) (s : State) : Moves s (swapImage w s) := by
  unfold swapImage
  refine Moves.trans ?_ (moves_closeKind _ _)
  exact .quiet rfl rfl rfl rfl

theorem moves_swapBlocks (b) (s : State) : Moves s (swapBlocks b s) := by
  unfold swapBlocks
  dsimp only
  refine ((moves_stabilitySwap s).trans (moves_applySwap b _)).trans ?_
  split
  · exact moves_startChain _ _
  · exact .refl _

theorem moves_commitSucceeded (w) (s : State) : Moves s (commitSucceeded w s) := by
  unfold commitSucceeded
  dsimp only
  refine ((((moves_written w s).trans (moves_swapImage w _)).trans (moves_endWrite _)).trans
    (moves_answerCommit .done [] _)).trans ?_
  split
  · exact moves_swapBlocks _ _
  · exact .quiet rfl rfl rfl rfl

/-! ### The form of the queues follows the moves -/

theorem portsWf_of_moves {s t : State} (m : Moves s t) (h : PortsWf s) : PortsWf t := by
  induction m with
  | quiet hA hB _ _ => exact ⟨hA ▸ h.1, hB ▸ h.2⟩
  | enqueued p q x _ ih =>
    cases p with
    | A => exact ⟨portWf_enqueue ih.1 q _, ih.2⟩
    | B => exact ⟨ih.1, portWf_enqueue ih.2 q _⟩
  | opened k d _ ih => simpa [PortsWf] using ih
  | closed w _ ih => exact ih
  | after _ hA hB _ _ ih => exact ⟨hA ▸ ih.1, hB ▸ ih.2⟩

theorem portsWf_updPort {s : State} (h : PortsWf s) (p : Port) {f : PortState → PortState}
    (hf : ∀ ps, PortWf ps → PortWf (f ps)) : PortsWf (s.updPort p f) := by
  cases p with
  | A => exact ⟨hf _ h.1, h.2⟩
  | B => exact ⟨h.1, hf _ h.2⟩

theorem portsWf_elapse {s : State} (h : PortsWf s) (r : Nat) : PortsWf (elapse r s) :=
  ⟨portWf_presence h.1 _, portWf_presence h.2 _⟩

/-- An expiry keeps the form when its effect does. -/
theorem portsWf_onExpiry {s : State} (h : PortsWf s) (t : Timer) {f : State → State} (hf : ∀ e, PortsWf e → PortsWf (f e)) :
    PortsWf (onExpiry t f s) := by
  cases t with
  | none => exact h
  | some r => exact hf _ (portsWf_elapse h r)

/-- Every block at its start values: both ports are empty. -/
theorem portsWf_startBlocks (s : State) : PortsWf (startBlocks s) := ⟨portWf_start, portWf_start⟩

theorem portsWf_beginRestart (s : State) : PortsWf (beginRestart s) :=
  portsWf_of_moves (moves_enterRun _) (portsWf_startBlocks _)

theorem portsWf_triggerRestart {s : State} (h : PortsWf s) : PortsWf (triggerRestart s) := by
  unfold triggerRestart
  split
  · exact h
  · split
    · exact h
    · exact portsWf_beginRestart s

theorem portsWf_acceptRestart {s : State} (h : PortsWf s) (r : Request) : PortsWf (acceptRestart r s) := by
  have hq : PortsWf (enqueueRestart r (s.updMgmt fun m => { m with restartPending := true, restartTimer := some 200 })) :=
    portsWf_updPort (s := s.updMgmt _) h r.port fun _ hp => portWf_enqueue hp _ _
  unfold acceptRestart
  dsimp only
  split
  · exact hq
  · exact portsWf_triggerRestart hq

theorem portsWf_doRestart {s : State} (h : PortsWf s) (r : Request) : PortsWf (doRestart r s) := by
  have hi := portsWf_of_moves (moves_touchIdle s) h
  have hr : ∀ res, PortsWf (respond 12#8 r res [] (touchIdle s)) :=
    fun res => portsWf_of_moves (moves_respond _ r res _ _) hi
  unfold doRestart
  rcases manage_cases 12#8 0 false _ r s with ⟨_, e⟩ | ⟨_, _, _, e⟩ | ⟨_, _, _, e⟩ | ⟨_, _, _, e⟩ <;> rw [e]
  · exact h
  · exact hr _
  · exact hr _
  · split
    · exact portsWf_acceptRestart hi r
    · exact hr _

/-- CLEAR_INCIDENTS touches no port. -/
theorem portsWf_doClearIncidents {s : State} (h : PortsWf s) (r : Request) : PortsWf (doClearIncidents r s) := by
  have hi := portsWf_of_moves (moves_touchIdle s) h
  have hr : ∀ res {t}, PortsWf t → PortsWf (respond 11#8 r res [] t) :=
    fun res _ ht => portsWf_of_moves (moves_respond _ r res _ _) ht
  unfold doClearIncidents
  rcases manage_cases 11#8 0 false _ r s with ⟨_, e⟩ | ⟨_, _, _, e⟩ | ⟨_, _, _, e⟩ | ⟨_, _, _, e⟩ <;> rw [e]
  · exact h
  · exact hr _ hi
  · exact hr _ hi
  · split
    · exact hr .done (t := clearIncidents _) hi
    · exact hr _ hi

/-! ### The request of a code -/

/-- The MANAGEMENT consumer runs the command of the code (R161). -/
theorem takeRequest_exec (code : Byte) (r : Request) (s : State) :
    exec (requestOf code r) s = .next (takeRequest code r s) := by
  by_cases h1 : code = 1#8
  · subst h1; rfl
  by_cases h2 : code = 2#8
  · subst h2; rfl
  by_cases h3 : code = 3#8
  · subst h3; rfl
  by_cases h4 : code = 4#8
  · subst h4; rfl
  by_cases h5 : code = 5#8
  · subst h5; rfl
  by_cases h6 : code = 6#8
  · subst h6; rfl
  by_cases h7 : code = 7#8
  · subst h7; rfl
  by_cases h8 : code = 8#8
  · subst h8; rfl
  by_cases h9 : code = 9#8
  · subst h9; rfl
  by_cases h10 : code = 10#8
  · subst h10; rfl
  by_cases h11 : code = 11#8
  · subst h11; rfl
  by_cases h12 : code = 12#8
  · subst h12; rfl
  have hn : (requestsOf r).find? (fun p => p.1 = code) = none := by
    simp [requestsOf, eq_comm, *]
  unfold requestOf takeRequest
  rw [hn, if_neg h1, if_neg h2, if_neg h3, if_neg h4, if_neg h5, if_neg h6, if_neg h7, if_neg h8, if_neg h9, if_neg h10,
    if_neg h11, if_neg h12]
  rfl

/-- What holds after each of the twelve requests and after an unknown code holds after the request of any code. -/
theorem takeRequest_induction {P : State → Prop} {r : Request} {s : State} (code : Byte)
    (known : ∀ p ∈ requestsOf r, ∃ t, exec p.2 s = .next t ∧ P t) (unknown : P (doUnknown code r s)) :
    P (takeRequest code r s) := by
  have h := takeRequest_exec code r s
  unfold requestOf at h
  cases e : (requestsOf r).find? (fun p => p.1 = code) with
  | none =>
    rw [e] at h
    have hu : takeRequest code r s = doUnknown code r s := (Host.Outcome.next.inj h).symm
    rwa [hu]
  | some p =>
    rw [e] at h
    obtain ⟨t, ht, hp⟩ := known p (List.mem_of_find?_eq_some e)
    have : takeRequest code r s = t := Host.Outcome.next.inj (h.symm.trans ht)
    rwa [this]

/-- Every request keeps the form of the queues. -/
theorem portsWf_request {s : State} (h : PortsWf s) (r : Request) :
    ∀ p ∈ requestsOf r, ∃ t, exec p.2 s = .next t ∧ PortsWf t := by
  have hm : ∀ {t}, Moves s t → PortsWf t := fun m => portsWf_of_moves m h
  simp only [requestsOf, List.forall_mem_cons]
  exact ⟨⟨_, rfl, hm (moves_doIdentify r s)⟩, ⟨_, rfl, hm (moves_doRead r s)⟩, ⟨_, rfl, hm (moves_doEnterService r s)⟩,
    ⟨_, rfl, hm (moves_doLeaveService r s)⟩, ⟨_, rfl, hm (moves_doStage r s)⟩, ⟨_, rfl, hm (moves_doCommit r s)⟩,
    ⟨_, rfl, hm (moves_doDiscard r s)⟩, ⟨_, rfl, hm (moves_doLearnTyre r s)⟩, ⟨_, rfl, hm (moves_doCancelLearn r s)⟩,
    ⟨_, rfl, hm (moves_doServiceTest r s)⟩, ⟨_, rfl, portsWf_doClearIncidents h r⟩, ⟨_, rfl, portsWf_doRestart h r⟩,
    fun _ hp => (List.not_mem_nil hp).elim⟩

/-! ### Frames -/

theorem portsWf_handOff {s : State} (h : PortsWf s) (p f c) : PortsWf (handOff p f c s) := by
  unfold handOff
  split
  · split
    · exact portsWf_of_moves (moves_consumeDemand _ _ s) h
    · exact h
  · split
    · exact portsWf_of_moves (moves_discoverConsume _ _ s) h
    · exact h
  · split
    · unfold consumeRequest
      split
      · exact takeRequest_induction _ (portsWf_request h _) (portsWf_of_moves (moves_doUnknown _ _ s) h)
      · exact h
    · exact h
  · exact h
  · exact h

theorem portsWf_applyAction {s : State} (h : PortsWf s) (p f a o) : PortsWf (applyAction p f a o s) := by
  have hp : ∀ {t}, PortsWf t → PortsWf (applyPass p f a t) := fun ht => portsWf_of_moves (moves_applyPass p f a _) ht
  have hh : ∀ {t}, PortsWf t → PortsWf (applyHandOff p f a t) := by
    intro t ht
    unfold applyHandOff
    split
    · exact portsWf_handOff ht p f _
    · exact ht
  cases o with
  | passFirst => exact hh (hp h)
  | handOffFirst => exact hp (hh h)

theorem moves_startIfNew (p b) (s : State) : Moves s (startIfNew p b s) := by
  unfold startIfNew
  split
  · exact moves_startReports s
  · exact .refl s

theorem moves_hearWarn (p f) (s : State) : Moves s (hearWarn p f s) := by
  unfold hearWarn
  split
  · exact moves_updRelay _ s
  · exact .refl s

theorem portsWf_receiveFrame {s : State} (h : PortsWf s) (p f o) : PortsWf (receiveFrame p f o s) := by
  unfold receiveFrame
  split
  · have hr : PortsWf (receiveAt p s) := portsWf_updPort h p fun _ hp => portWf_receive hp _ _
    have hd : PortsWf (received p f s) := portsWf_of_moves ((moves_startIfNew p _ _).trans (moves_hearWarn p f _)) hr
    exact portsWf_applyAction (s := countHits _ _) hd p f _ o
  · exact h

theorem portsWf_presenceExpired {s : State} (h : PortsWf s) (p) : PortsWf (presenceExpired p s) := by
  have hl : PortsWf (s.updPort p PortState.lose) := portsWf_updPort h p fun _ hp => portWf_lose hp
  have ht : PortsWf (relayLoses p (s.updPort p PortState.lose)) := by
    cases p
    · exact portsWf_of_moves ((moves_unplace _).trans (moves_stopReports _)) hl
    · exact portsWf_of_moves (.quiet rfl rfl rfl rfl) hl
  unfold presenceExpired
  dsimp only
  split
  · exact portsWf_triggerRestart ht
  · exact ht

theorem portsWf_reportTransmitted {s : State} (h : PortsWf s) (p) : PortsWf (reportTransmitted p s) := by
  have ht : PortsWf (s.updPort p PortState.transmitted) := portsWf_updPort h p fun _ hp => portWf_transmitted hp
  unfold reportTransmitted
  dsimp only
  split
  · exact portsWf_triggerRestart ht
  · exact ht

/-! ### Leaving RUN, cold start, and the store's reports -/

/-- Leaving RUN up to the blocks that only drop what they hold: links, chain, wheels, load unit and demand are at rest, and
the composer, the stability unit, a learn and service mode follow. -/
def atRest (s : State) : State :=
  leaveComposer (leaveLoad (leaveWheel (stopChain (leaveLinks
    (s.updPower fun p => { p with state := .parkWatch, phase := .parked, settle := none })))))

theorem leaveRun_eq (s : State) :
    leaveRun s = endTests (leaveMgmt (endLearn (enterOff (reestablish (atRest s))))) := rfl

/-- What a link-power-off event does before the park watch or SLEEP is chosen: the sense is read and RUN is left (R178). -/
def turnedOff (v : Nat) (s : State) : State :=
  leaveRun (updateVoltage (min 400 v) (s.updPower fun p => { p with linkPower := false }))

theorem powerOff_eq (v : Nat) (s : State) :
    powerOff v s = if (turnedOff v s).active.tuning.parkWatch && !(turnedOff v s).power.low then
      (turnedOff v s).updPower fun p => { p with park := parkTimer (turnedOff v s) }
    else enterSleep (if (turnedOff v s).power.low then setLockout (turnedOff v s) else turnedOff v s) := rfl

/-- A cold start before the blocks start: time and incidents empty, the store loaded, both senses read (R183). -/
def coldLoaded (v : Nat) (link : Bool) (s : State) : State :=
  let u := loadStore { s with time := 0, incidents := [], store := interrupted s }
  { u with power := coldPower u v link }

theorem coldStart_eq (v : Nat) (link : Bool) (s : State) :
    coldStart v link s = if link then enterRun (startBlocks (coldLoaded v link s))
      else coldSleep (startBlocks (coldLoaded v link s)) := rfl

theorem portsWf_atRest {s : State} (h : PortsWf s) : PortsWf (atRest s) := by
  have hl : PortsWf (leaveLinks (s.updPower fun p => { p with state := .parkWatch, phase := .parked, settle := none })) :=
    ⟨portWf_leave h.1, portWf_leave h.2⟩
  have hm : ∀ t, Moves t (leaveComposer (leaveLoad (leaveWheel (stopChain t)))) := fun t =>
    ((moves_stopChain t).trans (.quiet (t := leaveLoad (leaveWheel (stopChain t))) rfl rfl rfl rfl)).trans
      (((moves_updComposer _ _).trans (moves_closeKind _ _)).trans (moves_closeKind _ _))
  exact portsWf_of_moves (hm _) hl

theorem moves_leaveMgmt (s : State) : Moves s (leaveMgmt s) := (moves_endService s).trans (moves_updMgmt _ _)

theorem portsWf_leaveRun {s : State} (h : PortsWf s) : PortsWf (leaveRun s) := by
  rw [leaveRun_eq]
  have m : Moves (atRest s) (leaveMgmt (endLearn (enterOff (reestablish (atRest s))))) :=
    (((moves_reestablish _).trans (moves_enterOff _)).trans (moves_endLearn _)).trans (moves_leaveMgmt _)
  exact portsWf_of_moves (m.trans (moves_endTests _)) (portsWf_atRest h)

theorem portsWf_powerOff {s : State} (h : PortsWf s) (v) : PortsWf (powerOff v s) := by
  have hl : PortsWf (turnedOff v s) :=
    portsWf_leaveRun (portsWf_of_moves ((moves_updPower _ s).trans (moves_updateVoltage _ _)) h)
  rw [powerOff_eq]
  split
  · exact portsWf_of_moves (moves_updPower _ _) hl
  · refine portsWf_of_moves (moves_enterSleep _) ?_
    split
    · exact portsWf_of_moves (moves_setLockout _) hl
    · exact hl

theorem portsWf_coldStart (v l) (s : State) : PortsWf (coldStart v l s) := by
  have hb := portsWf_startBlocks (coldLoaded v l s)
  rw [coldStart_eq]
  split
  · exact portsWf_of_moves (moves_enterRun _) hb
  · unfold coldSleep
    refine portsWf_of_moves (moves_enterSleep _) ?_
    split
    · exact portsWf_of_moves (moves_setLockout _) hb
    · exact hb

theorem portsWf_afterReport {s : State} (h : PortsWf s) : PortsWf (afterReport s) := by
  unfold afterReport
  split
  · exact portsWf_beginRestart s
  · exact portsWf_of_moves (moves_followOn s) h

theorem portsWf_writeSucceeded {s : State} (h : PortsWf s) : PortsWf (writeSucceeded s) := by
  unfold writeSucceeded
  split
  · exact h
  · refine portsWf_afterReport ?_
    split
    · exact portsWf_of_moves (moves_commitSucceeded _ s) h
    · exact portsWf_of_moves ((moves_written _ s).trans (moves_endWrite _)) h

theorem portsWf_writeFailed {s : State} (h : PortsWf s) : PortsWf (writeFailed s) := by
  unfold writeFailed
  split
  · exact h
  · refine portsWf_afterReport ?_
    have he : PortsWf (endWrite (spoilStore s)) := h
    split
    · exact portsWf_of_moves ((moves_answerCommit _ _ _).trans (moves_openIncident _ _ _)) he
    · exact portsWf_of_moves (moves_openIncident _ _ _) he

/-! ### Every command -/

theorem moves_testWindow (s : State) :
    Moves s (if s.stability.state = .test then abandonTest s else s.updStab fun u => { u with window := none }) := by
  split
  · exact moves_abandonTest s
  · exact moves_updStab _ s

/-- An expiry whose effect moves keeps the form. -/
theorem portsWf_expiry {s : State} (h : PortsWf s) (t : Timer) {f : State → State} (hf : ∀ e, Moves e (f e)) :
    PortsWf (onExpiry t f s) :=
  portsWf_onExpiry h t fun e he => portsWf_of_moves (hf e) he

/-- Every command keeps the form of the queues. -/
theorem portsWf_exec {s : State} (h : PortsWf s) (i : Instr) : ∃ t, exec i s = .next t ∧ PortsWf t := by
  have hm : ∀ {t}, Moves s t → PortsWf t := fun m => portsWf_of_moves m h
  cases i with
  | frameReceived p f o => exact ⟨_, rfl, portsWf_receiveFrame h p f o⟩
  | presenceTimerExpiry p => exact ⟨_, rfl, portsWf_onExpiry h _ fun _ he => portsWf_presenceExpired he p⟩
  | linkReportTransmitted p r =>
    refine ⟨_, rfl, ?_⟩
    split
    · exact portsWf_reportTransmitted h p
    · exact h
  | linkReportNotSent p r =>
    refine ⟨_, rfl, ?_⟩
    split
    · exact portsWf_updPort h p fun _ hp => portWf_notSent hp
    · exact h
  | discoveryTimerExpiry => exact ⟨_, rfl, portsWf_expiry h _ moves_discoveryExpired⟩
  | warnTimerExpiry => exact ⟨_, rfl, portsWf_expiry h _ moves_warnExpired⟩
  | statusTimerExpiry => exact ⟨_, rfl, portsWf_expiry h _ moves_statusExpired⟩
  | tyreTimerExpiry => exact ⟨_, rfl, portsWf_expiry h _ moves_tyreExpired⟩
  | periodTimerExpiry o => exact ⟨_, rfl, portsWf_expiry h _ (moves_periodExpired o)⟩
  | responseListReturn l o => exact ⟨_, rfl, hm (moves_listReturned l o s)⟩
  | stationaryTimerExpiry => exact ⟨_, rfl, portsWf_expiry h _ (moves_updWheel _)⟩
  | demandTimerExpiry => exact ⟨_, rfl, portsWf_expiry h _ fun e => (moves_updComposer _ e).trans (moves_reestablish _)⟩
  | testWindowExpiry => exact ⟨_, rfl, portsWf_expiry h _ moves_testWindow⟩
  | spacingTimerExpiry => exact ⟨_, rfl, portsWf_expiry h _ (moves_updStab _)⟩
  | recoverTimerExpiry => exact ⟨_, rfl, portsWf_expiry h _ moves_recovered⟩
  | telegramDelivered b => exact ⟨_, rfl, hm (moves_deliver b s)⟩
  | telegramTaken => exact ⟨_, rfl, hm (moves_takeTelegram s)⟩
  | missingTimerExpiry i =>
    refine ⟨_, rfl, ?_⟩
    split
    · exact portsWf_expiry h _ (moves_missingExpired i)
    · exact h
  | learnTimerExpiry => exact ⟨_, rfl, portsWf_expiry h _ moves_endLearn⟩
  | lampBlinkToggle => exact ⟨_, rfl, portsWf_expiry h _ (moves_updTyre _)⟩
  | identify r => exact ⟨_, rfl, hm (moves_doIdentify r s)⟩
  | read r => exact ⟨_, rfl, hm (moves_doRead r s)⟩
  | enterService r => exact ⟨_, rfl, hm (moves_doEnterService r s)⟩
  | leaveService r => exact ⟨_, rfl, hm (moves_doLeaveService r s)⟩
  | stage r => exact ⟨_, rfl, hm (moves_doStage r s)⟩
  | commit r => exact ⟨_, rfl, hm (moves_doCommit r s)⟩
  | discard r => exact ⟨_, rfl, hm (moves_doDiscard r s)⟩
  | clearIncidents r => exact ⟨_, rfl, portsWf_doClearIncidents h r⟩
  | learnTyre r => exact ⟨_, rfl, hm (moves_doLearnTyre r s)⟩
  | cancelLearn r => exact ⟨_, rfl, hm (moves_doCancelLearn r s)⟩
  | serviceTest r => exact ⟨_, rfl, hm (moves_doServiceTest r s)⟩
  | restart r => exact ⟨_, rfl, portsWf_doRestart h r⟩
  | unknownRequest c r => exact ⟨_, rfl, hm (moves_doUnknown c r s)⟩
  | serviceIdleTimerExpiry => exact ⟨_, rfl, portsWf_expiry h _ moves_endService⟩
  | restartDelayExpiry => exact ⟨_, rfl, portsWf_onExpiry h _ fun _ he => portsWf_triggerRestart he⟩
  | storeWriteSucceeded => exact ⟨_, rfl, portsWf_writeSucceeded h⟩
  | storeWriteFailed => exact ⟨_, rfl, portsWf_writeFailed h⟩
  | coldStart v l => exact ⟨_, rfl, portsWf_coldStart v l s⟩
  | linkPowerOff v =>
    refine ⟨_, rfl, ?_⟩
    split
    · exact portsWf_powerOff h v
    · exact h
  | linkPowerOn => exact ⟨_, rfl, hm (moves_powerOn s)⟩
  | settleTimerExpiry => exact ⟨_, rfl, portsWf_expiry h _ moves_settleExpired⟩
  | parkTimerExpiry => exact ⟨_, rfl, portsWf_expiry h _ moves_parkExpired⟩
  | wakeTimerExpiry => exact ⟨_, rfl, portsWf_expiry h _ moves_wakeExpired⟩
  | wakeLineAsserted => exact ⟨_, rfl, hm (moves_wakeLine s)⟩
  | listenTimerExpiry => exact ⟨_, rfl, portsWf_expiry h _ moves_listenExpired⟩
  | batterySampleTimerExpiry v => exact ⟨_, rfl, portsWf_expiry h _ (moves_sampleExpired v)⟩
  | serviceTestTimerExpiry c =>
    refine ⟨_, rfl, ?_⟩
    split
    · exact portsWf_expiry h _ (moves_endTest c)
    · exact h

/-- A condition that time and every command keep is kept by every step. -/
theorem step_keeps {P : State → Prop} (idle : ∀ s, P s → P (elapse 1 s)) (queue : ∀ s l, P s → P { s with pending := l })
    (command : ∀ s i, P s → ∃ t, exec i s = .next t ∧ P t) {s t : State} (h : P s) (e : step s = .next t) : P t := by
  unfold step at e
  split at e
  · cases e
    exact idle s h
  · next c rest _ =>
    obtain ⟨u, hu, hp⟩ := command _ c (queue s rest h)
    cases hu.symm.trans e
    exact hp

/-- Settles O4: enqueues, reports, flushes and receptions keep a port's form, and nothing else touches a port. -/
theorem stepKeepsTheQueues : Obligations.StepKeepsTheQueues := by
  unfold Obligations.StepKeepsTheQueues
  intro s t h e
  exact step_keeps (P := PortsWf) (fun _ h => portsWf_elapse h 1) (fun _ _ h => h) (fun _ i h => portsWf_exec h i) h e

end Sys2Proof.Machine
end

section
/-! PROOFS. The frames of the chain controller, the management unit, the store and the power controller, after those of
Laws/Frames.lean, and what their work leaves in the composer, the stability unit and a learn. -/

namespace Sys2Proof.Machine

variable {s t u : State} {L : List Part}

/-- A frame read for one part: the part is not among those changed. -/
theorem SameBut.at (h : SameBut L s t) (p : Part) (hp : p ∉ L) : s.agreeOn t p := h p hp

/-! ### The chain -/

theorem same_chainReset (s : State) : SameBut [.chain] s (chainReset s) := same_updChain _ s
theorem same_bindChain (s : State) : SameBut [.chain] s (bindChain s) := same_updChain _ s
theorem same_startPeriod (s : State) : SameBut [.chain] s (startPeriod s) := same_updChain _ s

theorem same_nodeIncident (n a b) (s : State) : SameBut [.incidents] s (nodeIncident n a b s) := by
  unfold nodeIncident
  split
  · exact same_openIncident _ _ s
  · split
    · exact same_closeIncident _ _ s
    · exact .refl _ s

theorem same_applyResponses (rs) (s : State) : SameBut [.incidents, .chain] s (applyResponses rs s) := by
  refine same_foldl _ (fun t n => ?_) _ s
  exact (same_updChain _ t).comp (same_nodeIncident _ _ _ _) (by decide) (by decide)

theorem same_moveGood (s : State) : SameBut [.incidents, .chain] s (moveGood s) := by
  unfold moveGood
  split
  · exact (same_updChain _ s).mono (by decide)
  · exact .refl _ s
  · split
    · exact (same_updChain _ s).comp (same_closeIncident _ _ _) (by decide) (by decide)
    · exact .refl _ s

theorem same_moveFailed (s : State) : SameBut [.incidents, .chain] s (moveFailed s) := by
  unfold moveFailed
  split
  · exact (same_updChain _ s).comp (same_openIncident _ _ _) (by decide) (by decide)
  · exact .refl _ s

/-- The chain's own part of a good session, before its completion. -/
theorem same_goodSession_chain (rs) (s : State) :
    SameBut [.incidents, .chain, .channels, .load] s (recompose (moveGood (countGood (applyResponses rs s)))) := by
  refine SameBut.comp (L := [.incidents, .chain]) ?_ (same_recompose _) (by decide) (by decide)
  exact ((same_applyResponses rs s).comp (N := [.incidents, .chain]) (same_updChain _ _) (by decide) (by decide)).trans
    (same_moveGood _)

/-- The chain's own part of a failed session, before its completion. -/
theorem same_failSession_chain (x) (s : State) :
    SameBut [.incidents, .chain, .channels, .load] s (recompose (moveFailed (countFailed x s))) :=
  ((same_updChain _ s).comp (N := [.incidents, .chain]) (same_moveFailed _) (by decide) (by decide)).comp
    (same_recompose _) (by decide) (by decide)

/-- The session number, the command list and the carried modes of a session that starts. -/
theorem same_sendCommands (s : State) : SameBut [.chain, .channels] s (sendCommands (numberSession s)) := by
  intro p hp; cases p <;> simp at hp <;> rfl

/-- A reinitialisation up to the re-establishment of the brake mode (R43, R79). -/
def reinitialised (s : State) : State :=
  setEmergency false (recompose (wheelReinit
    (closeKind .nodeDegraded (closeKind .chainFaulted (bindChain (chainReset s))))))

theorem same_wheelReinit (s : State) : SameBut [.wheel, .channels] s (wheelReinit s) :=
  (same_updWheel _ s).comp (same_mapChannels _ _) (by decide) (by decide)

theorem same_reinitialised (s : State) :
    SameBut [.incidents, .chain, .wheel, .channels, .load, .composer] s (reinitialised s) := by
  have hc : SameBut [.incidents, .chain] s (closeKind .nodeDegraded (closeKind .chainFaulted (bindChain (chainReset s)))) :=
    ((same_chainReset s).trans (same_bindChain _)).comp ((same_closeKind _ _).trans (same_closeKind _ _)) (by decide)
      (by decide)
  have hw := hc.comp (N := [.incidents, .chain, .wheel, .channels]) (same_wheelReinit _) (by decide) (by decide)
  exact (hw.comp (N := [.incidents, .chain, .wheel, .channels, .load]) (same_recompose _) (by decide) (by decide)).comp
    (same_setEmergency false _) (by decide) (by decide)

theorem same_stopChain (s : State) : SameBut [.incidents, .chain] s (stopChain s) := by
  intro p hp; cases p <;> simp at hp <;> rfl

/-! ### Management and the store -/

theorem same_touchIdle (s : State) : SameBut [.mgmt] s (touchIdle s) := by
  unfold touchIdle
  split
  · exact same_updMgmt _ s
  · exact .refl _ s

theorem same_written (w) (s : State) : SameBut [.incidents, .store] s (written w s) := by
  intro p hp; cases p <;> simp at hp <;> rfl

theorem same_holdSwap (b) (s : State) : SameBut [.unapplied] s (holdSwap b s) := by
  intro p hp; cases p <;> simp at hp <;> rfl

theorem same_startLearn (i fd) (s : State) : SameBut [.portA, .channels, .load, .tyre] s (startLearn i fd s) :=
  ((same_updTyre _ s).comp (N := [.portA, .tyre]) (same_setTyreState _ _ _) (by decide) (by decide)).comp
    (same_tyreSettle _) (by decide) (by decide)

theorem same_startTest (c p d) (s : State) : SameBut [.channels, .load] s (startTest c p d s) := by
  unfold startTest
  split
  · intro p hp; cases p <;> simp at hp <;> rfl
  · intro p hp; cases p <;> simp at hp <;> rfl

theorem same_driveLamp (s : State) : SameBut [.tyre] s (driveLamp s) := by
  unfold driveLamp
  dsimp only
  split
  · exact .refl _ s
  · exact same_updTyre _ s

theorem same_tyreSleep (s : State) : SameBut [.tyre] s (tyreSleep s) := (same_updTyre _ s).trans (same_driveLamp _)
theorem same_tyreWake (s : State) : SameBut [.tyre] s (tyreWake s) := (same_updTyre _ s).trans (same_driveLamp _)

theorem same_stabilitySwap (s : State) :
    SameBut [.incidents, .portA, .channels, .load, .stability] s (stabilitySwap s) := by
  unfold stabilitySwap
  dsimp only
  refine SameBut.comp (L := [.channels, .stability]) ?_ (same_testOff _) (by decide) (by decide)
  intro p hp; cases p <;> simp at hp <;> rfl

/-! ### A learn -/

@[simp] theorem driveLamp_learn (s : State) : (driveLamp s).tyre.learn = s.tyre.learn := by
  unfold driveLamp
  dsimp only
  split <;> rfl

@[simp] theorem tyreSettle_learn (s : State) : (tyreSettle s).tyre.learn = s.tyre.learn := driveLamp_learn s

@[simp] theorem setTyreState_learn (i st) (s : State) : (setTyreState i st s).tyre.learn = s.tyre.learn := by
  unfold setTyreState
  dsimp only
  split <;> rfl

theorem tyreIncidents_tyre (i a b) (s : State) : (tyreIncidents i a b s).tyre = s.tyre :=
  (same_tyreIncidents i a b s).at .tyre (by decide)

@[simp] theorem acceptTelegram_learn (i fd x) (s : State) : (acceptTelegram i fd x s).tyre.learn = s.tyre.learn := by
  unfold acceptTelegram
  dsimp only
  rw [tyreSettle_learn, setTyreState_learn]
  split
  · rw [closeIncident_tyre, tyreIncidents_tyre]
    rfl
  · rw [tyreIncidents_tyre]
    rfl

theorem endLearn_of_none (h : s.tyre.learn = none) : endLearn s = s := by
  unfold endLearn
  rw [h]

/-- After its end no learn runs (R158). -/
theorem endLearn_learn (s : State) : (endLearn s).tyre.learn = none := by
  unfold endLearn
  split
  · assumption
  · simp

theorem setAtSwap_of_none (h : s.tyre.learn = none) (i st) : setAtSwap i st s = setTyreState i st s := by
  unfold setAtSwap
  rw [h]

theorem clearAtSwap_learn (h : s.tyre.learn = none) (i st tm) : (clearAtSwap i st tm s).tyre.learn = none := by
  unfold clearAtSwap
  dsimp only
  have hl : (closeTyreIncidents i (s.updPosition i fun q => Position.cleared q.state tm)).tyre.learn = none := h
  rw [setAtSwap_of_none hl, setTyreState_learn, hl]

theorem reevaluate_learn (h : s.tyre.learn = none) (i) : (reevaluate i s).tyre.learn = none := by
  have hl : ∀ q, (tyreIncidents i (s.position i) q (s.updPosition i fun _ => q)).tyre.learn = none := by
    intro q
    rw [tyreIncidents_tyre]
    exact h
  unfold reevaluate
  dsimp only
  split
  · exact h
  · split
    · exact hl _
    · exact hl _
    · exact hl _
    · exact hl _
    · rw [setAtSwap_of_none (hl _), setTyreState_learn, hl]

theorem swapPosition_learn (h : s.tyre.learn = none) (b i) : (swapPosition b i s).tyre.learn = none := by
  have he : endLearnAt i s = s := by
    unfold endLearnAt
    rw [h]
  unfold swapPosition
  dsimp only
  rw [he]
  split
  · exact clearAtSwap_learn h _ _ _
  · split
    · exact clearAtSwap_learn h _ _ _
    · split
      · exact clearAtSwap_learn h _ _ _
      · exact reevaluate_learn h i

/-- A swap starts no learn (R159). -/
theorem tyreSwap_learn (h : s.tyre.learn = none) (b) : (tyreSwap b s).tyre.learn = none := by
  have hf : ∀ l : List Nat, ∀ s : State, s.tyre.learn = none →
      (l.foldl (fun s i => swapPosition b i s) s).tyre.learn = none := by
    intro l
    induction l with
    | nil => exact fun _ h => h
    | cons i l ih => exact fun _ h => ih _ (swapPosition_learn h b i)
  exact (tyreSettle_learn _).trans (hf _ s h)

/-! ### The composer and the stability unit -/

@[simp] theorem changeStab_stability (st) (s : State) : (changeStab st s).stability = { s.stability with state := st } := by
  simp [changeStab, originateStability]

theorem enterOff_of_off (h : s.stability.state = .off) : enterOff s = s := if_pos h

theorem enterOff_stability (h : s.stability.state ≠ .off) :
    (enterOff s).stability = { s.stability with
      state := .off, testChannels := [], window := none, spacing := none, recover := none, pendingTest := .none,
      inner := .none } := by
  unfold enterOff
  rw [if_neg h]
  simp only [recompose_stability, changeStab_stability]
  rfl

@[simp] theorem enterOff_state (s : State) : (enterOff s).stability.state = .off := by
  by_cases h : s.stability.state = .off
  · rw [enterOff_of_off h, h]
  · rw [enterOff_stability h]

theorem testOff_of_off (h : s.stability.state = .off) : testOff s = s := by
  unfold testOff
  split
  · exact enterOff_of_off h
  · rfl

/-- The re-establishment up to the stability unit's event (R101, R103, R106). -/
def remoded (s : State) : State :=
  recompose (demandLost s.composer.mode (brakeMode s)
    (s.updComposer fun c => { c with effective := effectiveDemand s, mode := brakeMode s }))

theorem reestablish_eq (s : State) :
    reestablish s = if s.composer.mode = brakeMode s then remoded s else testOff (remoded s) := rfl

theorem same_remoded (s : State) : SameBut [.incidents, .channels, .load, .composer] s (remoded s) :=
  ((same_updComposer _ s).comp (N := [.incidents, .composer]) (same_demandLost _ _ _) (by decide) (by decide)).comp
    (same_recompose _) (by decide) (by decide)

theorem remoded_composer (s : State) :
    (remoded s).composer = { s.composer with effective := effectiveDemand s, mode := brakeMode s } :=
  (same_demandLost _ _ _).at .composer (by decide)

/-- What a re-establishment gives the composer (R101, R103). -/
theorem reestablish_composer (s : State) :
    (reestablish s).composer = { s.composer with effective := effectiveDemand s, mode := brakeMode s } := by
  rw [reestablish_eq]
  split
  · exact remoded_composer s
  · exact ((same_testOff _).at .composer (by decide)).trans (remoded_composer s)

theorem reestablish_stability_of_off (h : s.stability.state = .off) : (reestablish s).stability = s.stability := by
  have hr : (remoded s).stability = s.stability := (same_remoded s).at .stability (by decide)
  rw [reestablish_eq]
  split
  · exact hr
  · rw [testOff_of_off (hr ▸ h), hr]

/-- A state whose waiting swap has been taken up. -/
def State.unheld (s : State) : State := { s with unapplied := none }

/-- A waiting swap is applied by the composer and then by the tyre unit (R88, R116, R159). -/
theorem applyHeld_some {b : Image} (h : s.unapplied = some b) : applyHeld s = tyreSwap b (reestablish s.unheld) := by
  unfold applyHeld
  rw [h]
  rfl

theorem applyHeld_stability_of_off (h : s.stability.state = .off) : (applyHeld s).stability = s.stability := by
  cases e : s.unapplied with
  | none => rw [applyHeld_none s e]
  | some b =>
    rw [applyHeld_some e]
    exact ((same_tyreSwap b _).at .stability (by decide)).trans (reestablish_stability_of_off (s := s.unheld) h)

/-- A waiting swap changes no demand (R88, R116). -/
theorem applyHeld_demand (s : State) :
    (applyHeld s).composer.demand = s.composer.demand ∧ (applyHeld s).composer.timer = s.composer.timer := by
  cases e : s.unapplied with
  | none =>
    rw [applyHeld_none s e]
    exact ⟨rfl, rfl⟩
  | some b =>
    have hc := ((same_tyreSwap b (reestablish s.unheld)).at .composer (by decide)).trans (reestablish_composer s.unheld)
    rw [applyHeld_some e, hc]
    exact ⟨rfl, rfl⟩

theorem applyHeld_learn (h : s.tyre.learn = none) : (applyHeld s).tyre.learn = none := by
  cases e : s.unapplied with
  | none => rwa [applyHeld_none s e]
  | some b =>
    rw [applyHeld_some e]
    refine tyreSwap_learn ?_ b
    rw [show (reestablish s.unheld).tyre = s.tyre from (same_reestablish _).at .tyre (by decide)]
    exact h

/-! ### The recover timer -/

/-- The recover timer runs in RECOVER alone (R137, R141). -/
def RecoverForm (s : State) : Prop := s.stability.recover ≠ none → s.stability.state = .recover

theorem recoverForm_of_none (h : s.stability.recover = none) : RecoverForm s := fun hr => absurd h hr

theorem RecoverForm.none_of_state (h : RecoverForm s) (hs : s.stability.state ≠ .recover) : s.stability.recover = none := by
  by_contra hr
  exact hs (h hr)

theorem RecoverForm.congr (h : RecoverForm s) (e : t.stability = s.stability) : RecoverForm t := by
  unfold RecoverForm
  rw [e]
  exact h

theorem recoverForm_enterOff (h : RecoverForm s) : RecoverForm (enterOff s) := by
  by_cases ho : s.stability.state = .off
  · rwa [enterOff_of_off ho]
  · exact recoverForm_of_none (by rw [enterOff_stability ho])

theorem recoverForm_testOff (h : RecoverForm s) : RecoverForm (testOff s) := by
  unfold testOff
  split
  · exact recoverForm_enterOff h
  · exact h

theorem acknowledgeTest_recover (side) (s : State) : (acknowledgeTest side s).stability.recover = s.stability.recover := by
  simp [acknowledgeTest]

theorem abandonTest_recover (s : State) : (abandonTest s).stability.recover = s.stability.recover := by
  simp [abandonTest, endTestPulse]

theorem intervene_recover (side) (s : State) : (intervene side s).stability.recover = none := by
  simp [intervene]

theorem enterRecover_state (s : State) : (enterRecover s).stability.state = .recover := by
  simp [enterRecover]

theorem moveTo_recover (st) (s : State) : (moveTo st s).stability.recover = s.stability.recover := by
  simp [moveTo]

theorem considerTest_recover (ay) (s : State) : (considerTest ay s).stability.recover = s.stability.recover := by
  unfold considerTest offerTest
  dsimp only
  split
  · rfl
  · split
    · split
      · exact acknowledgeTest_recover _ s
      · rfl
    · rfl

/-- An evaluation keeps the recover timer to RECOVER. -/
theorem recoverForm_evaluate (h : RecoverForm s) : RecoverForm (evaluate s) := by
  have keep : s.stability.state ≠ .recover → ∀ {t : State}, t.stability.recover = s.stability.recover → RecoverForm t :=
    fun hs _ e => recoverForm_of_none (e.trans (h.none_of_state hs))
  have gone : ∀ side (t : State), RecoverForm (intervene side t) :=
    fun side t => recoverForm_of_none (intervene_recover side t)
  unfold evaluate
  dsimp only
  split
  · exact recoverForm_enterOff h
  · split
    case h_1 e => exact keep (by simp [e]) (moveTo_recover _ s)
    case h_2 e =>
      split
      · exact gone _ _
      · split
        · exact keep (by simp [e]) (moveTo_recover _ s)
        · exact h
    case h_3 e =>
      split
      · exact gone _ _
      · split
        · exact keep (by simp [e]) (moveTo_recover _ s)
        · exact keep (by simp [e]) (considerTest_recover _ s)
    case h_4 e =>
      split
      · exact gone _ _
      · split
        · exact keep (by simp [e]) (abandonTest_recover s)
        · exact h
    case h_5 e =>
      split
      · exact h
      · exact fun _ => enterRecover_state s
    case h_6 e =>
      split
      · exact gone _ _
      · exact h

/-- The work on a state keeps the recover timer to RECOVER. -/
theorem recoverForm_workInState (h : RecoverForm s) : RecoverForm (workInState s) := by
  unfold workInState
  split
  case h_1 e =>
    have hr : (removeDegraded s).stability.recover = none := h.none_of_state (by simp [e])
    unfold workTest
    dsimp only
    split
    · exact recoverForm_of_none ((abandonTest_recover _).trans hr)
    · split
      · exact recoverForm_of_none (intervene_recover _ _)
      · exact recoverForm_of_none hr
  case h_2 e =>
    have hr : s.stability.recover = none := h.none_of_state (by simp [e])
    unfold workWatch
    dsimp only
    split
    · exact h
    · split
      · exact recoverForm_of_none hr
      · split
        · exact recoverForm_of_none ((acknowledgeTest_recover _ s).trans hr)
        · exact h
  all_goals exact h

theorem recoverForm_stabilityWork (b) (h : RecoverForm s) : RecoverForm (stabilityWork b s) := by
  have hw : RecoverForm (if b then evaluate (takeThreshold s) else testOff s) := by
    split
    · exact recoverForm_evaluate (s := takeThreshold s) h
    · exact recoverForm_testOff h
  have hf : ∀ t, RecoverForm t → RecoverForm (if t.stability.state = s.stability.state then workInState t else t) := by
    intro t ht
    split
    · exact recoverForm_workInState ht
    · exact ht
  exact hf _ hw

theorem recoverForm_reestablish (h : RecoverForm s) : RecoverForm (reestablish s) := by
  have hr : RecoverForm (remoded s) := h.congr ((same_remoded s).at .stability (by decide))
  rw [reestablish_eq]
  split
  · exact hr
  · exact recoverForm_testOff hr

theorem recoverForm_applyHeld (h : RecoverForm s) : RecoverForm (applyHeld s) := by
  cases e : s.unapplied with
  | none => rwa [applyHeld_none s e]
  | some b =>
    rw [applyHeld_some e]
    exact (recoverForm_reestablish (s := s.unheld) h).congr ((same_tyreSwap b _).at .stability (by decide))

theorem recoverForm_stabilitySwap (h : RecoverForm s) : RecoverForm (stabilitySwap s) :=
  recoverForm_testOff (s := (rethreshold s).mapChannels _) h

end Sys2Proof.Machine
end

section
/-! PROOFS. The two conditions a state may be in (R177 to R182): running, with link power and no swap waiting, and resting, with
everything at rest that R20, R60, R117, R141, R158, R162, R165 and R178 name. Every command keeps the part in one of them. -/

namespace Sys2Proof.Machine

variable {s t : State} {L : List Part}

/-! ### Running -/

/-- The part is in RUN: link power is present, no timer of the park watch runs, and no swap waits. -/
structure Running (s : State) : Prop where
  state    : s.power.state = .run
  link     : s.power.linkPower = true
  park     : s.power.park = none
  listen   : s.power.listen = none
  wake     : s.power.wake = none
  lockout  : s.power.lockout = false
  swap     : s.unapplied = none
  restart  : s.mgmt.restartDue = true → s.mgmt.restartPending = true
  recovers : RecoverForm s

theorem Running.inRun (h : Running s) : s.inRun = true := decide_eq_true h.state

theorem Running.powerWf (h : Running s) : PowerWf s where
  timers :=
    { run := by simp [h.state, h.link]
      settle := fun _ => h.state
      park := fun hp => absurd h.park hp
      listen := fun hp => absurd h.listen hp
      wake := fun hp => absurd h.wake hp
      lockout := fun hl => by simp [h.lockout] at hl
      swap := fun hu => absurd h.swap hu }
  rests := fun hr => absurd h.state hr
  restart := h.restart
  recovers := h.recovers

theorem PowerWf.running (h : PowerWf s) (e : s.power.state = .run) : Running s where
  state := e
  link := h.timers.run.mp e
  park := by
    by_contra hp
    exact absurd (h.timers.park hp).1 (by simp [e])
  listen := by
    by_contra hp
    exact absurd (h.timers.listen hp).1 (by simp [e])
  wake := by
    by_contra hp
    exact absurd (h.timers.wake hp) (by simp [e])
  lockout := by
    by_contra hp
    exact absurd (h.timers.lockout (by simpa using hp)).1 (by simp [e])
  swap := by
    by_contra hu
    exact h.timers.swap hu e
  restart := h.restart
  recovers := h.recovers

/-- What leaves the power controller, the waiting swap and the management unit alone and keeps the recover timer to RECOVER
leaves the part running. -/
theorem Running.of_same (h : Running s) (g : SameBut L s t) (hr : RecoverForm t)
    (hL : ∀ p ∈ [Part.power, .unapplied, .mgmt], p ∉ L) : Running t := by
  have hp : t.power = s.power := g .power (hL _ (by decide))
  have hu : t.unapplied = s.unapplied := g .unapplied (hL _ (by decide))
  have hm : t.mgmt = s.mgmt := g .mgmt (hL _ (by decide))
  refine ⟨?_, ?_, ?_, ?_, ?_, ?_, ?_, ?_, hr⟩
  all_goals simp only [hp, hu, hm]
  exacts [h.state, h.link, h.park, h.listen, h.wake, h.lockout, h.swap, h.restart]

/-- A change of none of the parts that RUN speaks of. -/
theorem Running.frame (h : Running s) (g : SameBut L s t)
    (hL : ∀ p ∈ [Part.power, .unapplied, .mgmt, .stability], p ∉ L) : Running t :=
  h.of_same g (h.recovers.congr (g .stability (hL _ (by decide)))) fun p hp =>
    hL p (show p ∈ [.power, .unapplied, .mgmt] ++ [Part.stability] from List.mem_append_left _ hp)

theorem Running.updMgmt (h : Running s) (f : Mgmt → Mgmt)
    (hf : (f s.mgmt).restartDue = true → (f s.mgmt).restartPending = true) : Running (s.updMgmt f) :=
  { h with restart := hf }

theorem Running.updPort (h : Running s) (p : Port) (f : PortState → PortState) : Running (s.updPort p f) :=
  h.frame (L := [.portA, .portB]) ((same_updPort p f s).mono (by cases p <;> decide)) (by decide)

theorem Running.elapse (h : Running s) (r : Nat) : Running (elapse r s) where
  state := h.state
  link := h.link
  park := by simp [Machine.elapse, h.park, runDown]
  listen := by simp [Machine.elapse, h.listen, runDown]
  wake := by simp [Machine.elapse, h.wake, runDown]
  lockout := h.lockout
  swap := h.swap
  restart := h.restart
  recovers := fun hr => h.recovers fun hn => hr (by simp [Machine.elapse, hn, runDown])

theorem running_onExpiry (h : Running s) (t : Timer) {f : State → State} (hf : ∀ e, Running e → Running (f e)) :
    Running (onExpiry t f s) := by
  cases t with
  | none => exact h
  | some r => exact hf _ (h.elapse r)

/-! ### The blocks in RUN -/

theorem running_reestablish (h : Running s) : Running (reestablish s) :=
  h.of_same (same_reestablish s) (recoverForm_reestablish h.recovers) (by decide)

theorem running_stabilityWork (b) (h : Running s) : Running (stabilityWork b s) :=
  h.of_same (same_stabilityWork b s) (recoverForm_stabilityWork b h.recovers) (by decide)

theorem running_endService (h : Running s) : Running (endService s) := by
  unfold endService
  split
  · exact (h.updMgmt _ h.restart).frame (same_endTests _) (by decide)
  · exact h

theorem running_motionEvent (h : Running s) : Running (motionEvent s) :=
  ((running_endService h).frame (same_endLearn _) (by decide)).frame (same_endTests _) (by decide)

theorem running_stage5 (fr) (h : Running s) : Running (stage5 s fr) := by
  have hw : ∀ f, Running (s.updWheel f) := fun f => h.frame (same_updWheel f s) (by decide)
  unfold stage5
  dsimp only
  split
  · split
    · exact running_motionEvent (hw _)
    · exact hw _
  · split
    · split
      · exact h
      · exact hw _
    · exact hw _

theorem running_wheelWork (fr b) (h : Running s) : Running (wheelWork fr b s) :=
  running_stage5 fr ((((h.frame (same_stage1 fr s) (by decide)).frame (same_stage2 b _) (by decide)).frame
    (same_stage3 fr _) (by decide)).frame (same_stage4 fr _) (by decide))

theorem running_judgeEmergency (fr) (h : Running s) : Running (judgeEmergency fr s) := by
  unfold judgeEmergency
  split
  · exact h.frame (same_setEmergency _ s) (by decide)
  · split
    · exact h
    · split
      · exact h.frame (same_setEmergency _ s) (by decide)
      · exact h

/-- In RUN a new voltage moves no power state (R177). -/
theorem updateVoltage_of_inRun (h : s.inRun = true) (v) : updateVoltage v s = s.updPower fun p =>
    { p with voltage := v, low := nextLow s.active.tuning.batteryLimit v s.power.low } := by
  unfold updateVoltage
  dsimp only
  rw [if_neg (by simp [h])]

theorem running_updateVoltage (v) (h : Running s) : Running (updateVoltage v s) := by
  rw [updateVoltage_of_inRun h.inRun]
  exact { h with }

theorem running_powerWork (fr) (h : Running s) : Running (powerWork fr s) := by
  unfold powerWork
  split
  · exact h
  · split
    · exact running_updateVoltage _ h
    · exact h

theorem running_complete (fr b o) (h : Running s) : Running (complete fr b o s) := by
  refine List.foldlRecOn _ _ h fun t ht k _ => ?_
  cases k with
  | wheel => exact running_wheelWork fr b ht
  | load => exact ht.frame (same_loadWork fr t) (by decide)
  | composer => exact running_reestablish (running_judgeEmergency fr ht)
  | stability => exact running_stabilityWork _ ht
  | power => exact running_powerWork fr ht

/-! ### The chain in RUN -/

theorem running_failSession (x o) (h : Running s) : Running (failSession x o s) :=
  running_complete _ _ o (h.frame (same_failSession_chain x s) (by decide))

theorem running_goodSession (rs o) (h : Running s) : Running (goodSession rs o s) :=
  running_complete _ _ o (h.frame (same_goodSession_chain rs s) (by decide))

theorem running_sessionStart (b) (h : Running s) : Running (sessionStart b s) := by
  refine Running.frame (s := if b || chainDiffers s then reinitialise s else bindChain s) ?_ (same_sendCommands _) (by decide)
  split
  · exact running_reestablish (h.frame (same_reinitialised s) (by decide))
  · exact h.frame (same_bindChain s) (by decide)

theorem running_startChain (b) (h : Running s) : Running (startChain b s) := by
  unfold startChain
  split
  · exact (running_sessionStart b h).frame (same_startPeriod _) (by decide)
  · exact h

theorem running_periodExpired (o) (h : Running s) : Running (periodExpired o s) := by
  have hp : Running (startPeriod s) := h.frame (same_startPeriod s) (by decide)
  have hf : Running (if (startPeriod s).chain.outstanding.isSome then failSession .noResponse o (startPeriod s)
      else startPeriod s) := by
    split
    · exact running_failSession _ o hp
    · exact hp
  have hs : ∀ t, Running t → Running (if t.active.chain.configured then sessionStart false t else t) := by
    intro t ht
    split
    · exact running_sessionStart _ ht
    · exact ht
  exact hs _ hf

theorem running_listReturned (l o) (h : Running s) : Running (listReturned l o s) := by
  unfold listReturned
  split
  · split
    · exact running_goodSession _ o h
    · exact running_failSession _ o h
  · exact h

/-! ### Tyres in RUN -/

theorem running_applyHeld (h : Running s) : Running (applyHeld s) := by
  rwa [applyHeld_none s h.swap]

theorem running_deliver (b) (h : Running s) : Running (deliver b s) := by
  have ha := running_applyHeld h
  unfold deliver
  split
  · exact h
  · dsimp only
    split
    · exact ha.frame (same_updTyre _ _) (by decide)
    · exact ha.frame (same_updTyre _ _) (by decide)

theorem running_storeLearned (h : Running s) : Running (storeLearned s) := by
  unfold storeLearned
  split
  · exact h.updMgmt _ h.restart
  · exact h.updMgmt _ h.restart

theorem running_completeLearn (l x) (h : Running s) : Running (completeLearn l x s) := by
  have hw : Running (writeLearned l.pos l.field x.id s) := { h with }
  have hs := running_storeLearned hw
  unfold completeLearn
  refine Running.frame ?_ (same_acceptTelegram _ _ _ _) (by decide)
  refine Running.frame ?_ (same_updTyre _ _) (by decide)
  refine Running.frame ?_ (same_closeTyreIncidents _ _) (by decide)
  exact hs.frame (same_updPosition _ _ _) (by decide)

theorem running_handleTelegram (x) (h : Running s) : Running (handleTelegram x s) := by
  unfold handleTelegram
  split
  · unfold offerLearn
    split
    · exact h
    · split
      · exact running_completeLearn _ x h
      · exact h
  · split
    · exact h
    · split
      · exact h
      · exact h.frame (same_acceptTelegram _ _ _ s) (by decide)

theorem running_takeTelegram (h : Running s) : Running (takeTelegram s) := by
  unfold takeTelegram
  split
  · exact h
  · exact running_handleTelegram _ ((running_applyHeld h).frame (same_updTyre _ _) (by decide))

theorem same_fallSilent (i) (s : State) : SameBut [.incidents, .portA, .channels, .load, .tyre] s (fallSilent i s) := by
  have hp : SameBut [.incidents, .portA, .channels, .load, .tyre] s (s.updPosition i fun q => { q with missing := none }) :=
    (same_updPosition _ _ s).mono (by decide)
  unfold fallSilent
  dsimp only
  refine hp.trans ?_
  split
  · unfold savedMissing
    split
    · exact .refl _ _
    · split
      · exact ((same_updTyre _ _).comp (N := [.incidents, .tyre]) (same_openIncident _ _ _) (by decide) (by decide)).comp
          (same_tyreSettle _) (by decide) (by decide)
      · exact .refl _ _
  · exact .refl _ _
  · exact ((same_setTyreState _ _ _).comp (N := [.incidents, .portA, .tyre]) (same_openIncident _ _ _) (by decide)
      (by decide)).comp (same_tyreSettle _) (by decide) (by decide)

theorem running_missingExpired (i) (h : Running s) : Running (missingExpired i s) := by
  have ha := running_applyHeld h
  unfold missingExpired
  dsimp only
  split
  · exact ha.frame (same_fallSilent i _) (by decide)
  · exact ha

/-! ### Entering RUN, starts and restarts -/

/-- Whatever the part was doing, entering RUN with link power leaves it running (R182). -/
theorem running_enterRun (hl : s.power.linkPower = true) (hm : s.mgmt.restartDue = true → s.mgmt.restartPending = true)
    (hr : RecoverForm s) : Running (enterRun s) := by
  have ha := same_applyHeld s
  have hc : Running (chainEntersRun (runPower (applyHeld s))) :=
    { state := rfl
      link := (congrArg (·.linkPower) (ha.at .power (by decide))).trans hl
      park := rfl
      listen := rfl
      wake := rfl
      lockout := rfl
      swap := applyHeld_unapplied s
      restart := fun hd => (congrArg (·.restartPending) (ha.at .mgmt (by decide))).trans
        (hm ((congrArg (·.restartDue) (ha.at .mgmt (by decide))).symm.trans hd))
      recovers := recoverForm_applyHeld hr }
  exact running_reestablish (hc.frame (same_setEmergency false _) (by decide))

/-- A restart of a part with link power ends in RUN (R171, R183). -/
theorem running_beginRestart (hl : s.power.linkPower = true) : Running (beginRestart s) := by
  have hp : (loadStore (closeAll s)).power = s.power := by
    unfold loadStore
    split <;> simp [closeAll]
  exact running_enterRun (s := startBlocks (loadStore (closeAll s))) ((congrArg (·.linkPower) hp).trans hl)
    (fun hd => Bool.noConfusion hd) (recoverForm_of_none rfl)

theorem running_triggerRestart (h : Running s) : Running (triggerRestart s) := by
  unfold triggerRestart
  split
  · exact h
  · next hp =>
    split
    · exact h.updMgmt _ fun _ => by simpa using hp
    · exact running_beginRestart h.link

/-! ### Frames in RUN -/

theorem same_unplace (s : State) : SameBut [.relay] s (unplace s) := same_updRelay _ s
theorem same_startReports (s : State) : SameBut [.relay] s (startReports s) := same_updRelay _ s
theorem same_stopReports (s : State) : SameBut [.relay] s (stopReports s) := same_updRelay _ s

theorem same_place (n) (s : State) : SameBut [.portB, .relay] s (place n s) :=
  (same_updRelay _ s).comp (same_originateDiscover _) (by decide) (by decide)

theorem same_discoverConsume (p d) (s : State) : SameBut [.incidents, .portB, .relay] s (discoverConsume p d s) := by
  unfold discoverConsume
  split
  · exact .refl _ s
  · dsimp only
    split
    · split
      · exact .refl _ s
      · exact (same_place _ s).comp (same_closeIncident _ _ _) (by decide) (by decide)
    · split
      · exact (same_unplace s).comp (same_openIncident _ _ _) (by decide) (by decide)
      · exact .refl _ s

theorem same_applyPass (p f a) (s : State) : SameBut [portPart (otherPort p)] s (applyPass p f a s) := by
  unfold applyPass
  split
  · exact same_enqueue _ _ _ s
  · exact .refl _ s

theorem portPart_mem (p : Port) : ∀ x ∈ [portPart p], x ∈ [Part.portA, .portB] := by
  cases p <;> decide

theorem same_startIfNew (p b) (s : State) : SameBut [.relay] s (startIfNew p b s) := by
  unfold startIfNew
  split
  · exact same_startReports s
  · exact .refl _ s

theorem same_hearWarn (p f) (s : State) : SameBut [.relay] s (hearWarn p f s) := by
  unfold hearWarn
  split
  · exact same_updRelay _ s
  · exact .refl _ s

/-- All that the port and the relay do at a reception, before the frame is classified (R1, R12, R15). -/
theorem same_received (p f) (s : State) : SameBut [portPart p, .relay] s (received p f s) := by
  have hr : SameBut [portPart p] s (receiveAt p s) := same_updPort p _ s
  have hn := (same_startIfNew p (s.port p).present (receiveAt p s)).trans (same_hearWarn p f _)
  exact hr.comp hn (by simp) (by simp)

theorem running_respond (code r res data) (h : Running s) : Running (respond code r res data s) :=
  h.updPort r.port (·.enqueue .general { frame := responseFrame s code r.tag r.origin res data, restart := false })

theorem running_touchIdle (h : Running s) : Running (touchIdle s) := by
  unfold touchIdle
  split
  · exact h.updMgmt _ h.restart
  · exact h

theorem running_manage {act : State → State} (hact : ∀ t, Running t → Running (act t)) (code need exempt r)
    (h : Running s) : Running (manage code need exempt act r s) := by
  have hi := running_touchIdle h
  rcases manage_cases code need exempt act r s with ⟨_, e⟩ | ⟨_, _, _, e⟩ | ⟨_, _, _, e⟩ | ⟨_, _, _, e⟩ <;> rw [e]
  · exact h
  · exact running_respond _ _ _ _ hi
  · exact running_respond _ _ _ _ hi
  · exact hact _ hi

theorem running_doEnterService (r) (h : Running s) : Running (doEnterService r s) := by
  refine running_manage (fun t ht => ?_) _ _ _ r h
  split
  · exact running_respond _ _ _ _ ht
  · refine running_respond _ _ _ _ ?_
    split
    · exact ht
    · exact ht.updMgmt _ ht.restart

theorem running_doLeaveService (r) (h : Running s) : Running (doLeaveService r s) := by
  refine running_manage (fun t ht => ?_) _ _ _ r h
  split
  · exact running_respond _ _ _ _ (running_endService ht)
  · exact running_respond _ _ _ _ ht

theorem running_doStage (r) (h : Running s) : Running (doStage r s) := by
  refine running_manage (fun t ht => ?_) _ _ _ r h
  split
  · exact running_respond _ _ _ _ ht
  · unfold stageShadow
    split
    · exact running_respond _ _ _ _ (ht.updMgmt _ ht.restart)
    · exact running_respond _ _ _ _ ht

theorem running_doCommit (r) (h : Running s) : Running (doCommit r s) := by
  refine running_manage (fun t ht => ?_) _ _ _ r h
  split
  · exact running_respond _ _ _ _ ht
  · split
    · exact running_respond _ _ _ _ ht
    · unfold commitShadow
      split
      · exact running_respond _ _ _ _ ht
      · exact ht.updMgmt _ ht.restart

theorem running_doDiscard (r) (h : Running s) : Running (doDiscard r s) := by
  refine running_manage (fun t ht => ?_) _ _ _ r h
  split
  · exact running_respond _ _ _ _ (ht.updMgmt _ ht.restart)
  · exact running_respond _ _ _ _ ht

theorem running_doClearIncidents (r) (h : Running s) : Running (doClearIncidents r s) := by
  refine running_manage (fun t ht => ?_) _ _ _ r h
  split
  · have hc : Running (clearIncidents t) := { ht with }
    exact running_respond _ _ _ _ hc
  · exact running_respond _ _ _ _ ht

theorem running_doLearnTyre (r) (h : Running s) : Running (doLearnTyre r s) := by
  refine running_manage (fun t ht => ?_) _ _ _ r h
  split
  · exact running_respond _ _ _ _ (ht.frame (same_startLearn _ _ t) (by decide))
  · exact running_respond _ _ _ _ ht

theorem running_doServiceTest (r) (h : Running s) : Running (doServiceTest r s) := by
  refine running_manage (fun t ht => ?_) _ _ _ r h
  split
  · exact running_respond _ _ _ _ (ht.frame (same_startTest _ _ _ t) (by decide))
  · exact running_respond _ _ _ _ ht

theorem running_acceptRestart (r) (h : Running s) : Running (acceptRestart r s) := by
  have hp : Running (s.updMgmt fun m => { m with restartPending := true, restartTimer := some 200 }) := h.updMgmt _ fun _ => rfl
  have hq : Running (enqueueRestart r (s.updMgmt fun m => { m with restartPending := true, restartTimer := some 200 })) :=
    hp.updPort _ _
  unfold acceptRestart
  dsimp only
  split
  · exact hq
  · exact running_triggerRestart hq

theorem running_doRestart (r) (h : Running s) : Running (doRestart r s) := by
  refine running_manage (fun t ht => ?_) _ _ _ r h
  split
  · exact running_acceptRestart r ht
  · exact running_respond _ _ _ _ ht

/-- Every request leaves the part running. -/
theorem running_request (h : Running s) (r : Request) : ∀ p ∈ requestsOf r, ∃ t, exec p.2 s = .next t ∧ Running t := by
  simp only [requestsOf, List.forall_mem_cons]
  exact ⟨⟨_, rfl, running_manage (fun _ ht => running_respond _ _ _ _ ht) _ _ _ r h⟩,
    ⟨_, rfl, running_manage (fun _ ht => running_respond _ _ _ _ ht) _ _ _ r h⟩,
    ⟨_, rfl, running_doEnterService r h⟩, ⟨_, rfl, running_doLeaveService r h⟩, ⟨_, rfl, running_doStage r h⟩,
    ⟨_, rfl, running_doCommit r h⟩, ⟨_, rfl, running_doDiscard r h⟩, ⟨_, rfl, running_doLearnTyre r h⟩,
    ⟨_, rfl, running_manage (fun _ ht => running_respond _ _ _ _ (ht.frame (same_endLearn _) (by decide))) _ _ _ r h⟩,
    ⟨_, rfl, running_doServiceTest r h⟩, ⟨_, rfl, running_doClearIncidents r h⟩, ⟨_, rfl, running_doRestart r h⟩,
    fun _ hp => (List.not_mem_nil hp).elim⟩

theorem running_doUnknown (code r) (h : Running s) : Running (doUnknown code r s) := by
  unfold doUnknown
  split
  · exact running_respond _ _ _ _ h
  · exact h

theorem running_consumeDemand (p d) (h : Running s) : Running (consumeDemand p d s) := by
  unfold consumeDemand
  split
  · exact h
  · exact running_reestablish (h.frame (same_updComposer _ s) (by decide))

theorem running_handOff (p f c) (h : Running s) : Running (handOff p f c s) := by
  unfold handOff
  split
  · split
    · exact running_consumeDemand _ _ h
    · exact h
  · split
    · exact h.frame (same_discoverConsume _ _ s) (by decide)
    · exact h
  · split
    · unfold consumeRequest
      split
      · exact takeRequest_induction _ (running_request h _) (running_doUnknown _ _ h)
      · exact h
    · exact h
  · exact h
  · exact h

theorem running_applyAction (p f a o) (h : Running s) : Running (applyAction p f a o s) := by
  have hp : ∀ {t}, Running t → Running (applyPass p f a t) :=
    fun {t} ht => ht.frame (L := [.portA, .portB]) ((same_applyPass p f a t).mono (portPart_mem _)) (by decide)
  have hh : ∀ {t}, Running t → Running (applyHandOff p f a t) := by
    intro t ht
    unfold applyHandOff
    split
    · exact running_handOff p f _ ht
    · exact ht
  cases o with
  | passFirst => exact hh (hp h)
  | handOffFirst => exact hp (hh h)

theorem running_receiveFrame (p f o) (h : Running s) : Running (receiveFrame p f o s) := by
  unfold receiveFrame
  split
  · have hr : Running (received p f s) :=
      h.frame (L := [.portA, .portB, .relay]) ((same_received p f s).mono (by cases p <;> decide)) (by decide)
    exact running_applyAction p f _ o (hr.frame (same_countHits _ _) (by decide))
  · exact h

theorem running_presenceExpired (p) (h : Running s) : Running (presenceExpired p s) := by
  have ht : Running (relayLoses p (s.updPort p PortState.lose)) := by
    cases p
    · exact ((h.updPort .A _).frame (same_unplace _) (by decide)).frame (same_stopReports _) (by decide)
    · exact (h.updPort .B _).frame (t := relayLoses .B (s.updPort .B PortState.lose)) (same_updRelay _ _) (by decide)
  unfold presenceExpired
  dsimp only
  split
  · exact running_triggerRestart ht
  · exact ht

theorem running_reportTransmitted (p) (h : Running s) : Running (reportTransmitted p s) := by
  unfold reportTransmitted
  dsimp only
  split
  · exact running_triggerRestart (h.updPort p _)
  · exact h.updPort p _

/-! ### The store's reports in RUN -/

theorem running_answerCommit (res data) (h : Running s) : Running (answerCommit res data s) := by
  unfold answerCommit
  split
  · exact h
  · next q _ =>
    have hq := running_respond 6#8 { port := q.port, origin := q.origin, tag := q.tag, args := [] } res data h
    exact hq.updMgmt _ hq.restart

theorem running_endWrite (h : Running s) : Running (endWrite s) := h.updMgmt _ h.restart

theorem running_swapBlocks (b) (h : Running s) : Running (swapBlocks b s) := by
  have hs : Running (stabilitySwap s) := h.of_same (same_stabilitySwap s) (recoverForm_stabilitySwap h.recovers) (by decide)
  have ha : Running (applySwap b (stabilitySwap s)) := (running_reestablish hs).frame (same_tyreSwap b _) (by decide)
  unfold swapBlocks
  dsimp only
  split
  · exact running_startChain _ ha
  · exact ha

theorem running_commitSucceeded (w) (h : Running s) : Running (commitSucceeded w s) := by
  have hw : Running (written w s) := h.frame (same_written w s) (by decide)
  have hs : Running (swapImage w (written w s)) := { hw with }
  unfold commitSucceeded
  dsimp only
  rw [if_pos h.inRun]
  exact running_swapBlocks _ (running_answerCommit _ _ (running_endWrite hs))

theorem running_followOn (h : Running s) : Running (followOn s) := by
  unfold followOn
  split
  · have hf : Running (s.updMgmt fun m => { m with followOn := false }) := h.updMgmt _ h.restart
    exact hf.updMgmt _ hf.restart
  · exact h

theorem running_afterReport (h : Running s) : Running (afterReport s) := by
  unfold afterReport
  split
  · exact running_beginRestart h.link
  · exact running_followOn h

theorem running_writeSucceeded (h : Running s) : Running (writeSucceeded s) := by
  unfold writeSucceeded
  split
  · exact h
  · refine running_afterReport ?_
    split
    · exact running_commitSucceeded _ h
    · exact running_endWrite (h.frame (same_written _ s) (by decide))

theorem running_writeFailed (h : Running s) : Running (writeFailed s) := by
  unfold writeFailed
  split
  · exact h
  · have hs : Running (spoilStore s) := { h with }
    have he := running_endWrite hs
    refine running_afterReport ?_
    split
    · exact (running_answerCommit _ _ he).frame (same_openIncident _ _ _) (by decide)
    · exact he.frame (same_openIncident _ _ _) (by decide)

end Sys2Proof.Machine
end

section
/-! PROOFS. The part at rest: what its commands can do out of RUN, and that every step keeps the power states. -/

namespace Sys2Proof.Machine

variable {s t : State} {L : List Part}

/-! ### Presence and the moves -/

/-- Nothing that moves frames and incidents makes a partner present or absent. -/
theorem Moves.presence (m : Moves s t) (p : Port) :
    (t.port p).present = (s.port p).present ∧ (t.port p).presence = (s.port p).presence := by
  induction m with
  | quiet hA hB _ _ => cases p <;> simp [*]
  | enqueued q c x _ ih =>
    refine Eq.trans ?_ ih.1 |> fun h1 => ⟨h1, Eq.trans ?_ ih.2⟩ <;> cases p <;> cases q <;> simp [enqueue]
  | opened k d _ ih => cases p <;> simpa using ih
  | closed w _ ih => exact ih
  | after _ hA hB _ _ ih => cases p <;> simpa [hA, hB] using ih

theorem PortRests.of_moves {p : Port} (h : PortRests (s.port p)) (m : Moves s t) : PortRests (t.port p) :=
  ⟨(m.presence p).1.trans h.1, (m.presence p).2.trans h.2⟩

/-! ### Resting -/

/-- The part is out of RUN with everything at rest; its power timers are left open. -/
structure Dormant (s : State) : Prop where
  out     : s.power.state ≠ .run
  link    : s.power.linkPower = false
  settle  : s.power.settle = none
  rests   : Rests s
  recover : s.stability.recover = none

/-- The part is out of RUN with everything at rest and the power timers in their states (R177 to R181). -/
structure Resting (s : State) : Prop extends Dormant s where
  park    : s.power.park ≠ none → s.power.state = .parkWatch ∧ s.power.phase = .parked
  listen  : s.power.listen ≠ none → s.power.state = .parkWatch ∧ s.power.phase = .listening
  wake    : s.power.wake ≠ none → s.power.state = .sleep
  lockout : s.power.lockout = true → s.power.state = .sleep ∧ s.power.wake = none ∧ s.power.sample = none

theorem Resting.powerWf (h : Resting s) : PowerWf s where
  timers :=
    { run := by simp [h.out, h.link]
      settle := fun hp => absurd h.settle hp
      park := h.park
      listen := h.listen
      wake := h.wake
      lockout := h.lockout
      swap := fun _ => h.out }
  rests := fun _ => h.rests
  restart := by simp [h.rests.restart]
  recovers := fun hr => absurd h.recover hr

theorem PowerWf.resting (h : PowerWf s) (e : s.power.state ≠ .run) : Resting s where
  out := e
  link := by simpa [e] using h.timers.run
  settle := by
    by_contra hp
    exact e (h.timers.settle hp)
  rests := h.rests e
  recover := RecoverForm.none_of_state h.recovers (by simp [(h.rests e).stability])
  park := h.timers.park
  listen := h.timers.listen
  wake := h.timers.wake
  lockout := h.timers.lockout

theorem Dormant.inRun (h : Dormant s) : s.inRun = false := by
  simpa [State.inRun] using h.out

/-- The part stays dormant where it only moves frames and incidents and rewrites what rests for nothing. -/
theorem Dormant.of_moves (h : Dormant s) (m : Moves s t) (hp : t.power = s.power) (hr : t.relay = s.relay)
    (hc : t.chain = s.chain) (hm : t.mgmt = s.mgmt)
    (hd : t.composer.demand = s.composer.demand ∧ t.composer.timer = s.composer.timer)
    (hs : t.stability.state = .off ∧ t.stability.recover = none) (hl : t.tyre.learn = none) : Dormant t where
  out := hp ▸ h.out
  link := hp ▸ h.link
  settle := hp ▸ h.settle
  rests :=
    { portA := PortRests.of_moves (p := .A) h.rests.portA m
      portB := PortRests.of_moves (p := .B) h.rests.portB m
      own := hr ▸ h.rests.own
      timers := hr ▸ h.rests.timers
      chain := hc ▸ h.rests.chain
      demand := ⟨hd.1.trans h.rests.demand.1, hd.2.trans h.rests.demand.2⟩
      stability := hs.1
      learn := hl
      service := hm ▸ h.rests.service
      restart := hm ▸ h.rests.restart }
  recover := hs.2

/-- A change of none of the parts that rest, but of frames, incidents and tyres. -/
theorem Dormant.frame (h : Dormant s) (m : Moves s t) (g : SameBut L s t) (hl : t.tyre.learn = none)
    (hL : ∀ p ∈ [Part.power, .relay, .chain, .mgmt, .composer, .stability], p ∉ L) : Dormant t := by
  have hc : t.composer = s.composer := g .composer (hL _ (by decide))
  have hs : t.stability = s.stability := g .stability (hL _ (by decide))
  exact h.of_moves m (g .power (hL _ (by decide))) (g .relay (hL _ (by decide))) (g .chain (hL _ (by decide)))
    (g .mgmt (hL _ (by decide))) (by simp [hc]) (by simp [hs, h.rests.stability, h.recover]) hl

/-- The power timers stand as they stood. -/
theorem Resting.of_dormant (h : Resting s) (d : Dormant t) (hp : t.power = s.power) : Resting t where
  toDormant := d
  park := hp ▸ h.park
  listen := hp ▸ h.listen
  wake := hp ▸ h.wake
  lockout := hp ▸ h.lockout

theorem Resting.frame (h : Resting s) (m : Moves s t) (g : SameBut L s t) (hl : t.tyre.learn = none)
    (hL : ∀ p ∈ [Part.power, .relay, .chain, .mgmt, .composer, .stability], p ∉ L) : Resting t :=
  h.of_dormant (h.toDormant.frame m g hl hL) (g .power (hL _ (by decide)))

theorem runDown_eq_none {r : Nat} {t : Timer} : runDown r t = none ↔ t = none := by
  cases t <;> simp [runDown]

theorem PortRests.elapse {ps : PortState} (h : PortRests ps) (r : Nat) :
    PortRests { ps with presence := runDown r ps.presence } := ⟨h.1, runDown_eq_none.mpr h.2⟩

theorem Rests.elapse (h : Rests s) (r : Nat) : Rests (elapse r s) where
  portA := h.portA.elapse r
  portB := h.portB.elapse r
  own := h.own
  timers := by simpa [Machine.elapse, runDown_eq_none] using h.timers
  chain := by simpa [Machine.elapse, runDown_eq_none] using h.chain
  demand := by simpa [Machine.elapse, runDown_eq_none] using h.demand
  stability := h.stability
  learn := by simpa [Machine.elapse] using h.learn
  service := h.service
  restart := h.restart

theorem Resting.elapse (h : Resting s) (r : Nat) : Resting (elapse r s) where
  out := h.out
  link := h.link
  settle := runDown_eq_none.mpr h.settle
  rests := h.rests.elapse r
  recover := runDown_eq_none.mpr h.recover
  park := fun hp => h.park fun hn => hp (runDown_eq_none.mpr hn)
  listen := fun hp => h.listen fun hn => hp (runDown_eq_none.mpr hn)
  wake := fun hp => h.wake fun hn => hp (runDown_eq_none.mpr hn)
  lockout := fun hl => ⟨(h.lockout hl).1, runDown_eq_none.mpr (h.lockout hl).2.1, runDown_eq_none.mpr (h.lockout hl).2.2⟩

theorem resting_onExpiry (h : Resting s) (t : Timer) {f : State → State} (hf : ∀ e, Resting e → Resting (f e)) :
    Resting (onExpiry t f s) := by
  cases t with
  | none => exact h
  | some r => exact hf _ (h.elapse r)

theorem Resting.updPort (h : Resting s) (p : Port) (f : PortState → PortState)
    (hf : ∀ ps, (f ps).present = ps.present ∧ (f ps).presence = ps.presence) : Resting (s.updPort p f) := by
  have hr : ∀ ps, PortRests ps → PortRests (f ps) := fun ps hp => ⟨(hf ps).1.trans hp.1, (hf ps).2.trans hp.2⟩
  cases p with
  | A => exact { h with rests := { h.rests with portA := hr _ h.rests.portA } }
  | B => exact { h with rests := { h.rests with portB := hr _ h.rests.portB } }

/-! ### Power timers -/

theorem Dormant.updPower (h : Dormant s) {f : Power → Power} (out : (f s.power).state ≠ .run)
    (link : (f s.power).linkPower = false) (settle : (f s.power).settle = none) : Dormant (s.updPower f) where
  out := out
  link := link
  settle := settle
  rests := { h.rests with }
  recover := h.recover

theorem dormant_applyHeld (h : Dormant s) : Dormant (applyHeld s) := by
  have g := same_applyHeld s
  have hs := applyHeld_stability_of_off h.rests.stability
  exact h.of_moves (moves_applyHeld s) (g.at .power (by decide)) (g.at .relay (by decide)) (g.at .chain (by decide))
    (g.at .mgmt (by decide)) (applyHeld_demand s)
    (by rw [hs]; exact ⟨h.rests.stability, h.recover⟩) (applyHeld_learn h.rests.learn)

theorem resting_applyHeld (h : Resting s) : Resting (applyHeld s) :=
  h.of_dormant (dormant_applyHeld h.toDormant) ((same_applyHeld s).at .power (by decide))

theorem tyreSleep_learn (s : State) : (tyreSleep s).tyre.learn = s.tyre.learn := driveLamp_learn _
theorem tyreWake_learn (s : State) : (tyreWake s).tyre.learn = s.tyre.learn := driveLamp_learn _

/-- The power controller on going to SLEEP (R180). -/
theorem enterSleep_power (s : State) : (enterSleep s).power =
    { s.power with state := .sleep, park := none, listen := none, wake := if s.power.lockout then none else some 600000 } := by
  have h : (applyHeld s).power = s.power := (same_applyHeld s).at .power (by decide)
  unfold enterSleep
  rw [show (tyreSleep _).power = _ from (same_tyreSleep _).at .power (by decide), updPower_power, h]

theorem dormant_enterSleep (h : Dormant s) : Dormant (enterSleep s) := by
  have ha := dormant_applyHeld h
  have hu : Dormant ((applyHeld s).updPower fun p =>
      { p with state := .sleep, park := none, listen := none, wake := if p.lockout then none else some 600000 }) :=
    ha.updPower (fun hr => PowerState.noConfusion hr) ha.link ha.settle
  exact hu.frame (moves_tyreSleep _) (same_tyreSleep _) ((tyreSleep_learn _).trans hu.rests.learn) (by decide)

/-- A dormant part goes to SLEEP; under the lockout the sample timer has stopped before (R177, R180). -/
theorem resting_enterSleep (h : Dormant s) (hl : s.power.lockout = true → s.power.sample = none) : Resting (enterSleep s) := by
  refine { toDormant := dormant_enterSleep h, park := ?_, listen := ?_, wake := ?_, lockout := ?_ }
  all_goals rw [enterSleep_power]
  · exact fun hp => absurd rfl hp
  · exact fun hp => absurd rfl hp
  · exact fun _ => rfl
  · exact fun hk => ⟨rfl, if_pos hk, hl hk⟩

theorem setLockout_power (s : State) : (setLockout s).power = { s.power with lockout := true, wake := none, sample := none } := rfl

theorem dormant_setLockout (h : Dormant s) : Dormant (setLockout s) := h.updPower h.out h.link h.settle

/-- A new voltage out of RUN: the flag's setting locks the part out in SLEEP (R177). -/
theorem resting_updateVoltage (v) (h : Resting s) : Resting (updateVoltage v s) := by
  have hu : Resting (s.updPower fun p =>
      { p with voltage := v, low := nextLow s.active.tuning.batteryLimit v s.power.low }) :=
    { h with toDormant := h.toDormant.updPower h.out h.link h.settle }
  unfold updateVoltage
  dsimp only
  split
  · split
    · next e =>
      exact
        { toDormant := dormant_setLockout hu.toDormant
          park := hu.park
          listen := hu.listen
          wake := fun hw => absurd rfl hw
          lockout := fun _ => ⟨e, rfl, rfl⟩ }
    · exact resting_enterSleep (dormant_setLockout hu.toDormant) fun _ => rfl
  · exact hu

/-- The sample timer runs only without the lockout, so its restart leaves the lockout's timers alone (R177). -/
theorem resting_sampleExpired (v) (h : Resting s) (hs : s.power.sample ≠ none) : Resting (sampleExpired v s) := by
  have hu : Resting (s.updPower fun p => { p with sample := some 1000 }) :=
    { h with
      toDormant := h.toDormant.updPower h.out h.link h.settle
      lockout := fun hl => absurd (h.lockout hl).2.2 hs }
  unfold sampleExpired
  dsimp only
  split
  · exact resting_updateVoltage _ hu
  · exact hu

theorem resting_stopPark (h : Resting s) : Resting (s.updPower fun p => { p with park := none }) :=
  { h with
    toDormant := h.toDormant.updPower h.out h.link h.settle
    park := fun hp => absurd rfl hp }

theorem resting_stopListen (h : Resting s) : Resting (s.updPower fun p => { p with listen := none }) :=
  { h with
    toDormant := h.toDormant.updPower h.out h.link h.settle
    listen := fun hp => absurd rfl hp }

theorem Resting.unlocked (h : Resting s) (e : s.power.state = .parkWatch) : s.power.lockout = true → s.power.sample = none := by
  intro hl
  exact absurd (h.lockout hl).1 (by simp [e])

theorem resting_parkExpired (h : Resting s) : Resting (parkExpired s) := by
  unfold parkExpired
  split
  · exact resting_stopPark h
  · next hw =>
    obtain ⟨hs, hp⟩ : s.power.state = .parkWatch ∧ s.power.phase = .parked := by simpa using hw
    split
    · exact
        { h with
          toDormant := h.toDormant.updPower h.out h.link h.settle
          park := fun _ => ⟨hs, hp⟩ }
    · exact resting_enterSleep (resting_stopPark h).toDormant (h.unlocked hs)

theorem resting_listenExpired (h : Resting s) : Resting (listenExpired s) := by
  unfold listenExpired
  split
  · exact resting_stopListen h
  · next hw =>
    obtain ⟨hs, hp⟩ : s.power.state = .parkWatch ∧ s.power.phase = .listening := by simpa using hw
    split
    · exact
        { h with
          toDormant := h.toDormant.updPower h.out h.link h.settle
          park := fun _ => ⟨hs, rfl⟩
          listen := fun hl => absurd rfl hl }
    · exact resting_enterSleep (resting_stopListen h).toDormant (h.unlocked hs)

/-- A part that wakes to listen has no other timer running (R180). -/
theorem resting_startListening (h : Resting s) (hs : s.power.state = .sleep) (hl : s.power.lockout = false) :
    Resting (startListening s) := by
  have hp : (applyHeld s).power = s.power := (same_applyHeld s).at .power (by decide)
  have ha := resting_applyHeld h
  have hpark : s.power.park = none := by
    by_contra hn
    exact absurd (h.park hn).1 (by simp [hs])
  have hu : Resting ((applyHeld s).updPower fun p =>
      { p with state := .parkWatch, phase := .listening, wake := none, listen := some 60000 }) :=
    { toDormant := ha.toDormant.updPower (fun hr => PowerState.noConfusion hr) ha.link ha.settle
      park := fun hn => absurd ((congrArg (·.park) hp).trans hpark) hn
      listen := fun _ => ⟨rfl, rfl⟩
      wake := fun hw => absurd rfl hw
      lockout := fun hk => absurd ((congrArg (·.lockout) hp).symm.trans hk) (by simp [hl]) }
  exact hu.frame (moves_tyreWake _) (same_tyreWake _) ((tyreWake_learn _).trans hu.rests.learn) (by decide)

theorem resting_wakeExpired (h : Resting s) (hw : s.power.wake ≠ none) : Resting (wakeExpired s) := by
  have hl : s.power.lockout = false := by
    by_contra hk
    exact hw (h.lockout (by simpa using hk)).2.1
  unfold wakeExpired
  rw [if_pos (h.wake hw)]
  exact resting_startListening h (h.wake hw) hl

theorem resting_wakeLine (h : Resting s) : Resting (wakeLine s) := by
  unfold wakeLine
  split
  · next hw =>
    obtain ⟨hs, hl⟩ : s.power.state = .sleep ∧ s.power.lockout = false := by simpa using hw
    exact resting_startListening h hs hl
  · exact h

/-! ### Tyres out of RUN -/

theorem resting_updTyre (h : Resting s) (f : Tyre → Tyre) (hf : (f s.tyre).learn = s.tyre.learn) : Resting (s.updTyre f) :=
  h.frame (moves_updTyre f s) (same_updTyre f s) (hf.trans h.rests.learn) (by decide)

theorem resting_deliver (b) (h : Resting s) : Resting (deliver b s) := by
  have ha := resting_applyHeld h
  unfold deliver
  split
  · exact h
  · dsimp only
    split
    · exact resting_updTyre ha _ rfl
    · refine resting_updTyre ha _ ?_
      split <;> rfl

theorem resting_handleTelegram (x) (h : Resting s) : Resting (handleTelegram x s) := by
  unfold handleTelegram
  split
  · unfold offerLearn
    rw [h.rests.learn]
    exact h
  · split
    · exact h
    · split
      · exact h
      · exact h.frame (moves_acceptTelegram _ _ _ s) (same_acceptTelegram _ _ _ s)
          ((acceptTelegram_learn _ _ _ s).trans h.rests.learn) (by decide)

theorem resting_takeTelegram (h : Resting s) : Resting (takeTelegram s) := by
  unfold takeTelegram
  split
  · exact h
  · exact resting_handleTelegram _ (resting_updTyre (resting_applyHeld h) _ rfl)

theorem fallSilent_learn (h : s.tyre.learn = none) (i) : (fallSilent i s).tyre.learn = none := by
  unfold fallSilent
  dsimp only
  split
  · unfold savedMissing
    split
    · exact h
    · next l e => exact absurd (h.symm.trans e) (by simp)
  · exact h
  · rw [tyreSettle_learn, openIncident_tyre, setTyreState_learn]
    exact h

theorem resting_missingExpired (i) (h : Resting s) : Resting (missingExpired i s) := by
  have ha := resting_applyHeld h
  unfold missingExpired
  dsimp only
  split
  · exact ha.frame (moves_fallSilent i _) (same_fallSilent i _) (fallSilent_learn ha.rests.learn i) (by decide)
  · exact ha

/-! ### The store's reports out of RUN -/

theorem resting_updMgmt (h : Resting s) (f : Mgmt → Mgmt) (hs : (f s.mgmt).shadow = s.mgmt.shadow)
    (hi : (f s.mgmt).inProgress = s.mgmt.inProgress) (hp : (f s.mgmt).restartPending = s.mgmt.restartPending)
    (hd : (f s.mgmt).restartDue = s.mgmt.restartDue) : Resting (s.updMgmt f) :=
  { h with
    rests := { h.rests with
      service := ⟨hs.trans h.rests.service.1, hi.trans h.rests.service.2⟩
      restart := ⟨hp.trans h.rests.restart.1, hd.trans h.rests.restart.2⟩ } }

theorem resting_answerCommit (res data) (h : Resting s) : answerCommit res data s = s := by
  unfold answerCommit
  rw [h.rests.service.2]

theorem resting_endWrite (h : Resting s) : Resting (endWrite s) := resting_updMgmt h _ rfl rfl rfl rfl

theorem resting_commitSucceeded (w) (h : Resting s) : Resting (commitSucceeded w s) := by
  have hw : Resting (written w s) := h.frame (moves_written w s) (same_written w s) h.rests.learn (by decide)
  have hs : Resting (swapImage w (written w s)) :=
    { hw with rests := { hw.rests with service := ⟨congrArg (·.map fun _ => w.image) hw.rests.service.1, hw.rests.service.2⟩ } }
  unfold commitSucceeded
  dsimp only
  rw [if_neg (by simp [h.inRun]), resting_answerCommit _ _ (resting_endWrite hs)]
  exact (resting_endWrite hs).frame (.quiet rfl rfl rfl rfl) (same_holdSwap _ _) h.rests.learn (by decide)

theorem resting_afterReport (h : Resting s) : Resting (afterReport s) := by
  unfold afterReport
  rw [if_neg (by simp [h.rests.restart])]
  unfold followOn
  split
  · exact resting_updMgmt (resting_updMgmt h (fun m => { m with followOn := false }) rfl rfl rfl rfl) _ rfl rfl rfl rfl
  · exact h

theorem resting_writeSucceeded (h : Resting s) : Resting (writeSucceeded s) := by
  unfold writeSucceeded
  split
  · exact h
  · refine resting_afterReport ?_
    split
    · exact resting_commitSucceeded _ h
    · exact resting_endWrite (h.frame (moves_written _ s) (same_written _ s) h.rests.learn (by decide))

theorem resting_writeFailed (h : Resting s) : Resting (writeFailed s) := by
  unfold writeFailed
  split
  · exact h
  · have hs : Resting (spoilStore s) := { h with rests := { h.rests with } }
    have he := resting_endWrite hs
    have ho : ∀ d, Resting (openIncident .storeWriteFailed d (endWrite (spoilStore s))) := fun d =>
      he.frame (moves_openIncident _ _ _) (same_openIncident _ _ _) (by rw [openIncident_tyre]; exact he.rests.learn) (by decide)
    refine resting_afterReport ?_
    split
    · rw [resting_answerCommit _ _ he]
      exact ho _
    · exact ho _

/-! ### Leaving RUN and cold start -/

theorem same_leaveLinks (s : State) : SameBut [.portA, .portB, .relay] s (leaveLinks s) := by
  intro p hp; cases p <;> simp at hp <;> rfl

theorem same_leaveWheel (s : State) : SameBut [.wheel, .channels] s (leaveWheel s) :=
  (same_updWheel _ s).comp (same_mapChannels _ _) (by decide) (by decide)

theorem same_leaveComposer (s : State) : SameBut [.incidents, .composer] s (leaveComposer s) :=
  (same_updComposer _ s).comp ((same_closeKind _ _).trans (same_closeKind _ _)) (by decide) (by decide)

/-- All that changes while the links, the chain, the wheels, the load unit and the demand come to rest. -/
theorem same_atRest (s : State) :
    SameBut [.incidents, .portA, .portB, .relay, .chain, .wheel, .channels, .load, .composer, .power] s (atRest s) := by
  refine SameBut.comp (L := [.incidents, .portA, .portB, .relay, .chain, .wheel, .channels, .load, .power]) ?_
    (same_leaveComposer _) (by decide) (by decide)
  refine SameBut.comp (L := [.incidents, .portA, .portB, .relay, .chain, .wheel, .channels, .power]) ?_
    (same_updLoad _ _) (by decide) (by decide)
  refine SameBut.comp (L := [.incidents, .portA, .portB, .relay, .chain, .power]) ?_ (same_leaveWheel _) (by decide)
    (by decide)
  refine SameBut.comp (L := [.portA, .portB, .relay, .power]) ?_ (same_stopChain _) (by decide) (by decide)
  exact (same_updPower _ s).comp (same_leaveLinks _) (by decide) (by decide)

/-- Everything that only drops what it holds is at rest (R20, R60, R117). -/
theorem atRest_rests (s : State) : PortRests (atRest s).portA ∧ PortRests (atRest s).portB ∧ (atRest s).relay.own = none ∧
    ((atRest s).relay.discovery = none ∧ (atRest s).relay.warn = none ∧ (atRest s).relay.status = none ∧
      (atRest s).relay.tyre = none) ∧
    ((atRest s).chain.period = none ∧ (atRest s).chain.outstanding = none ∧ (atRest s).chain.health = .starting) ∧
    (atRest s).composer.demand = none ∧ (atRest s).composer.timer = none :=
  ⟨⟨rfl, rfl⟩, ⟨rfl, rfl⟩, rfl, ⟨rfl, rfl, rfl, rfl⟩, ⟨rfl, rfl, rfl⟩, rfl, rfl⟩

theorem leaveMgmt_mgmt (s : State) : (leaveMgmt s).mgmt.shadow = none ∧ (leaveMgmt s).mgmt.inProgress = none ∧
    (leaveMgmt s).mgmt.restartPending = false ∧ (leaveMgmt s).mgmt.restartDue = false := by
  refine ⟨?_, rfl, rfl, rfl⟩
  show (endService s).mgmt.shadow = none
  unfold endService
  split
  · rfl
  · next h => simpa [State.inService] using h

theorem same_leaveMgmt (s : State) : SameBut [.mgmt, .channels, .load] s (leaveMgmt s) :=
  (same_endService s).comp (same_updMgmt _ _) (by decide) (by decide)

/-- The blocks that follow when RUN is left: the brake mode is re-established, the stability unit goes OFF, a learn and service
mode end (R117, R141, R158, R165). -/
def settleDown (u : State) : State := endTests (leaveMgmt (endLearn (enterOff (reestablish u))))

theorem leaveRun_eq_settleDown (s : State) : leaveRun s = settleDown (atRest s) := rfl

/-- After the stability unit only ports, channels, loads, tyres and the management unit change. -/
theorem same_settleDown_off (u : State) :
    SameBut [.portA, .channels, .load, .tyre, .mgmt] (enterOff (reestablish u)) (settleDown u) :=
  ((same_endLearn _).comp (N := [.portA, .channels, .load, .tyre, .mgmt]) (same_leaveMgmt _) (by decide) (by decide)).trans
    ((same_endTests _).mono (by decide))

theorem same_settleDown (u : State) :
    SameBut [.incidents, .portA, .channels, .load, .composer, .stability, .tyre, .mgmt] u (settleDown u) :=
  ((same_reestablish u).comp (N := [.incidents, .portA, .channels, .load, .composer, .stability]) (same_enterOff _)
    (by decide) (by decide)).comp (same_settleDown_off u) (by decide) (by decide)

theorem moves_settleDown (u : State) : Moves u (settleDown u) :=
  ((((moves_reestablish u).trans (moves_enterOff _)).trans (moves_endLearn _)).trans (moves_leaveMgmt _)).trans
    (moves_endTests _)

theorem settleDown_composer (u : State) :
    (settleDown u).composer = { u.composer with effective := effectiveDemand u, mode := brakeMode u } := by
  have h1 : (settleDown u).composer = (enterOff (reestablish u)).composer := (same_settleDown_off u).at .composer (by decide)
  have h2 : (enterOff (reestablish u)).composer = (reestablish u).composer := (same_enterOff _).at .composer (by decide)
  rw [h1, h2, reestablish_composer]

theorem settleDown_stability (u : State) : (settleDown u).stability = (enterOff (reestablish u)).stability :=
  (same_settleDown_off u).at .stability (by decide)

theorem settleDown_learn (u : State) : (settleDown u).tyre.learn = none := by
  have h : (settleDown u).tyre = (endLearn (enterOff (reestablish u))).tyre :=
    ((same_leaveMgmt _).trans ((same_endTests _).mono (by decide))).at .tyre (by decide)
  rw [h]
  exact endLearn_learn _

theorem settleDown_mgmt (u : State) : (settleDown u).mgmt.shadow = none ∧ (settleDown u).mgmt.inProgress = none ∧
    (settleDown u).mgmt.restartPending = false ∧ (settleDown u).mgmt.restartDue = false := by
  have h : (settleDown u).mgmt = (leaveMgmt (endLearn (enterOff (reestablish u)))).mgmt := (same_endTests _).at .mgmt (by decide)
  rw [h]
  exact leaveMgmt_mgmt _

theorem settleDown_recover {u : State} (h : RecoverForm u) : (settleDown u).stability.recover = none := by
  rw [settleDown_stability]
  exact (recoverForm_enterOff (recoverForm_reestablish h)).none_of_state (by simp)

/-- Every block rests after leaving RUN (R178). -/
theorem rests_leaveRun (s : State) : Rests (leaveRun s) := by
  obtain ⟨hA, hB, hown, hrelay, hchain, hdemand, htimer⟩ := atRest_rests s
  obtain ⟨hshadow, hprogress, hpending, hdue⟩ := settleDown_mgmt (atRest s)
  have hr : (settleDown (atRest s)).relay = (atRest s).relay := (same_settleDown _).at .relay (by decide)
  have hc : (settleDown (atRest s)).chain = (atRest s).chain := (same_settleDown _).at .chain (by decide)
  rw [leaveRun_eq_settleDown]
  exact
    { portA := PortRests.of_moves (p := .A) hA (moves_settleDown _)
      portB := PortRests.of_moves (p := .B) hB (moves_settleDown _)
      own := hr ▸ hown
      timers := hr ▸ hrelay
      chain := hc ▸ hchain
      demand := by rw [settleDown_composer]; exact ⟨hdemand, htimer⟩
      stability := by rw [settleDown_stability]; exact enterOff_state _
      learn := settleDown_learn _
      service := ⟨hshadow, hprogress⟩
      restart := ⟨hpending, hdue⟩ }

theorem leaveRun_recover (h : RecoverForm s) : (leaveRun s).stability.recover = none := by
  rw [leaveRun_eq_settleDown]
  exact settleDown_recover (h.congr ((same_atRest s).at .stability (by decide)))

theorem leaveRun_power (s : State) :
    (leaveRun s).power = { s.power with state := .parkWatch, phase := .parked, settle := none } :=
  (same_settleDown (atRest s)).at .power (by decide)

/-- The part as link power goes, the supply sense not yet read. -/
def unpowered (s : State) : State := s.updPower fun p => { p with linkPower := false }

theorem turnedOff_eq (v : Nat) (s : State) : turnedOff v s = leaveRun (updateVoltage (min 400 v) (unpowered s)) := rfl

/-- The power controller after a link-power-off event, before the park watch or SLEEP is chosen (R177, R178). -/
theorem turnedOff_power (h : s.inRun = true) (v : Nat) : (turnedOff v s).power = { s.power with
    state := .parkWatch, phase := .parked, linkPower := false, settle := none, voltage := min 400 v,
    low := nextLow s.active.tuning.batteryLimit (min 400 v) s.power.low } := by
  rw [turnedOff_eq, leaveRun_power, updateVoltage_of_inRun (s := unpowered s) h]
  rfl

theorem resting_turnedOff (h : Running s) (v : Nat) : Resting (turnedOff v s) := by
  have hp := turnedOff_power h.inRun v
  have hr : RecoverForm (updateVoltage (min 400 v) (unpowered s)) := by
    rw [updateVoltage_of_inRun (s := unpowered s) h.inRun]
    exact h.recovers
  exact
    { out := by simp [hp]
      link := by simp [hp]
      settle := by simp [hp]
      rests := rests_leaveRun _
      recover := leaveRun_recover hr
      park := by simp [hp, h.park]
      listen := by simp [hp, h.listen]
      wake := by simp [hp, h.wake]
      lockout := by simp [hp, h.lockout] }

theorem resting_powerOff (h : Running s) (v : Nat) : Resting (powerOff v s) := by
  have ht := resting_turnedOff h v
  have hp := turnedOff_power h.inRun v
  rw [powerOff_eq]
  split
  · exact
      { ht with
        toDormant := ht.toDormant.updPower ht.out ht.link ht.settle
        park := fun _ => by simp [hp] }
  · split
    · exact resting_enterSleep (dormant_setLockout ht.toDormant) fun _ => rfl
    · exact resting_enterSleep ht.toDormant (by simp [hp, h.lockout])

/-- Every block at its start values, the part out of RUN without link power. -/
theorem dormant_startBlocks (out : s.power.state ≠ .run) (link : s.power.linkPower = false) (settle : s.power.settle = none) :
    Dormant (startBlocks s) where
  out := out
  link := link
  settle := settle
  rests := ⟨⟨rfl, rfl⟩, ⟨rfl, rfl⟩, rfl, ⟨rfl, rfl, rfl, rfl⟩, ⟨rfl, rfl, rfl⟩, ⟨rfl, rfl⟩, rfl, rfl, ⟨rfl, rfl⟩, ⟨rfl, rfl⟩⟩
  recover := rfl

theorem powerWf_coldStart (v l) (s : State) : PowerWf (coldStart v l s) := by
  rw [coldStart_eq]
  cases l with
  | true => exact (running_enterRun rfl (fun hd => Bool.noConfusion hd) (recoverForm_of_none rfl)).powerWf
  | false =>
    have hd : Dormant (startBlocks (coldLoaded v false s)) :=
      dormant_startBlocks (fun hr => PowerState.noConfusion hr) rfl rfl
    refine Resting.powerWf ?_
    show Resting (coldSleep _)
    unfold coldSleep
    split
    · exact resting_enterSleep (dormant_setLockout hd) fun _ => rfl
    · exact resting_enterSleep hd fun hl => Bool.noConfusion hl

/-! ### Every command -/

theorem running_powerOn_of_resting (h : Resting s) : Running (powerOn s) := by
  have hr : Running (enterRun (s.updPower fun p => { p with linkPower := true })) :=
    running_enterRun rfl (by simp [h.rests.restart]) (recoverForm_of_none h.recover)
  unfold powerOn
  dsimp only
  rw [if_neg (by simp [h.inRun])]
  split
  · exact hr.frame (same_tyreWake _) (by decide)
  · exact hr

theorem running_powerOn (h : Running s) : Running (powerOn s) := by
  unfold powerOn
  dsimp only
  rw [if_pos h.inRun]
  exact { h with link := rfl }

theorem running_settleExpired (h : Running s) : Running (settleExpired s) := running_startChain _ { h with }

theorem running_sampleExpired (v) (h : Running s) : Running (sampleExpired v s) := by
  have hu : Running (s.updPower fun p => { p with sample := some 1000 }) := { h with }
  unfold sampleExpired
  dsimp only
  split
  · exact running_updateVoltage _ hu
  · exact hu

theorem running_testWindow (h : Running s) :
    Running (if s.stability.state = .test then abandonTest s else s.updStab fun u => { u with window := none }) := by
  split
  · next e =>
    exact h.of_same (same_abandonTest s)
      (recoverForm_of_none ((abandonTest_recover s).trans (h.recovers.none_of_state (by simp [e])))) (by decide)
  · exact h.of_same (same_updStab _ s) h.recovers (by decide)

theorem running_recovered (h : Running s) : Running (recovered s) := by
  refine h.of_same (L := [.incidents, .portA, .stability]) ?_ (recoverForm_of_none (by simp [recovered])) (by decide)
  exact ((same_updStab _ s).comp (N := [.incidents, .stability]) (same_closeIncident _ _ _) (by decide) (by decide)).comp
    (same_changeStab _ _) (by decide) (by decide)

theorem same_discoveryExpired (s : State) : SameBut [.portB, .relay] s (discoveryExpired s) :=
  (same_updRelay _ s).comp (same_originateDiscover _) (by decide) (by decide)

theorem same_warnExpired (s : State) : SameBut [.portA, .relay] s (warnExpired s) := by
  unfold warnExpired
  dsimp only
  split
  · exact (same_updRelay _ s).comp (same_enqueue .A _ _ _) (by decide) (by decide)
  · exact (same_updRelay _ s).mono (by decide)

theorem same_statusExpired (s : State) : SameBut [.portA, .relay] s (statusExpired s) :=
  (same_updRelay _ s).comp (same_enqueue .A _ _ _) (by decide) (by decide)

theorem same_tyreExpired (s : State) : SameBut [.portA, .relay] s (tyreExpired s) := by
  unfold tyreExpired
  dsimp only
  split
  · exact (same_updRelay _ s).mono (by decide)
  · exact ((same_updRelay _ s).comp (N := [.portA, .relay]) (same_originateTyre _ _) (by decide) (by decide)).comp
      (same_updRelay _ _) (by decide) (by decide)

theorem same_endTest (c) (s : State) : SameBut [.channels, .load] s (endTest c s) := by
  intro p hp; cases p <;> simp at hp <;> rfl

/-- An expiry in RUN whose effect touches none of the parts that RUN speaks of. -/
theorem running_expiry (h : Running s) (t : Timer) {f : State → State} (hf : ∀ e, SameBut L e (f e))
    (hL : ∀ p ∈ [Part.power, .unapplied, .mgmt, .stability], p ∉ L) : Running (onExpiry t f s) :=
  running_onExpiry h t fun e he => he.frame (hf e) hL

/-- From RUN every command leads to a state of R177 to R182. -/
theorem powerWf_exec_of_running (h : Running s) (i : Instr) : ∃ t, exec i s = .next t ∧ PowerWf t := by
  have request : ∀ r, ∀ p ∈ requestsOf r, ∃ t, exec p.2 s = .next t ∧ PowerWf t := fun r p hp =>
    (running_request h r p hp).imp fun _ ht => ⟨ht.1, ht.2.powerWf⟩
  cases i with
  | frameReceived p f o => exact ⟨_, rfl, (running_receiveFrame p f o h).powerWf⟩
  | presenceTimerExpiry p => exact ⟨_, rfl, (running_onExpiry h _ fun _ he => running_presenceExpired p he).powerWf⟩
  | linkReportTransmitted p r =>
    refine ⟨_, rfl, Running.powerWf ?_⟩
    split
    · exact running_reportTransmitted p h
    · exact h
  | linkReportNotSent p r =>
    refine ⟨_, rfl, Running.powerWf ?_⟩
    split
    · exact h.updPort p _
    · exact h
  | discoveryTimerExpiry => exact ⟨_, rfl, (running_expiry h _ same_discoveryExpired (by decide)).powerWf⟩
  | warnTimerExpiry => exact ⟨_, rfl, (running_expiry h _ same_warnExpired (by decide)).powerWf⟩
  | statusTimerExpiry => exact ⟨_, rfl, (running_expiry h _ same_statusExpired (by decide)).powerWf⟩
  | tyreTimerExpiry => exact ⟨_, rfl, (running_expiry h _ same_tyreExpired (by decide)).powerWf⟩
  | periodTimerExpiry o => exact ⟨_, rfl, (running_onExpiry h _ fun _ he => running_periodExpired o he).powerWf⟩
  | responseListReturn l o => exact ⟨_, rfl, (running_listReturned l o h).powerWf⟩
  | stationaryTimerExpiry => exact ⟨_, rfl, (running_expiry h _ (same_updWheel _) (by decide)).powerWf⟩
  | demandTimerExpiry =>
    exact ⟨_, rfl, (running_onExpiry h _ fun e he => running_reestablish (he.frame (same_updComposer _ e) (by decide))).powerWf⟩
  | testWindowExpiry => exact ⟨_, rfl, (running_onExpiry h _ fun _ he => running_testWindow he).powerWf⟩
  | spacingTimerExpiry =>
    have hs : ∀ e, Running e → Running (e.updStab fun u => { u with spacing := none }) := fun e he =>
      he.of_same (same_updStab (fun u => { u with spacing := none }) e) he.recovers (by decide)
    exact ⟨_, rfl, (running_onExpiry h _ hs).powerWf⟩
  | recoverTimerExpiry => exact ⟨_, rfl, (running_onExpiry h _ fun _ he => running_recovered he).powerWf⟩
  | telegramDelivered b => exact ⟨_, rfl, (running_deliver b h).powerWf⟩
  | telegramTaken => exact ⟨_, rfl, (running_takeTelegram h).powerWf⟩
  | missingTimerExpiry i =>
    refine ⟨_, rfl, Running.powerWf ?_⟩
    split
    · exact running_onExpiry h _ fun _ he => running_missingExpired i he
    · exact h
  | learnTimerExpiry => exact ⟨_, rfl, (running_expiry h _ same_endLearn (by decide)).powerWf⟩
  | lampBlinkToggle => exact ⟨_, rfl, (running_expiry h _ (same_updTyre _) (by decide)).powerWf⟩
  | identify r => exact request r (1#8, _) (by simp [requestsOf])
  | read r => exact request r (2#8, _) (by simp [requestsOf])
  | enterService r => exact request r (3#8, _) (by simp [requestsOf])
  | leaveService r => exact request r (4#8, _) (by simp [requestsOf])
  | stage r => exact request r (5#8, _) (by simp [requestsOf])
  | commit r => exact request r (6#8, _) (by simp [requestsOf])
  | discard r => exact request r (7#8, _) (by simp [requestsOf])
  | clearIncidents r => exact request r (11#8, _) (by simp [requestsOf])
  | learnTyre r => exact request r (8#8, _) (by simp [requestsOf])
  | cancelLearn r => exact request r (9#8, _) (by simp [requestsOf])
  | serviceTest r => exact request r (10#8, _) (by simp [requestsOf])
  | restart r => exact request r (12#8, _) (by simp [requestsOf])
  | unknownRequest c r => exact ⟨_, rfl, (running_doUnknown c r h).powerWf⟩
  | serviceIdleTimerExpiry => exact ⟨_, rfl, (running_onExpiry h _ fun _ he => running_endService he).powerWf⟩
  | restartDelayExpiry => exact ⟨_, rfl, (running_onExpiry h _ fun _ he => running_triggerRestart he).powerWf⟩
  | storeWriteSucceeded => exact ⟨_, rfl, (running_writeSucceeded h).powerWf⟩
  | storeWriteFailed => exact ⟨_, rfl, (running_writeFailed h).powerWf⟩
  | coldStart v l => exact ⟨_, rfl, powerWf_coldStart v l s⟩
  | linkPowerOff v =>
    refine ⟨_, rfl, ?_⟩
    rw [if_pos h.inRun]
    exact (resting_powerOff h v).powerWf
  | linkPowerOn => exact ⟨_, rfl, (running_powerOn h).powerWf⟩
  | settleTimerExpiry => exact ⟨_, rfl, (running_onExpiry h _ fun _ he => running_settleExpired he).powerWf⟩
  | parkTimerExpiry =>
    refine ⟨_, rfl, ?_⟩
    rw [h.park]
    exact h.powerWf
  | wakeTimerExpiry =>
    refine ⟨_, rfl, ?_⟩
    rw [h.wake]
    exact h.powerWf
  | wakeLineAsserted =>
    refine ⟨_, rfl, ?_⟩
    unfold wakeLine
    rw [if_neg (by simp [h.state])]
    exact h.powerWf
  | listenTimerExpiry =>
    refine ⟨_, rfl, ?_⟩
    rw [h.listen]
    exact h.powerWf
  | batterySampleTimerExpiry v => exact ⟨_, rfl, (running_onExpiry h _ fun _ he => running_sampleExpired v he).powerWf⟩
  | serviceTestTimerExpiry c =>
    refine ⟨_, rfl, Running.powerWf ?_⟩
    split
    · exact running_expiry h _ (same_endTest c) (by decide)
    · exact h

/-- Out of RUN no request is taken (R1, R161). -/
theorem manage_of_out (h : s.inRun = false) (code need exempt act) (r : Request) :
    manage code need exempt act r s = s := if_neg (by simp [takes, h])

theorem request_of_out (h : s.inRun = false) (r : Request) : ∀ p ∈ requestsOf r, exec p.2 s = .next s := by
  have e : ∀ code need exempt act, Host.Outcome.next (manage code need exempt act r s) =
      (.next s : Host.Outcome State Fault Refusal) := fun _ _ _ _ => congrArg _ (manage_of_out h _ _ _ _ r)
  simp only [requestsOf, List.forall_mem_cons]
  exact ⟨e _ _ _ _, e _ _ _ _, e _ _ _ _, e _ _ _ _, e _ _ _ _, e _ _ _ _, e _ _ _ _, e _ _ _ _, e _ _ _ _, e _ _ _ _,
    e _ _ _ _, e _ _ _ _, fun _ hp => (List.not_mem_nil hp).elim⟩

theorem unknown_of_out (h : s.inRun = false) (code) (r : Request) : exec (.unknownRequest code r) s = .next s :=
  congrArg _ (if_neg (by simp [takes, h]) : doUnknown code r s = s)

/-- Out of RUN no frame is delivered (R1). -/
theorem frameReceived_of_out (h : s.inRun = false) (p f o) : exec (.frameReceived p f o) s = .next s :=
  congrArg _ (if_neg (by simp [h]) : receiveFrame p f o s = s)

theorem listReturned_of_none (h : s.chain.outstanding = none) (l o) : listReturned l o s = s := by
  unfold listReturned answers
  rw [h]
  rfl

theorem triggerRestart_of_none (h : s.mgmt.restartPending = false) : triggerRestart s = s := if_pos (by simp [h])

theorem resting_reportTransmitted (p) (h : Resting s) : Resting (reportTransmitted p s) := by
  have ht : Resting (s.updPort p PortState.transmitted) := h.updPort p _ fun _ => ⟨transmitted_present _, transmitted_presence _⟩
  unfold reportTransmitted
  dsimp only
  rw [triggerRestart_of_none ht.rests.restart.1]
  split
  · exact ht
  · exact ht

theorem resting_updStab (h : Resting s) (f : Stability → Stability) (hs : (f s.stability).state = s.stability.state)
    (hr : (f s.stability).recover = s.stability.recover) : Resting (s.updStab f) :=
  { h with
    rests := { h.rests with stability := hs.trans h.rests.stability }
    recover := hr.trans h.recover }

theorem Rests.presence (h : Rests s) (p : Port) : (s.port p).presence = none := by
  cases p
  · exact h.portA.2
  · exact h.portB.2

/-- Out of RUN every command leads to a state of R177 to R182. -/
theorem powerWf_exec_of_resting (h : Resting s) (i : Instr) : ∃ t, exec i s = .next t ∧ PowerWf t := by
  have request : ∀ r, ∀ p ∈ requestsOf r, ∃ t, exec p.2 s = .next t ∧ PowerWf t :=
    fun r p hp => ⟨s, request_of_out h.inRun r p hp, h.powerWf⟩
  have stopped : ∀ {c : Instr} {x : Timer} {f : State → State}, exec c s = .next (onExpiry x f s) → x = none →
      ∃ t, exec c s = .next t ∧ PowerWf t := by
    intro c x f e hx
    subst hx
    exact ⟨s, e, h.powerWf⟩
  obtain ⟨hdiscovery, hwarn, hstatus, htyre⟩ := h.rests.timers
  cases i with
  | frameReceived p f o => exact ⟨s, frameReceived_of_out h.inRun p f o, h.powerWf⟩
  | presenceTimerExpiry p => exact stopped rfl (h.rests.presence p)
  | linkReportTransmitted p r =>
    refine ⟨_, rfl, Resting.powerWf ?_⟩
    split
    · exact resting_reportTransmitted p h
    · exact h
  | linkReportNotSent p r =>
    refine ⟨_, rfl, Resting.powerWf ?_⟩
    split
    · exact h.updPort p _ fun _ => ⟨notSent_present _, notSent_presence _⟩
    · exact h
  | discoveryTimerExpiry => exact stopped rfl hdiscovery
  | warnTimerExpiry => exact stopped rfl hwarn
  | statusTimerExpiry => exact stopped rfl hstatus
  | tyreTimerExpiry => exact stopped rfl htyre
  | periodTimerExpiry o => exact stopped rfl h.rests.chain.1
  | responseListReturn l o =>
    exact ⟨s, congrArg _ (listReturned_of_none h.rests.chain.2.1 l o), h.powerWf⟩
  | stationaryTimerExpiry =>
    exact ⟨_, rfl, (resting_onExpiry h _ fun e he =>
      he.frame (moves_updWheel _ e) (same_updWheel _ e) he.rests.learn (by decide)).powerWf⟩
  | demandTimerExpiry => exact stopped rfl h.rests.demand.2
  | testWindowExpiry =>
    refine ⟨_, rfl, (resting_onExpiry h _ fun e he => ?_).powerWf⟩
    rw [if_neg (by simp [he.rests.stability])]
    exact resting_updStab he _ rfl rfl
  | spacingTimerExpiry => exact ⟨_, rfl, (resting_onExpiry h _ fun e he => resting_updStab he _ rfl rfl).powerWf⟩
  | recoverTimerExpiry => exact stopped rfl h.recover
  | telegramDelivered b => exact ⟨_, rfl, (resting_deliver b h).powerWf⟩
  | telegramTaken => exact ⟨_, rfl, (resting_takeTelegram h).powerWf⟩
  | missingTimerExpiry i =>
    refine ⟨_, rfl, Resting.powerWf ?_⟩
    split
    · exact resting_onExpiry h _ fun _ he => resting_missingExpired i he
    · exact h
  | learnTimerExpiry => exact stopped rfl (by simp [learnTimer, h.rests.learn])
  | lampBlinkToggle => exact ⟨_, rfl, (resting_onExpiry h _ fun e he => resting_updTyre he _ rfl).powerWf⟩
  | identify r => exact request r (1#8, _) (by simp [requestsOf])
  | read r => exact request r (2#8, _) (by simp [requestsOf])
  | enterService r => exact request r (3#8, _) (by simp [requestsOf])
  | leaveService r => exact request r (4#8, _) (by simp [requestsOf])
  | stage r => exact request r (5#8, _) (by simp [requestsOf])
  | commit r => exact request r (6#8, _) (by simp [requestsOf])
  | discard r => exact request r (7#8, _) (by simp [requestsOf])
  | clearIncidents r => exact request r (11#8, _) (by simp [requestsOf])
  | learnTyre r => exact request r (8#8, _) (by simp [requestsOf])
  | cancelLearn r => exact request r (9#8, _) (by simp [requestsOf])
  | serviceTest r => exact request r (10#8, _) (by simp [requestsOf])
  | restart r => exact request r (12#8, _) (by simp [requestsOf])
  | unknownRequest c r => exact ⟨s, unknown_of_out h.inRun c r, h.powerWf⟩
  | serviceIdleTimerExpiry =>
    refine ⟨_, rfl, (resting_onExpiry h _ fun e he => ?_).powerWf⟩
    unfold endService
    rw [if_neg (by simp [State.inService, he.rests.service.1])]
    exact he
  | restartDelayExpiry =>
    refine ⟨_, rfl, (resting_onExpiry h _ fun e he => ?_).powerWf⟩
    rwa [triggerRestart_of_none he.rests.restart.1]
  | storeWriteSucceeded => exact ⟨_, rfl, (resting_writeSucceeded h).powerWf⟩
  | storeWriteFailed => exact ⟨_, rfl, (resting_writeFailed h).powerWf⟩
  | coldStart v l => exact ⟨_, rfl, powerWf_coldStart v l s⟩
  | linkPowerOff v =>
    refine ⟨_, rfl, Resting.powerWf ?_⟩
    rw [if_neg (by simp [h.inRun])]
    exact { h with toDormant := h.toDormant.updPower h.out rfl h.settle }
  | linkPowerOn => exact ⟨_, rfl, (running_powerOn_of_resting h).powerWf⟩
  | settleTimerExpiry => exact stopped rfl h.settle
  | parkTimerExpiry => exact ⟨_, rfl, (resting_onExpiry h _ fun _ he => resting_parkExpired he).powerWf⟩
  | wakeTimerExpiry =>
    refine ⟨_, rfl, Resting.powerWf ?_⟩
    cases e : s.power.wake with
    | none => exact h
    | some r => exact resting_wakeExpired (h.elapse r) (by simp [elapse, runDown, e])
  | wakeLineAsserted => exact ⟨_, rfl, (resting_wakeLine h).powerWf⟩
  | listenTimerExpiry => exact ⟨_, rfl, (resting_onExpiry h _ fun _ he => resting_listenExpired he).powerWf⟩
  | batterySampleTimerExpiry v =>
    refine ⟨_, rfl, Resting.powerWf ?_⟩
    cases e : s.power.sample with
    | none => exact h
    | some r => exact resting_sampleExpired v (h.elapse r) (by simp [elapse, runDown, e])
  | serviceTestTimerExpiry c =>
    refine ⟨_, rfl, Resting.powerWf ?_⟩
    split
    · exact resting_onExpiry h _ fun e he => he.frame (moves_endTest c e) (same_endTest c e) he.rests.learn (by decide)
    · exact h

/-- A part in one of its power states is running or resting. -/
theorem PowerWf.cases (h : PowerWf s) : Running s ∨ Resting s := by
  by_cases e : s.power.state = .run
  · exact .inl (h.running e)
  · exact .inr (h.resting e)

/-- Settles O11: a running part runs on, leaves RUN or starts again; a resting part rests on, sleeps, wakes or enters RUN. -/
theorem stepKeepsThePowerStates : Obligations.StepKeepsThePowerStates := by
  unfold Obligations.StepKeepsThePowerStates
  intro s t h e
  refine step_keeps (P := PowerWf) (fun s h => ?_) (fun s l h => ?_) (fun s i h => ?_) h e
  · exact h.cases.elim (fun hr => (hr.elapse 1).powerWf) (fun hr => (hr.elapse 1).powerWf)
  · exact { h with timers := { h.timers with }, rests := fun hr => { h.rests hr with } }
  · exact h.cases.elim (fun hr => powerWf_exec_of_running hr i) (fun hr => powerWf_exec_of_resting hr i)

end Sys2Proof.Machine
end

section
/-! PROOFS. The own warning word (O13), the key of a frame (O19) and the queues of a port (O23). -/

namespace Sys2Proof.Machine

/-! ### The own warning word -/

/-- Eight flags in a 16-bit word: bit i is flag i, and the bits above are 0 (section 11.1). -/
theorem flagWord_bits (a b c d e f g h : Bool) :
    let w := BitVec.ofNat 16 (bit a + 2 * bit b + 4 * bit c + 8 * bit d + 16 * bit e + 32 * bit f + 64 * bit g + 128 * bit h)
    w.getLsbD 0 = a ∧ w.getLsbD 1 = b ∧ w.getLsbD 2 = c ∧ w.getLsbD 3 = d ∧ w.getLsbD 4 = e ∧ w.getLsbD 5 = f ∧
      w.getLsbD 6 = g ∧ w.getLsbD 7 = h ∧ ∀ i ∈ [8, 9, 10, 11, 12, 13, 14, 15], w.getLsbD i = false := by
  revert a b c d e f g h
  decide

theorem anyDegraded_iff (s : State) : anyDegraded s = true ↔ ∃ n ∈ (inUse s).positions, (s.node n).degraded = true := by
  simp [anyDegraded]

theorem amber_iff (s : State) : amber s = true ↔ s.composer.mode = .backup ∨
    (s.composer.mode = .electronic ∧ ∃ n ∈ (inUse s).positions, (s.node n).degraded = true) := by
  simp [amber, ← anyDegraded_iff]

theorem red_iff (s : State) : red s = true ↔ s.composer.mode = .fallback ∨ s.composer.emergency = true := by
  simp [red]

theorem anyTyre_iff (s : State) (p : TyreState → Bool) : anyTyre s p = true ↔ ∃ i ∈ List.range 16, p (judged s i) = true :=
  List.any_eq_true

theorem tyreLow_iff (s : State) : tyreLow s = true ↔ ∃ i ∈ List.range 16, judged s i = .low := by
  simp [tyreLow, anyTyre_iff]

theorem tyreCrit_iff (s : State) :
    tyreCrit s = true ↔ ∃ i ∈ List.range 16, judged s i = .critical ∨ judged s i = .leak := by
  simp [tyreCrit, anyFailing, anyTyre_iff, TyreState.failing]

theorem tyreMissing_iff (s : State) : tyreMissing s = true ↔ ∃ i ∈ List.range 16, judged s i = .missing := by
  simp [tyreMissing, anyTyre_iff]

theorem stabilityFlag_iff (s : State) : stabilityFlag s = true ↔ s.stability.state = .intervene := by
  simp [stabilityFlag]

/-- Settles O13: the word is built of eight flags, and each flag is its condition. -/
theorem warningWordShowsItsFlags : Obligations.WarningWordShowsItsFlags := by
  unfold Obligations.WarningWordShowsItsFlags
  intro s
  obtain ⟨h0, h1, h2, h3, h4, h5, h6, h7, high⟩ := flagWord_bits (amber s) (red s) (tyreLow s) (tyreCrit s)
    (tyreMissing s) (stabilityFlag s) s.configInvalid s.inService
  unfold warningWord
  rw [h0, h1, h2, h3, h4, h5, h6, h7]
  exact ⟨amber_iff s, red_iff s, tyreLow_iff s, tyreCrit_iff s, tyreMissing_iff s, stabilityFlag_iff s, .rfl, .rfl, high⟩

/-! ### The queues of a port -/

/-- A full SAFETY queue with a frame on offer takes another: the form of its answer (R5). -/
theorem enqueue_safety_full {ps : PortState} (hp : ps.present = true) (hl : ps.safety.length = 8) (ho : ps.offer ≠ none)
    (x : Queued) : ps.enqueue .safety x =
      { ps with safety := safetyFull (if ps.offer = some .safety then 1 else 0) ps.safety x } := by
  rw [enqueue_safety hp, pushSafety_of_full (by omega)]
  exact choose_of_some _ (Option.isSome_iff_ne_none.mpr ho)

/-- Enqueues as the claim tells them (R4 to R6). -/
theorem enqueue_takes (ps : PortState) (x : Queued) :
    (ps.present = false → ps.enqueue .safety x = ps ∧ ps.enqueue .general x = ps) ∧
    (ps.present = true → ps.safety.length < 8 → ps.enqueue .safety x = { ps with
      safety := ps.safety ++ [x], offer := if ps.offer.isSome then ps.offer else some .safety }) ∧
    (ps.present = true → ps.general.length < 24 → ps.enqueue .general x = { ps with
      general := ps.general ++ [x],
      offer := if ps.offer.isSome then ps.offer else offered ps.safety (ps.general ++ [x]) }) ∧
    (ps.present = true → ¬ ps.general.length < 24 →
      (ps.enqueue .general x).general = ps.general ∧ (ps.enqueue .general x).safety = ps.safety ∧
      (ps.enqueue .general x).discards = if ps.discards < 65535 then ps.discards + 1 else ps.discards) := by
  refine ⟨fun h => ⟨enqueue_absent h _ x, enqueue_absent h _ x⟩, fun hp hr => ?_, fun hp hr => ?_, fun hp hr => ?_⟩
  · rw [enqueue_safety hp, pushSafety_of_room hr, choose_eq, offered_eq_safety.mpr (by simp)]
  · rw [enqueue_general hp, pushGeneral_of_room hr, choose_eq]
  · rw [enqueue_general hp, pushGeneral_of_full hr, choose_eq]
    exact ⟨rfl, rfl, rfl⟩

/-- What a full SAFETY queue with a frame on offer does (R5). -/
theorem enqueue_safety_replaces {ps : PortState} (x : Queued) (hp : ps.present = true) (hl : ps.safety.length = 8)
    (ho : ps.offer ≠ none) :
    let held := if ps.offer = some .safety then 1 else 0
    (ps.enqueue .safety x).safety.length = 8 ∧ (ps.enqueue .safety x).general = ps.general ∧
    (ps.enqueue .safety x).discards = ps.discards ∧ (ps.enqueue .safety x).offer = ps.offer ∧
    (∀ a y b, ps.safety.drop held = a ++ y :: b → x.sameSender y = true → (∀ z ∈ b, x.sameSender z = false) →
      (ps.enqueue .safety x).safety = ps.safety.take held ++ a ++ x :: b) ∧
    ((∀ y ∈ ps.safety.drop held, x.sameSender y = false) →
      (ps.enqueue .safety x).safety = ps.safety.take held ++ ps.safety.drop (held + 1) ++ [x]) := by
  intro held
  have hh : held < ps.safety.length := by
    rw [hl]
    show (if _ then 1 else 0) < 8
    split <;> omega
  rw [enqueue_safety_full hp hl ho]
  refine ⟨(safetyFull_length hh x).trans hl, rfl, rfl, rfl, fun a y b e hy hb => ?_, fun hn => ?_⟩
  · show safetyFull held ps.safety x = _
    simp [safetyFull, e, replaceLast_append hy hb]
  · show safetyFull held ps.safety x = _
    simp [safetyFull, replaceLast_eq_none hn]

/-- The link's reports change the reporting port alone, unless a RESTART's response leaves (R7, R171). -/
theorem exec_transmitted {s : State} (p : Port) (h : (s.port p).offersRestart = false) :
    exec (.linkReportTransmitted p .onOffer) s = .next (s.updPort p PortState.transmitted) := by
  show Host.Outcome.next (reportTransmitted p s) = _
  unfold reportTransmitted
  dsimp only
  rw [h]
  rfl

theorem exec_notSent (s : State) (p : Port) :
    exec (.linkReportNotSent p .onOffer) s = .next (s.updPort p PortState.notSent) := rfl

theorem offersRestart_of_none {ps : PortState} (h : ps.offer = none) : ps.offersRestart = false := by
  unfold PortState.offersRestart PortState.onOffer
  rw [h]

theorem offersRestart_of_safety {ps : PortState} {q : Queued} {rest : List Queued} (hs : ps.safety = q :: rest)
    (ho : ps.offer = some .safety) (hr : q.restart = false) : ps.offersRestart = false := by
  unfold PortState.offersRestart PortState.onOffer
  rw [ho, hs]
  exact hr

theorem offersRestart_of_general {ps : PortState} {q : Queued} {rest : List Queued} (hs : ps.general = q :: rest)
    (ho : ps.offer = some .general) (hr : q.restart = false) : ps.offersRestart = false := by
  unfold PortState.offersRestart PortState.onOffer
  rw [ho, hs]
  exact hr

theorem transmitted_of_none {ps : PortState} (h : ps.offer = none) : ps.transmitted = ps := by
  unfold PortState.transmitted
  rw [h]

theorem notSent_of_none {ps : PortState} (h : ps.offer = none) : ps.notSent = ps := by
  unfold PortState.notSent
  rw [h]

theorem transmitted_of_safety {ps : PortState} (h : ps.offer = some .safety) :
    ps.transmitted = { ps with safety := ps.safety.tail, offer := offered ps.safety.tail ps.general } := by
  unfold PortState.transmitted
  rw [h]
  exact choose_eq _

theorem transmitted_of_general {ps : PortState} (h : ps.offer = some .general) :
    ps.transmitted = { ps with general := ps.general.tail, offer := offered ps.safety ps.general.tail } := by
  unfold PortState.transmitted
  rw [h]
  exact choose_eq _

theorem notSent_of_offer {ps : PortState} (h : ps.offer ≠ none) :
    ps.notSent = { ps with offer := offered ps.safety ps.general } := by
  unfold PortState.notSent
  split
  · contradiction
  · exact choose_eq _

theorem updPort_self {s : State} {p : Port} {f : PortState → PortState} (h : f (s.port p) = s.port p) :
    s.updPort p f = s := by
  cases p
  · exact congrArg (fun x => { s with portA := x }) h
  · exact congrArg (fun x => { s with portB := x }) h

/-- Settles O23: enqueues by the room of the queue, reports by the frame on offer. -/
theorem queuesTakeAndReleaseFrames : Obligations.QueuesTakeAndReleaseFrames := by
  unfold Obligations.QueuesTakeAndReleaseFrames
  refine ⟨fun ps x => ?_, fun s p => ⟨rfl, rfl, fun ho => ?_, ?_, ?_, fun ho => ?_⟩⟩
  · obtain ⟨habsent, hsafety, hgeneral, hfull⟩ := enqueue_takes ps x
    exact ⟨habsent, hsafety, hgeneral, hfull, enqueue_safety_replaces x⟩
  · rw [exec_transmitted p (offersRestart_of_none ho), updPort_self (transmitted_of_none ho)]
    exact ⟨rfl, congrArg _ (updPort_self (notSent_of_none ho))⟩
  · intro q rest hs ho hr
    refine ⟨_, exec_transmitted p (offersRestart_of_safety hs ho hr), ?_, same_updPort p _ s⟩
    rw [updPort_port_self, transmitted_of_safety ho, hs]
    rfl
  · intro q rest hs ho hr
    refine ⟨_, exec_transmitted p (offersRestart_of_general hs ho hr), ?_, same_updPort p _ s⟩
    rw [updPort_port_self, transmitted_of_general ho, hs]
    rfl
  · refine ⟨_, exec_notSent s p, ?_, same_updPort p _ s⟩
    rw [updPort_port_self, notSent_of_offer ho]

/-! ### Bytes -/

/-- One byte read as a number. -/
theorem beAt_one (l : List Byte) (off : Nat) : beAt l off 1 = (byteAt l off).toNat := by
  unfold beAt byteAt
  by_cases h : off < l.length
  · rw [List.drop_eq_getElem_cons h, List.getD_eq_getElem l 0#8 h]
    exact Nat.zero_add _
  · simp [List.drop_eq_nil_of_le (Nat.le_of_not_lt h), beNat, h]

/-- Two bytes read as a number, most significant first (chapter 11). -/
theorem beAt_two {l : List Byte} {off : Nat} (h : off + 2 ≤ l.length) :
    beAt l off 2 = (byteAt l off).toNat * 256 + (byteAt l (off + 1)).toNat := by
  unfold beAt byteAt
  have h0 : off < l.length := by omega
  have h1 : off + 1 < l.length := by omega
  rw [List.drop_eq_getElem_cons h0, List.drop_eq_getElem_cons h1, List.getD_eq_getElem l 0#8 h0,
    List.getD_eq_getElem l 0#8 h1]
  show (0 * 256 + l[off].toNat) * 256 + l[off + 1].toNat = _
  omega

/-! ### Ternary pairs -/

/-- A pair matches exactly when it accepts the key (R25). -/
theorem pairMatch_iff_ternary {w : Nat} (key value mask : BitVec w) :
    pairMatch key value mask = true ↔ Ternary key value mask := by
  unfold pairMatch Ternary
  rw [decide_eq_true_iff]
  constructor
  · intro h i hi hm
    have hb := congrArg (·.getLsbD i) h
    simpa [hm] using hb
  · intro h
    refine BitVec.eq_of_getLsbD_eq fun i hi => ?_
    cases hm : mask.getLsbD i with
    | false => simp [hm]
    | true => simp [hm, h i hi hm]

/-- A mask of 0 accepts every key (R25). -/
theorem pairMatch_mask_zero {w : Nat} (key value : BitVec w) : pairMatch key value 0#w = true := by
  simp [pairMatch]

/-! ### The relation field -/

theorem relationCode_unplaced {n : Nat} (h : n ≠ 7) : relationCode none n = 4 := if_neg h

theorem relationCode_placed {n o : Nat} (h : n ≠ 7) :
    relationCode (some o) n = if n = o then 1 else if o < n then 2 else 3 := if_neg h

theorem relationCode_lt (own : Option Nat) (n : Nat) : relationCode own n < 5 := by
  unfold relationCode
  split
  · omega
  · split
    · omega
    · split
      · omega
      · split <;> omega

/-- What the five relation codes answer to (R22). -/
theorem relation_pairs : ∀ c < 5,
    let k := BitVec.ofNat 8 c
    (∀ v ∈ [5#8, 6#8, 7#8], pairMatch k v 7#8 = false) ∧
    (∀ v ∈ [0#8, 1#8, 4#8], (pairMatch k v 7#8 = true ↔ k = v)) ∧
    (pairMatch k 0#8 6#8 = true ↔ k = 0 ∨ k = 1) ∧ (pairMatch k 2#8 6#8 = true ↔ k = 2 ∨ k = 3) := by
  decide

/-! ### The origin band -/

theorem band_bit : ∀ p < 8, ∀ b ∈ List.range 7, (BitVec.ofNat 8 (originBand p)).getLsbD b = decide (b + 1 ≤ p) := by
  decide

/-- What the origin band answers to: one bit set or clear, and a run of bands (R23). -/
theorem band_pairs : ∀ p < 8,
    let k := BitVec.ofNat 8 (originBand p)
    (∀ n ∈ [1, 2, 3, 4, 5, 6, 7],
      pairMatch k (BitVec.ofNat 8 (2 ^ (n - 1))) (BitVec.ofNat 8 (2 ^ (n - 1))) = true ↔ n ≤ p) ∧
    (∀ n ∈ List.range 7, pairMatch k 0#8 (BitVec.ofNat 8 (2 ^ n)) = true ↔ p ≤ n) ∧
    (∀ a ∈ [1, 2, 3, 4, 5, 6], ∀ b ∈ [1, 2, 3, 4, 5, 6], a ≤ b →
      (pairMatch k (BitVec.ofNat 8 (2 ^ (a - 1))) (BitVec.ofNat 8 (2 ^ (a - 1) + 2 ^ b)) = true ↔ a ≤ p ∧ p ≤ b)) := by
  decide

/-- No band has a lower bit clear and a higher bit set (R23). -/
theorem band_rejects {p : Nat} (hp : p < 8) (v m : Byte) {a b : Nat} (ha : a ∈ List.range 7) (hb : b ∈ List.range 7)
    (hab : a < b) (hma : m.getLsbD a = true) (hmb : m.getLsbD b = true) (hva : v.getLsbD a = false)
    (hvb : v.getLsbD b = true) : pairMatch (BitVec.ofNat 8 (originBand p)) v m = false := by
  rw [Bool.eq_false_iff, Ne, pairMatch_iff_ternary]
  intro h
  have hlow := (h a (by simp at ha; omega) hma).symm.trans (band_bit p hp a ha)
  have hhigh := (h b (by simp at hb; omega) hmb).symm.trans (band_bit p hp b hb)
  have hn : ¬ a + 1 ≤ p := of_decide_eq_false (hlow.symm.trans hva)
  have hy : b + 1 ≤ p := of_decide_eq_true (hhigh.symm.trans hvb)
  omega

/-! ### The range mask -/

theorem rangeMask_eq (img : Image) (v : Nat) (d : List Byte) :
    let b := fun j => bit (rangeBit (img.ranges.getD j ⟨0, 0, 0⟩) v d)
    rangeMask img v d = b 0 + 2 * b 1 + 4 * b 2 + 8 * b 3 := by
  simp [rangeMask, List.range, List.range.loop]
  omega

/-- Four checkers' bits in a byte: bit j is checker j's, and the bits above are 0 (R24). -/
theorem rangeWord_bits (a b c d : Bool) :
    let w := BitVec.ofNat 8 (bit a + 2 * bit b + 4 * bit c + 8 * bit d)
    w.getLsbD 0 = a ∧ w.getLsbD 1 = b ∧ w.getLsbD 2 = c ∧ w.getLsbD 3 = d ∧ ∀ j ∈ [4, 5, 6, 7], w.getLsbD j = false := by
  revert a b c d
  decide

/-- Bit j of the range mask is what checker j yields (R24). -/
theorem rangeMask_bit (img : Image) (v : Nat) (d : List Byte) :
    (∀ j ∈ List.range 4, (BitVec.ofNat 8 (rangeMask img v d)).getLsbD j = rangeBit (img.ranges.getD j ⟨0, 0, 0⟩) v d) ∧
    ∀ j ∈ [4, 5, 6, 7], (BitVec.ofNat 8 (rangeMask img v d)).getLsbD j = false := by
  rw [rangeMask_eq]
  obtain ⟨h0, h1, h2, h3, high⟩ := rangeWord_bits (rangeBit (img.ranges.getD 0 ⟨0, 0, 0⟩) v d)
    (rangeBit (img.ranges.getD 1 ⟨0, 0, 0⟩) v d) (rangeBit (img.ranges.getD 2 ⟨0, 0, 0⟩) v d)
    (rangeBit (img.ranges.getD 3 ⟨0, 0, 0⟩) v d)
  refine ⟨fun j hj => ?_, high⟩
  have hj4 : j = 0 ∨ j = 1 ∨ j = 2 ∨ j = 3 := by
    simp at hj
    omega
  rcases hj4 with rfl | rfl | rfl | rfl
  exacts [h0, h1, h2, h3]

theorem within_iff (lo hi n : Nat) : within lo hi n = true ↔ lo ≤ n ∧ n ≤ hi := by
  simp [within]

/-- What a checker yields, by its source (R24). -/
theorem rangeBit_iff (r : RangeRec) (v : Nat) (d : List Byte) :
    let byte := fun i => (byteAt d i).toNat
    (r.source = 0 → rangeBit r v d = false) ∧
    (r.source = 1 → (rangeBit r v d = true ↔ r.low ≤ v ∧ v ≤ r.high)) ∧
    (r.source = 2 → (rangeBit r v d = true ↔
      2 ≤ d.length ∧ r.low ≤ byte 0 * 256 + byte 1 ∧ byte 0 * 256 + byte 1 ≤ r.high)) ∧
    (r.source = 3 → (rangeBit r v d = true ↔
      4 ≤ d.length ∧ r.low ≤ byte 2 * 256 + byte 3 ∧ byte 2 * 256 + byte 3 ≤ r.high)) := by
  refine ⟨fun h => ?_, fun h => ?_, fun h => ?_, fun h => ?_⟩
  · simp [rangeBit, checkedValue, h]
  · simp [rangeBit, checkedValue, h, within_iff]
  · by_cases hl : 2 ≤ d.length
    · simp [rangeBit, checkedValue, h, hl, within_iff, beAt_two (off := 0) hl]
    · simp [rangeBit, checkedValue, h, hl]
  · by_cases hl : 4 ≤ d.length
    · simp [rangeBit, checkedValue, h, hl, within_iff, beAt_two (off := 2) hl]
    · simp [rangeBit, checkedValue, h, hl]

theorem target_ne_seven {x : BitVec 3} (h : x ≠ 7) : x.toNat ≠ 7 := fun e => h (BitVec.eq_of_toNat_eq e)

/-- Settles O19: relation code, band and range mask field by field, over the finitely many codes and bands there are. -/
theorem keyRelationBandAndRangeMask : Obligations.KeyRelationBandAndRangeMask := by
  unfold Obligations.KeyRelationBandAndRangeMask
  intro s p f k
  have hband : k.band = BitVec.ofNat 8 (originBand f.origin.toNat) := rfl
  have hrel : k.relation = BitVec.ofNat 8 (relationCode s.relay.own f.target.toNat) := rfl
  have hall : f.target = 7 → k.relation = 0 := by
    intro h
    rw [hrel, h]
    rfl
  have hunplaced : f.target ≠ 7 → s.relay.own = none → k.relation = 4 := by
    intro h ho
    rw [hrel, ho, relationCode_unplaced (target_ne_seven h)]
    rfl
  have ho : f.origin.toNat < 8 := f.origin.isLt
  obtain ⟨hhigh, hcodes, hself, hrear⟩ := relation_pairs _ (relationCode_lt s.relay.own f.target.toNat)
  obtain ⟨hset, hclear, hrun⟩ := band_pairs _ ho
  obtain ⟨hbits, habove⟩ := rangeMask_bit s.active s.wheel.reference f.data
  refine ⟨hall, hunplaced, fun n _ h hn => ?_, fun hn => ?_, hhigh, hcodes, fun v => pairMatch_mask_zero _ v, hself, hrear,
    band_bit _ ho, hset, hclear, hrun, fun v m a ha b hb => band_rejects ho v m ha hb, fun hn => ?_, fun j hj => ?_, habove⟩
  · rw [hrel, hn, relationCode_placed (target_ne_seven h)]
    split
    · rfl
    · split <;> rfl
  · by_cases h : f.target = 7
    · exact .inl (hall h)
    · exact .inr (hunplaced h hn)
  · unfold ownCode
    rw [hn]
    rfl
  · have hj' : k.range.getLsbD j = _ := hbits j hj
    intro q byte within
    rw [hj']
    exact rangeBit_iff q s.wheel.reference f.data

end Sys2Proof.Machine
end

section
/-! PROOFS. A received frame: what the reception makes of the port and the relay (R1, R12, R15), what the assembled action
makes of the rest (R14, R35, R36), and the frames of classes DISCOVER and DEMAND (O14 to O17). -/

namespace Sys2Proof.Machine

variable {s t : State} {L : List Part}

/-! ### What the own warning word speaks of -/

/-- The own warning word is a function of the image, the chain, the composer, the stability unit, the tyres, service mode and
CONFIG_INVALID (R13). -/
theorem SameBut.warningWord (g : SameBut L s t) (hL : ∀ p ∈ [Part.active, .configInvalid, .chain, .composer, .stability,
    .tyre, .mgmt], p ∉ L) : Machine.warningWord t = Machine.warningWord s := by
  have hactive : t.active = s.active := g .active (hL _ (by decide))
  have hinvalid : t.configInvalid = s.configInvalid := g .configInvalid (hL _ (by decide))
  have hchain : t.chain = s.chain := g .chain (hL _ (by decide))
  have hcomposer : t.composer = s.composer := g .composer (hL _ (by decide))
  have hstability : t.stability = s.stability := g .stability (hL _ (by decide))
  have htyre : t.tyre = s.tyre := g .tyre (hL _ (by decide))
  have hmgmt : t.mgmt = s.mgmt := g .mgmt (hL _ (by decide))
  have hjudged : ∀ i, judged t i = judged s i := by
    intro i
    unfold judged State.position
    rw [htyre]
  simp only [Machine.warningWord, amber, red, tyreLow, tyreCrit, tyreMissing, anyFailing, anyTyre, stabilityFlag, anyDegraded,
    inUse, State.node, State.inService, hactive, hinvalid, hchain, hcomposer, hstability, hmgmt, hjudged]

/-! ### The reception -/

theorem countHits_hits (w : List Nat) (s : State) :
    (countHits w s).hits = w.foldl (fun h n => h.modify n (satSucc 65535)) s.hits := rfl

theorem received_port (p : Port) (f : Frame) (s : State) : (received p f s).port p =
    { s.port p with present := true, lastReception := some s.time, presence := some (s.active.port p).timeout } := by
  unfold received
  have h1 : ∀ u : State, (hearWarn p f u).port p = u.port p := by
    intro u
    unfold hearWarn
    split <;> cases p <;> rfl
  have h2 : ∀ u : State, ∀ b, (startIfNew p b u).port p = u.port p := by
    intro u b
    unfold startIfNew
    split <;> cases p <;> rfl
  rw [h1, h2]
  exact updPort_port_self s p _

theorem received_port_other (p : Port) (f : Frame) (s : State) :
    (received p f s).port (otherPort p) = s.port (otherPort p) := by
  cases p
  · exact (same_received .A f s).at .portB (by decide)
  · exact (same_received .B f s).at .portA (by decide)

/-- The relay at a reception: port A's new partner starts the reports, and a WARN on port B is heard (R12, R15). -/
theorem received_relay (p : Port) (f : Frame) (s : State) :
    (received p f s).relay.own = s.relay.own ∧ (received p f s).relay.discovery = s.relay.discovery ∧
    (received p f s).relay.warn = (if p = .A ∧ s.portA.present = false then some 100 else s.relay.warn) ∧
    (received p f s).relay.status = (if p = .A ∧ s.portA.present = false then some 500 else s.relay.status) ∧
    (received p f s).relay.tyre = (if p = .A ∧ s.portA.present = false then some 1000 else s.relay.tyre) ∧
    (received p f s).relay.warnHeard =
      (if p = .B ∧ f.cls = 0x03 ∧ 3 ≤ f.data.length then some s.time else s.relay.warnHeard) ∧
    (received p f s).relay.reportIndex = s.relay.reportIndex := by
  cases p with
  | A =>
    have h : (received .A f s).relay = (startIfNew .A s.portA.present (receiveAt .A s)).relay := by
      unfold received hearWarn
      rw [if_neg (by simp)]
      rfl
    rw [h]
    cases hp : s.portA.present <;> simp [startIfNew, startReports, receiveAt]
  | B =>
    have h : (received .B f s).relay = (hearWarn .B f (receiveAt .B s)).relay := by
      unfold received startIfNew
      rw [if_neg (by simp)]
    rw [h]
    by_cases hw : f.cls = 0x03 ∧ 3 ≤ f.data.length
    · simp [hearWarn, receiveAt, clsWarn, hw]
    · have hh : hearWarn .B f (receiveAt .B s) = receiveAt .B s :=
        if_neg fun hc => hw (show f.cls = clsWarn ∧ _ by simpa using hc)
      have hn : ¬ (Port.B = .B ∧ f.cls = 0x03 ∧ 3 ≤ f.data.length) := fun hc => hw hc.2
      rw [hh, if_neg hn]
      simp [receiveAt]

theorem buildKey_received (p : Port) (f : Frame) (s : State) : buildKey (received p f s) p f = buildKey s p f := by
  have hactive : (received p f s).active = s.active := same_received p f s .active (by cases p <;> decide)
  have hwheel : (received p f s).wheel = s.wheel := same_received p f s .wheel (by cases p <;> decide)
  unfold buildKey
  rw [hactive, hwheel, (received_relay p f s).1]

/-- The state to which a received frame's action is applied: the reception done and the lookup's wins counted. -/
def looked (p : Port) (f : Frame) (s : State) : State := countHits (lookup s.active p (buildKey s p f)).2 (received p f s)

/-- In RUN a frame of at most 8 bytes is received, looked up and its assembled action applied (R1, R30 to R38). -/
theorem frameReceived_of_run (h : s.power.state = .run) {f : Frame} (hl : f.data.length ≤ 8) (p : Port) (o : CopyOrder) :
    exec (.frameReceived p f o) s =
      .next (applyAction p f (lookup s.active p (buildKey s p f)).1 o (looked p f s)) := by
  have hactive : (received p f s).active = s.active := same_received p f s .active (by cases p <;> decide)
  show Host.Outcome.next (receiveFrame p f o s) = _
  unfold receiveFrame classify looked
  rw [if_pos (by simp [State.inRun, h, Frame.wf, hl]), buildKey_received, hactive]

theorem same_looked (p : Port) (f : Frame) (s : State) : SameBut [.portA, .portB, .relay, .hits] s (looked p f s) :=
  (same_received p f s).comp (same_countHits _ _) (by cases p <;> decide) (by decide)

theorem looked_port (p q : Port) (f : Frame) (s : State) : (looked p f s).port q = (received p f s).port q := by
  cases q <;> rfl

theorem looked_hits (p : Port) (f : Frame) (s : State) : (looked p f s).hits =
    (lookup s.active p (buildKey s p f)).2.foldl (fun h n => h.modify n (satSucc 65535)) s.hits := by
  have h : (received p f s).hits = s.hits := same_received p f s .hits (by cases p <;> decide)
  unfold looked
  rw [countHits_hits, h]

/-! ### The hand-off of a frame that is no request -/

/-- All that the composer may change at a DEMAND (R99 to R103). -/
theorem same_consumeDemand (p d) (s : State) :
    SameBut [.incidents, .portA, .channels, .load, .composer, .stability] s (consumeDemand p d s) := by
  unfold consumeDemand
  split
  · exact .refl _ s
  · exact (same_updComposer _ s).comp (same_reestablish _) (by decide) (by decide)

/-- All that a consumer may change at a frame of a class other than MGMT_REQ (R36). -/
theorem same_handOff {f : Frame} (h : f.cls ≠ clsMgmtReq) (p c) (s : State) :
    SameBut [.incidents, .portA, .portB, .relay, .channels, .load, .composer, .stability] s (handOff p f c s) := by
  unfold handOff
  split
  · split
    · exact (same_consumeDemand _ _ s).mono (by decide)
    · exact .refl _ s
  · split
    · exact (same_discoverConsume _ _ s).mono (by decide)
    · exact .refl _ s
  · rw [if_neg h]
    exact .refl _ s
  · exact .refl _ s
  · exact .refl _ s

theorem moves_handOff {f : Frame} (h : f.cls ≠ clsMgmtReq) (p c) (s : State) : Moves s (handOff p f c s) := by
  unfold handOff
  split
  · split
    · exact moves_consumeDemand _ _ s
    · exact .refl s
  · split
    · exact moves_discoverConsume _ _ s
    · exact .refl s
  · rw [if_neg h]
    exact .refl s
  · exact .refl s
  · exact .refl s

/-- Two states of the relay that differ at most in own position and discovery timer (R9, R11). -/
def RelayKept (s t : State) : Prop := t.relay = { s.relay with own := t.relay.own, discovery := t.relay.discovery }

theorem relayKept_of_eq (h : t.relay = s.relay) : RelayKept s t := by
  unfold RelayKept
  rw [h]

theorem RelayKept.trans {u : State} (h : RelayKept s t) (g : RelayKept t u) : RelayKept s u := by
  unfold RelayKept at *
  rw [g, h]

theorem relayKept_discoverConsume (p d) (s : State) : RelayKept s (discoverConsume p d s) := by
  unfold discoverConsume
  split
  · exact relayKept_of_eq rfl
  · dsimp only
    split
    · split
      · exact relayKept_of_eq rfl
      · simp [RelayKept, place, originateDiscover]
    · split
      · simp [RelayKept, unplace]
      · exact relayKept_of_eq rfl

theorem relayKept_handOff {f : Frame} (h : f.cls ≠ clsMgmtReq) (p c) (s : State) : RelayKept s (handOff p f c s) := by
  unfold handOff
  split
  · split
    · exact relayKept_of_eq ((same_consumeDemand _ _ s).at .relay (by decide))
    · exact relayKept_of_eq rfl
  · split
    · exact relayKept_discoverConsume _ _ s
    · exact relayKept_of_eq rfl
  · rw [if_neg h]
    exact relayKept_of_eq rfl
  · exact relayKept_of_eq rfl
  · exact relayKept_of_eq rfl

/-- What holds after the hand-off and after the pass, in either order, holds after the action (R35). -/
theorem applyAction_trans {R : State → State → Prop} (refl : ∀ u, R u u) (trans : ∀ {u v w}, R u v → R v w → R u w)
    {p : Port} {f : Frame} {a : Action} (hand : ∀ u, R u (handOff p f a.consumer u)) (pass : ∀ u, R u (applyPass p f a u))
    (o : CopyOrder) (s : State) : R s (applyAction p f a o s) := by
  have hh : ∀ u, R u (applyHandOff p f a u) := by
    intro u
    unfold applyHandOff
    split
    · exact hand u
    · exact refl u
  cases o with
  | passFirst => exact trans (pass s) (hh _)
  | handOffFirst => exact trans (hh s) (pass _)

theorem same_applyPass_ports (p f a) (s : State) : SameBut [.portA, .portB] s (applyPass p f a s) :=
  (same_applyPass p f a s).mono (portPart_mem _)

theorem same_applyAction {f : Frame} (h : f.cls ≠ clsMgmtReq) (p a o) (s : State) :
    SameBut [.incidents, .portA, .portB, .relay, .channels, .load, .composer, .stability] s (applyAction p f a o s) :=
  applyAction_trans (SameBut.refl _) SameBut.trans (same_handOff h p _)
    (fun u => (same_applyPass_ports p f a u).mono (by decide)) o s

theorem moves_applyAction {f : Frame} (h : f.cls ≠ clsMgmtReq) (p a o) (s : State) : Moves s (applyAction p f a o s) :=
  applyAction_trans Moves.refl Moves.trans (moves_handOff h p _) (moves_applyPass p f a) o s

theorem relayKept_applyAction {f : Frame} (h : f.cls ≠ clsMgmtReq) (p a o) (s : State) : RelayKept s (applyAction p f a o s) :=
  applyAction_trans (fun _ => relayKept_of_eq rfl) RelayKept.trans (relayKept_handOff h p _)
    (fun u => relayKept_of_eq ((same_applyPass_ports p f a u).at .relay (by decide))) o s

/-- Nothing that moves frames and incidents changes a last-reception time. -/
theorem Moves.lastReception (m : Moves s t) (p : Port) : (t.port p).lastReception = (s.port p).lastReception := by
  induction m with
  | quiet hA hB _ _ => cases p <;> simp [*]
  | enqueued q c x _ ih => exact Eq.trans (by cases p <;> cases q <;> simp [enqueue]) ih
  | opened k d _ ih => cases p <;> simpa using ih
  | closed w _ ih => exact ih
  | after _ hA hB _ _ ih => cases p <;> simpa [hA, hB] using ih

/-- Settles O14: the reception does it, and no consumer of another class than MGMT_REQ undoes it. -/
theorem receptionMarksThePartnerPresent : Obligations.ReceptionMarksThePartnerPresent := by
  unfold Obligations.ReceptionMarksThePartnerPresent
  intro s p f o
  refine ⟨fun h => frameReceived_of_out (by simpa [State.inRun] using h) p f o, fun hrun hl hcls => ?_⟩
  refine ⟨_, frameReceived_of_run hrun hl p o, ?_⟩
  generalize (lookup s.active p (buildKey s p f)).1 = a
  have m := moves_applyAction hcls p a o (looked p f s)
  have hrelay : (applyAction p f a o (looked p f s)).relay = _ := relayKept_applyAction hcls p a o (looked p f s)
  have hp : (looked p f s).port p = _ := (looked_port p p f s).trans (received_port p f s)
  have hq : (looked p f s).port (otherPort p) = s.port (otherPort p) :=
    (looked_port p _ f s).trans (received_port_other p f s)
  obtain ⟨_, _, hwarn, hstatus, htyre, hheard, hindex⟩ := received_relay p f s
  refine ⟨?_, ?_, ?_, ?_, ?_, ?_, ?_, ?_, ?_, ?_, ?_⟩
  · rw [(m.presence p).1, hp]
  · rw [m.lastReception p, hp]
  · rw [(m.presence p).2, hp]
  · rw [(m.presence _).1, hq]
  · rw [(m.presence _).2, hq]
  · rw [hrelay]; exact hwarn
  · rw [hrelay]; exact hstatus
  · rw [hrelay]; exact htyre
  · rw [hrelay]; exact hheard
  · rw [hrelay]; exact hindex
  · exact (same_looked p f s).comp (same_applyAction hcls p a o _) (by decide) (by decide)

/-! ### A frame that no consumer takes -/

/-- An action that hands a frame to no consumer that takes it only passes it (R35, R36). -/
theorem applyAction_of_not_delivers {p : Port} {f : Frame} {a : Action} (h : a.delivers p f.cls = false) (o : CopyOrder)
    (s : State) : applyAction p f a o s = applyPass p f a s := by
  have hh : ∀ u, applyHandOff p f a u = u := by
    intro u
    unfold Action.delivers at h
    unfold applyHandOff
    split
    · next hands =>
      rw [hands, Bool.true_and] at h
      unfold handOff
      cases e : a.consumer <;> simp only [e, decide_eq_false_iff_not, Bool.and_eq_false_iff] at h ⊢
      · exact if_neg h
      · split
        · next hc =>
          have hp : p = .B := by
            rcases h with h | h
            · exact absurd hc h
            · cases p
              · exact absurd rfl h
              · rfl
          subst hp
          rfl
        · rfl
      · exact if_neg h
    · rfl
  cases o
  · show applyHandOff p f a (applyPass p f a s) = _
    rw [hh]
  · show applyPass p f a (applyHandOff p f a s) = _
    rw [hh]

theorem applyPass_port_self (p : Port) (f a) (s : State) : (applyPass p f a s).port p = s.port p := by
  unfold applyPass
  split
  · cases p <;> rfl
  · rfl

theorem passes_iff (d : Disposition) : d.passes = true ↔ d = .pass ∨ d = .copy := by
  simp [Disposition.passes]

/-- A passed frame leaves by the other port with its identifier, its data rewritten as the action says (R14, R35). -/
theorem applyPass_port_other (p : Port) (f a) (s : State) : (applyPass p f a s).port (otherPort p) =
    if a.disposition = .pass ∨ a.disposition = .copy then (s.port (otherPort p)).enqueue a.queueClass
      { frame := { f with data := if a.rewrite = .mergeWarn then mergeWarn (warningWord s) f.data else f.data },
        restart := false }
    else s.port (otherPort p) := by
  unfold applyPass
  by_cases h : a.disposition = .pass ∨ a.disposition = .copy
  · rw [if_pos h, if_pos ((passes_iff _).mpr h)]
    exact enqueue_port _ _ _ s
  · rw [if_neg h, if_neg (mt (passes_iff _).mp h)]

theorem beBytes_one (n : Nat) : beBytes 1 n = [BitVec.ofNat 8 n] := by
  simp [beBytes]

theorem beBytes_two (n : Nat) : beBytes 2 n = [BitVec.ofNat 8 (n / 256), BitVec.ofNat 8 n] := by
  simp [beBytes]

theorem mergeWarn_of_long (own : BitVec 16) {d : List Byte} (h : 3 ≤ d.length) : mergeWarn own d =
    BitVec.ofNat 8 ((BitVec.ofNat 16 (beAt d 0 2) ||| own).toNat / 256) ::
      BitVec.ofNat 8 (BitVec.ofNat 16 (beAt d 0 2) ||| own).toNat ::
        BitVec.ofNat 8 (min 15 ((byteAt d 2).toNat + 1)) :: d.drop 3 := by
  unfold mergeWarn
  rw [if_neg (by omega), beBytes_two, beAt_one]
  rfl

/-- MERGE_WARN on at least three bytes (R14, R184). -/
theorem mergeWarn_fields (own : BitVec 16) {d : List Byte} (h : 3 ≤ d.length) :
    (mergeWarn own d).length = d.length ∧ (mergeWarn own d).drop 3 = d.drop 3 ∧
    BitVec.ofNat 16 (beAt (mergeWarn own d) 0 2) = BitVec.ofNat 16 (beAt d 0 2) ||| own ∧
    (byteAt (mergeWarn own d) 2).toNat = min 15 ((byteAt d 2).toNat + 1) := by
  rw [mergeWarn_of_long own h]
  generalize BitVec.ofNat 16 (beAt d 0 2) ||| own = w
  refine ⟨?_, rfl, ?_, ?_⟩
  · simp
    omega
  · rw [beAt_two (by simp)]
    apply BitVec.eq_of_toNat_eq
    have hw := w.isLt
    simp [byteAt]
    omega
  · simp [byteAt]

/-- Settles O15: such a frame only passes the reception, the lookup's count and the egress queue. -/
theorem relayedFramesKeepTheirIdentifier : Obligations.RelayedFramesKeepTheirIdentifier := by
  unfold Obligations.RelayedFramesKeepTheirIdentifier
  intro s p f o l merged hrun hl hd
  refine ⟨⟨_, frameReceived_of_run hrun hl p o, ?_⟩, fun h => if_pos h, fun h => mergeWarn_fields _ h⟩
  rw [applyAction_of_not_delivers hd]
  have hword : warningWord (looked p f s) = warningWord s := (same_looked p f s).warningWord (by decide)
  have hrelay : (applyPass p f l.1 (looked p f s)).relay = (received p f s).relay :=
    (same_applyPass_ports p f l.1 _).at .relay (by decide)
  have hhits : (applyPass p f l.1 (looked p f s)).hits = (looked p f s).hits := (same_applyPass_ports p f l.1 _).at .hits (by decide)
  obtain ⟨hown, hdiscovery, _⟩ := received_relay p f s
  refine ⟨?_, ?_, ?_, ?_, ?_, (same_looked p f s).trans ((same_applyPass_ports p f l.1 _).mono (by decide))⟩
  · rw [applyPass_port_other, hword, looked_port, received_port_other]
  · rw [applyPass_port_self, looked_port, received_port]
  · rw [hrelay, hown]
  · rw [hrelay, hdiscovery]
  · rw [hhits, looked_hits]

end Sys2Proof.Machine
end

section
/-! PROOFS. DISCOVER (O16) and DEMAND (O17). -/

namespace Sys2Proof.Machine

variable {s t : State} {L : List Part}

/-! ### DISCOVER -/

/-- Slot 1 of every image takes a pass-1 DISCOVER on port A (R27). -/
theorem winner_discover (img : Image) {k : Key} (hpass : k.pass = 0) (hport : k.port = 0) (hcls : k.cls = 6) :
    winner img k = some 1 := by
  have narrow : (1#8).getLsbD 1 = false := by decide
  have h0 : entryMatches img k 0 = false := by
    have hm : pairMatch k.cls (byteAt (img.slot 0) 7) (byteAt (img.slot 0) 8) = false := by
      rw [hcls]
      show pairMatch 6#8 16#8 31#8 = false
      decide
    simp [entryMatches, headMatch, hm]
  have h1 : entryMatches img k 1 = true := by
    have hhead : headMatch (img.slot 1) k = true := by
      have hz : ∀ (x y : Byte), pairMatch x y 0#8 = true := fun x y => pairMatch_mask_zero x y
      show (pairMatch k.pass 0#8 1#8 && pairMatch k.group 0#8 0#8 && pairMatch k.port 0#8 1#8 &&
        pairMatch k.cls 6#8 31#8 && pairMatch k.relation 0#8 0#8 && pairMatch k.band 0#8 0#8 &&
        pairMatch k.range 0#8 0#8) = true
      rw [hpass, hport, hcls, hz, hz, hz, hz]
      rfl
    have htail : img.isTail 1 = false := by
      have h : slotWide (img.slot 0) = false := narrow
      simp [Image.isTail, h]
    have hwide : slotWide (img.slot 1) = false := narrow
    have hvalid : slotValid (img.slot 1) = true := by
      show (1#8).getLsbD 0 = true
      decide
    simp [entryMatches, hhead, htail, hwide, hvalid]
  refine List.find?_range_eq_some.mpr ⟨h1, by simp, fun j hj => ?_⟩
  have : j = 0 := by omega
  simp [this, h0]

/-- The assembled action of slot 1: the DISCOVERY consumer takes the frame (R27). -/
theorem lookup_discover (img : Image) {k : Key} (hpass : k.pass = 0) (hport : k.port = 0) (hcls : k.cls = 6) (p : Port) :
    (lookup img p k).1.disposition = .consume ∧ (lookup img p k).1.consumer = .discovery ∧ (lookup img p k).2 = [1] := by
  unfold lookup
  rw [winner_discover img hpass hport hcls]
  exact ⟨rfl, rfl, rfl⟩

theorem applyAction_consume {p : Port} {f : Frame} {a : Action} (h : a.disposition = .consume) (o : CopyOrder) (s : State) :
    applyAction p f a o s = handOff p f a.consumer s := by
  have hp : ∀ u, applyPass p f a u = u := fun u => if_neg (by simp [passes_iff, h])
  have hh : ∀ u, applyHandOff p f a u = handOff p f a.consumer u := fun u => if_pos (by simp [Disposition.hands, h])
  cases o
  · show applyHandOff p f a (applyPass p f a s) = _
    rw [hp, hh]
  · show applyPass p f a (applyHandOff p f a s) = _
    rw [hp, hh]

/-- A DISCOVER on port A in RUN reaches the DISCOVERY consumer, whatever the image (R9, R27). -/
theorem frameReceived_discover (hrun : s.power.state = .run) {f : Frame} (hl : f.data.length ≤ 8) (hcls : f.cls = 0x06)
    (o : CopyOrder) : (lookup s.active .A (buildKey s .A f)).2 = [1] ∧
      exec (.frameReceived .A f o) s = .next (discoverConsume .A f.data (looked .A f s)) := by
  have hk : (buildKey s .A f).cls = 6 := by
    show BitVec.ofNat 8 f.cls.toNat = 6
    rw [hcls]
    rfl
  obtain ⟨hd, hc, hw⟩ := lookup_discover s.active (k := buildKey s .A f) rfl rfl hk .A
  refine ⟨hw, ?_⟩
  rw [frameReceived_of_run hrun hl, applyAction_consume hd, hc]
  exact congrArg _ (if_pos hcls)

theorem discoverConsume_of_empty (p : Port) (s : State) : discoverConsume p [] s = s := if_pos (by simp)

/-- The DISCOVERY consumer's three answers to a first byte (R9). -/
theorem discoverConsume_A {d : List Byte} (h : d ≠ []) (s : State) : discoverConsume .A d s =
    if (byteAt d 0).toNat ≤ 5 then
      if s.relay.own = some ((byteAt d 0).toNat + 1) then s
      else closeIncident .positionConflict 6 (place ((byteAt d 0).toNat + 1) s)
    else if (byteAt d 0).toNat = 6 then openIncident .positionConflict 6 (unplace s)
    else s := if_neg (by simp [h])

theorem place_relay (n : Nat) (s : State) : (place n s).relay = { s.relay with own := some n, discovery := some 1000 } := by
  simp [place, originateDiscover]

theorem place_portB (n : Nat) (s : State) : (place n s).portB = s.portB.enqueue .general
    { frame := { cls := 0x06, target := 7, origin := BitVec.ofNat 3 n, data := [BitVec.ofNat 8 n] }, restart := false } := by
  show s.portB.enqueue .general { frame := ownFrame _ clsDiscover 7 (beBytes 1 n), restart := false } = _
  rw [beBytes_one]
  rfl

/-- A closing depends on the list and the operating time alone. -/
theorem closeIncident_incidents (k : IncidentKind) (d : Nat) (hi : t.incidents = s.incidents) (ht : t.time = s.time) :
    (closeIncident k d t).incidents = (closeIncident k d s).incidents := by
  simp only [closeIncident, closeIncidents, hi, ht]

/-- Settles O16: slot 1 hands the frame to the DISCOVERY consumer under every image, and its first byte decides. -/
theorem discoverPlacesThePart : Obligations.DiscoverPlacesThePart := by
  unfold Obligations.DiscoverPlacesThePart
  intro s f o hrun hl hcls n
  obtain ⟨hwins, hexec⟩ := frameReceived_discover hrun hl hcls o
  have g := same_looked .A f s
  have hincidents : (looked .A f s).incidents = s.incidents := g.at .incidents (by decide)
  have htime : (looked .A f s).time = s.time := g.at .time (by decide)
  obtain ⟨hown, hdiscovery, _⟩ : (looked .A f s).relay.own = s.relay.own ∧
    (looked .A f s).relay.discovery = s.relay.discovery ∧ _ := received_relay .A f s
  have hportB : (looked .A f s).portB = s.portB :=
    (looked_port .A .B f s).trans (received_port_other .A f s)
  refine ⟨_, hexec, ?_, fun hne hn hnew => ?_, fun hne hn => ?_, ?_,
    g.comp (same_discoverConsume .A f.data _) (by decide) (by decide)⟩
  · intro hcase
    have hsame : discoverConsume .A f.data (looked .A f s) = looked .A f s := by
      by_cases he : f.data = []
      · rw [he, discoverConsume_of_empty]
      · rw [discoverConsume_A he, hown]
        rcases hcase with h | h | ⟨h, ho⟩
        · exact absurd h he
        · rw [if_neg (by omega), if_neg (by omega)]
        · rw [if_pos h, if_pos ho]
    rw [hsame]
    exact ⟨hown, hdiscovery, hportB, hincidents⟩
  · rw [discoverConsume_A hne, if_pos hn, if_neg (by rwa [hown])]
    refine ⟨?_, ?_, ?_, ?_⟩
    · rw [closeIncident_relay, place_relay]
    · rw [closeIncident_relay, place_relay]
    · rw [closeIncident_portB, place_portB, hportB]
    · have hp := same_place (n + 1) (looked .A f s)
      exact closeIncident_incidents _ _ ((hp.at .incidents (by decide)).trans hincidents) ((hp.at .time (by decide)).trans htime)
  · rw [discoverConsume_A hne, if_neg (by omega), if_pos hn]
    refine ⟨?_, ?_, ?_, hasOpen_openIncident _ _ _⟩
    · rw [openIncident_relay]; rfl
    · rw [openIncident_relay]; rfl
    · rw [openIncident_portB]; exact hportB
  · have hh : (discoverConsume .A f.data (looked .A f s)).hits = (looked .A f s).hits :=
      (same_discoverConsume .A f.data _).at .hits (by decide)
    rw [hh, looked_hits, hwins]
    rfl

/-! ### DEMAND -/

/-- The demand that a DEMAND frame of at least six bytes carries (R99). -/
def demandOf (p : Port) (now : Time) (d : List Byte) : Demand :=
  { value := min 1000 (beAt d 0 2), stop := (byteAt d 2).getLsbD 0, park := (byteAt d 2).getLsbD 1, seq := byteAt d 3,
    towing := if beAt d 4 2 = 0xFFFF then none else some (min 2500 (beAt d 4 2)), ingress := p, time := now }

theorem consumeDemand_ignored {d : List Byte} (h : d.length < 6 ∨ beAt d 0 2 = 0xFFFF) (p : Port) (s : State) :
    consumeDemand p d s = s := by
  have hn : parseDemand p s.time d = none := if_pos (by simpa using h)
  unfold consumeDemand
  rw [hn]

theorem consumeDemand_accepted {d : List Byte} (hl : 6 ≤ d.length) (hv : beAt d 0 2 ≠ 0xFFFF) (p : Port) (s : State) :
    consumeDemand p d s = acceptDemand (demandOf p s.time d) s := by
  have hs : parseDemand p s.time d = some (demandOf p s.time d) := if_neg (by simp [hl, hv])
  unfold consumeDemand
  rw [hs]

/-- The composer with a new demand recorded and its timer restarted (R99, R100). -/
def recorded (d : Demand) (s : State) : State :=
  s.updComposer fun c => { c with
    gaps := if sequenceGap c.demand d then satSucc 65535 c.gaps else c.gaps, demand := some d,
    timer := some s.active.tuning.demandTimeout }

theorem acceptDemand_eq (d : Demand) (s : State) : acceptDemand d s = reestablish (recorded d s) := rfl

/-- The control-line demand is a function of the chain and the image (R101). -/
theorem controlDemand_congr (ha : t.active = s.active) (hc : t.chain = s.chain) : controlDemand t = controlDemand s := by
  have hn : t.node = s.node := by
    funext n
    simp only [State.node, hc]
  simp only [controlDemand, refRecord, refNormal, refNode, inUse, hn, ha, hc]
  rfl

/-- The composer after an accepted demand in RUN: FRESH, and ELECTRONIC unless the chain or the tables forbid it (R99 to
R102). -/
theorem acceptDemand_composer (hrun : s.power.state = .run) (d : Demand) : (acceptDemand d s).composer = { s.composer with
    demand := some d, timer := some s.active.tuning.demandTimeout,
    gaps := if sequenceGap s.composer.demand d then satSucc 65535 s.composer.gaps else s.composer.gaps,
    effective := max d.value (controlDemand s),
    mode := if s.chain.health = .running ∧ s.configInvalid = false then .electronic else .fallback } := by
  have he : effectiveDemand (recorded d s) = max d.value (controlDemand s) := by
    unfold effectiveDemand
    rw [controlDemand_congr (s := s) (t := recorded d s) rfl rfl]
    rfl
  have hm : brakeMode (recorded d s) =
      if s.chain.health = .running ∧ s.configInvalid = false then .electronic else .fallback := by
    have hr : (recorded d s).inRun = true := decide_eq_true hrun
    have hc : chainRunning (recorded d s) = decide (s.chain.health = .running) := rfl
    have hi : (recorded d s).configInvalid = s.configInvalid := rfl
    have hf : demandFresh (recorded d s) = true := rfl
    unfold brakeMode
    rw [hr, hc, hi, hf]
    by_cases hh : s.chain.health = .running <;> cases s.configInvalid <;> simp [hh]
  rw [acceptDemand_eq, reestablish_composer, he, hm]
  rfl

/-- An OFF test that leaves the state as it is leaves port A as it is (R122). -/
theorem testOff_portA (h : (testOff s).stability.state = s.stability.state) : (testOff s).portA = s.portA := by
  unfold testOff at *
  split at h
  · rw [enterOff_state] at h
    rw [enterOff_of_off h.symm]
    split <;> rfl
  · next hc => rw [if_neg hc]

theorem reestablish_portA (h : (reestablish s).stability.state = s.stability.state) : (reestablish s).portA = s.portA := by
  have hs : (remoded s).stability = s.stability := (same_remoded s).at .stability (by decide)
  have hA : (remoded s).portA = s.portA := (same_remoded s).at .portA (by decide)
  rw [reestablish_eq] at *
  split at h
  · next hm => rw [if_pos hm, hA]
  · next hm =>
    rw [if_neg hm, testOff_portA (h.trans (congrArg (·.state) hs).symm), hA]

/-- The composer's hand-off touches port A only where the demand's mode change takes the stability unit OFF (R123, R139). -/
theorem consumeDemand_portA (p d) (h : (consumeDemand p d s).stability.state = s.stability.state) :
    (consumeDemand p d s).portA = s.portA := by
  unfold consumeDemand at *
  split at h
  · rfl
  · exact reestablish_portA (s := recorded _ s) h

theorem consumeDemand_port_other {p : Port} (d) (h : p = .A ∨ (consumeDemand p d s).stability.state = s.stability.state) :
    (consumeDemand p d s).port (otherPort p) = s.port (otherPort p) := by
  cases p with
  | A => exact (same_consumeDemand .A d s).at .portB (by decide)
  | B => exact consumeDemand_portA .B d (h.resolve_left (by decide))

theorem hands_of {a : Action} (h : a.disposition = .consume ∨ a.disposition = .copy) : a.disposition.hands = true := by
  rcases h with h | h <;> rw [h] <;> rfl

/-- A DEMAND handed to the composer, the two orders of R35. -/
theorem applyAction_demand {p : Port} {f : Frame} {a : Action} (hd : a.disposition = .consume ∨ a.disposition = .copy)
    (hc : a.consumer = .demand) (hcls : f.cls = clsDemand) (o : CopyOrder) (s : State) :
    applyAction p f a o s = match o with
      | .passFirst => consumeDemand p f.data (applyPass p f a s)
      | .handOffFirst => applyPass p f a (consumeDemand p f.data s) := by
  have hh : ∀ u, applyHandOff p f a u = consumeDemand p f.data u := by
    intro u
    unfold applyHandOff
    rw [if_pos (hands_of hd), hc]
    exact if_pos hcls
  cases o
  · exact hh _
  · show applyPass p f a (applyHandOff p f a s) = _
    rw [hh]

/-- The composer's hand-off in a state that differs from `s` in nothing the composer reads. -/
theorem consumeDemand_composer (hcomposer : t.composer = s.composer) (hactive : t.active = s.active)
    (hchain : t.chain = s.chain) (hinvalid : t.configInvalid = s.configInvalid) (htime : t.time = s.time)
    (hpower : t.power = s.power) (hrun : s.power.state = .run) (p : Port) (d : List Byte) :
    (d.length < 6 ∨ beAt d 0 2 = 0xFFFF → (consumeDemand p d t).composer = s.composer) ∧
    (6 ≤ d.length → beAt d 0 2 ≠ 0xFFFF →
      (consumeDemand p d t).composer = (acceptDemand (demandOf p s.time d) s).composer) := by
  refine ⟨fun h => ?_, fun hl hv => ?_⟩
  · rw [consumeDemand_ignored h, hcomposer]
  · rw [consumeDemand_accepted hl hv, acceptDemand_composer (hpower ▸ hrun), acceptDemand_composer hrun, hcomposer, hactive,
      hchain, hinvalid, htime, controlDemand_congr hactive hchain]

/-- A short or refused DEMAND leaves the composer; any other is recorded (R98 to R102). -/
theorem applyAction_demand_composer {p : Port} {f : Frame} {a : Action} (hrun : s.power.state = .run)
    (hd : a.disposition = .consume ∨ a.disposition = .copy) (hc : a.consumer = .demand) (hcls : f.cls = clsDemand)
    (o : CopyOrder) :
    (f.data.length < 6 ∨ beAt f.data 0 2 = 0xFFFF → (applyAction p f a o s).composer = s.composer) ∧
    (6 ≤ f.data.length → beAt f.data 0 2 ≠ 0xFFFF →
      (applyAction p f a o s).composer = (acceptDemand (demandOf p s.time f.data) s).composer) := by
  rw [applyAction_demand hd hc hcls]
  cases o with
  | passFirst =>
    have g := same_applyPass_ports p f a s
    exact consumeDemand_composer (g.at .composer (by decide)) (g.at .active (by decide)) (g.at .chain (by decide))
      (g.at .configInvalid (by decide)) (g.at .time (by decide)) (g.at .power (by decide)) hrun p f.data
  | handOffFirst =>
    have h : ∀ u, (applyPass p f a u).composer = u.composer := fun u => (same_applyPass_ports p f a u).at .composer (by decide)
    rw [h]
    exact consumeDemand_composer rfl rfl rfl rfl rfl rfl hrun p f.data

/-- The own warning word as it stands when the action passes the frame (R14, R35). -/
def wordAtPass (p : Port) (f : Frame) (a : Action) (o : CopyOrder) (s : State) : BitVec 16 :=
  match o with
  | .passFirst => warningWord s
  | .handOffFirst => warningWord (applyAction p f a o s)

/-- The frame passed beside a DEMAND: the warning word is that of the moment of the pass (R14, R35, log entry 3). -/
theorem applyAction_demand_port {p : Port} {f : Frame} {a : Action}
    (hd : a.disposition = .consume ∨ a.disposition = .copy) (hc : a.consumer = .demand) (hcls : f.cls = clsDemand)
    (o : CopyOrder) (h : p = .A ∨ (applyAction p f a o s).stability.state = s.stability.state) :
    (applyAction p f a o s).port (otherPort p) = if a.disposition = .copy then
      (s.port (otherPort p)).enqueue a.queueClass
        { frame := { f with data := if a.rewrite = .mergeWarn then mergeWarn (wordAtPass p f a o s) f.data else f.data },
          restart := false }
      else s.port (otherPort p) := by
  have hcopy : a.disposition = .pass ∨ a.disposition = .copy ↔ a.disposition = .copy := by
    rcases hd with h | h <;> simp [h]
  unfold wordAtPass
  rw [applyAction_demand hd hc hcls] at *
  cases o with
  | passFirst =>
    have hs : (applyPass p f a s).stability = s.stability := (same_applyPass_ports p f a s).at .stability (by decide)
    dsimp only at h ⊢
    rw [consumeDemand_port_other f.data (hs ▸ h), applyPass_port_other]
    simp only [hcopy]
  | handOffFirst =>
    have g := same_applyPass_ports p f a (consumeDemand p f.data s)
    have hs : (applyPass p f a (consumeDemand p f.data s)).stability = (consumeDemand p f.data s).stability :=
      g.at .stability (by decide)
    dsimp only at h ⊢
    rw [applyPass_port_other, consumeDemand_port_other f.data (hs ▸ h), g.warningWord (by decide)]
    simp only [hcopy]

/-- Settles O17: the reception and the lookup touch nothing of the composer, and the action is the hand-off and the pass. -/
theorem demandIsAccepted : Obligations.DemandIsAccepted := by
  unfold Obligations.DemandIsAccepted
  intro s p f o a hrun hl hcls hd hc
  refine ⟨_, frameReceived_of_run hrun hl p o, ?_⟩
  have g := same_looked p f s
  have hpower : (looked p f s).power.state = .run := (congrArg (·.state) (g.at .power (by decide))).trans hrun
  have hcomposer : (looked p f s).composer = s.composer := g.at .composer (by decide)
  have hstability : (looked p f s).stability = s.stability := g.at .stability (by decide)
  have hport : (looked p f s).port (otherPort p) = s.port (otherPort p) :=
    (looked_port p _ f s).trans (received_port_other p f s)
  have hne : f.cls ≠ clsMgmtReq := by rw [hcls]; decide
  obtain ⟨hignored, haccepted⟩ := applyAction_demand_composer (p := p) hpower hd hc hcls o
  refine ⟨fun h => (hignored h).trans hcomposer, fun h6 hv => ?_, fun h => ?_, ?_,
    g.comp (same_applyAction hne p _ o _) (by decide) (by decide)⟩
  · have hcontrol : controlDemand (looked p f s) = controlDemand s :=
      controlDemand_congr (g.at .active (by decide)) (g.at .chain (by decide))
    rw [haccepted h6 hv, acceptDemand_composer hpower, hcomposer, hcontrol, g.at .time (by decide),
      g.at .active (by decide), g.at .chain (by decide), g.at .configInvalid (by decide)]
    rfl
  · rw [applyAction_demand_port hd hc hcls o (hstability ▸ h), hport]
    cases o
    · rw [show wordAtPass p f a .passFirst (looked p f s) = warningWord s from g.warningWord (by decide)]
    · rfl
  · have hh : ∀ u, (applyAction p f a o u).hits = u.hits := fun u => (same_applyAction hne p a o u).at .hits (by decide)
    rw [hh, looked_hits]

end Sys2Proof.Machine
end

section
/-! PROOFS. The loss of a partner (O22) and the frames of the relay's timers (O24). -/

namespace Sys2Proof.Machine

variable {s t : State} {L : List Part}

/-! ### The loss of a partner (R2, R3, R10, R12) -/

theorem same_relayLoses (p) (s : State) : SameBut [.relay] s (relayLoses p s) := by
  cases p with
  | A => exact (same_unplace s).trans (same_stopReports _)
  | B => exact same_updRelay _ s

/-- Where no response to a RESTART waits, the partner's loss is that of the port and of the relay. -/
theorem presenceExpired_of_not_holds {p : Port} (h : (s.port p).holdsRestart = false) :
    presenceExpired p s = relayLoses p (s.updPort p PortState.lose) := if_neg (by simp [h])

theorem elapse_holdsRestart (r : Nat) (p : Port) (s : State) :
    ((elapse r s).port p).holdsRestart = (s.port p).holdsRestart := by
  cases p <;> rfl

/-- Settles O22: the port is flushed and the relay loses what R10, R12 and R15 name. -/
theorem presenceExpiryLosesThePartner : Obligations.PresenceExpiryLosesThePartner := by
  unfold Obligations.PresenceExpiryLosesThePartner
  intro s r p hr hholds e
  have hexec : exec (.presenceTimerExpiry p) s = .next (relayLoses p (e.updPort p PortState.lose)) := by
    show Host.Outcome.next (onExpiry (s.port p).presence (presenceExpired p) s) = _
    rw [hr]
    exact congrArg _ (presenceExpired_of_not_holds ((elapse_holdsRestart r p s).trans hholds))
  refine ⟨_, hexec, ?_, ?_, ?_, ?_, (same_updPort p _ e).comp (same_relayLoses p _) (by cases p <;> decide) (by cases p <;> decide)⟩
  · cases p <;> rfl
  · cases p <;> rfl
  · rintro rfl
    rfl
  · rintro rfl
    rfl

/-! ### The relay's timers (R11, R15, R17, R18) -/

/-- A WARN is due with no WARN heard from behind for 300 ms (R15). -/
theorem warnDue_of_silent (h : s.portB.present = false ∨ s.relay.warnHeard = none ∨
    ∀ t ∈ s.relay.warnHeard, 300 ≤ (s.time - t).toNat) : warnDue s = true := by
  unfold warnDue
  cases hp : s.portB.present
  · rfl
  · cases hw : s.relay.warnHeard with
    | none => rfl
    | some t =>
      have ht : 300 ≤ interval t s.time := by
        rcases h with h | h | h
        · exact absurd (hp.symm.trans h) (by decide)
        · exact absurd (hw.symm.trans h) (by simp)
        · exact h t hw
      simp [ht]

theorem warnDue_of_heard (hp : s.portB.present = true) (h : ∃ t ∈ s.relay.warnHeard, (s.time - t).toNat < 300) :
    warnDue s = false := by
  obtain ⟨t, ht, hlt⟩ := h
  have hw : s.relay.warnHeard = some t := ht
  have hi : ¬ 300 ≤ interval t s.time := by
    unfold interval
    omega
  simp [warnDue, hp, hw, hi]

theorem warningWord_updRelay (f : Relay → Relay) (s : State) : warningWord (s.updRelay f) = warningWord s :=
  (same_updRelay f s).warningWord (by decide)

theorem warnExpired_relay (s : State) : (warnExpired s).relay = { s.relay with warn := some 100 } := by
  unfold warnExpired originateWarn
  dsimp only
  split
  · rw [enqueue_relay]; rfl
  · rfl

theorem warnExpired_of_due (h : warnDue s = true) : (warnExpired s).portA = s.portA.enqueue .safety
    { frame := { cls := 0x03, target := 0, origin := BitVec.ofNat 3 (s.relay.own.getD 7),
                 data := beBytes 2 (warningWord s).toNat ++ [1] }, restart := false } := by
  have hd : warnDue (s.updRelay fun r => { r with warn := some 100 }) = true := h
  unfold warnExpired
  dsimp only
  rw [if_pos hd]
  unfold originateWarn
  rw [warningWord_updRelay]
  rfl

theorem warnExpired_of_not_due (h : warnDue s = false) : (warnExpired s).portA = s.portA := by
  have hd : ¬ warnDue (s.updRelay fun r => { r with warn := some 100 }) = true := Bool.eq_false_iff.mp h
  unfold warnExpired
  dsimp only
  rw [if_neg hd]
  rfl

/-- The STATUS fields of section 11.1, byte by byte. -/
theorem statusData_eq (s : State) : statusData s =
    [BitVec.ofNat 8 (s.composer.mode.code * 16 + s.stability.state.code)] ++ beBytes 2 s.load.total ++
      beBytes 2 s.wheel.reference ++ [BitVec.ofNat 8 (s.incidents.filter (·.closed.isNone)).length,
        s.generation.setWidth 8, BitVec.ofNat 8 (min 255 (s.portA.discards + s.portB.discards))] := by
  have hg : BitVec.ofNat 8 (s.generation.toNat % 256) = s.generation.setWidth 8 := by
    apply BitVec.eq_of_toNat_eq
    simp
  simp only [statusData, openCount, beBytes_one, hg, List.append_assoc]
  rfl

/-- The TYRE fields of section 11.1, byte by byte. -/
theorem tyreData_eq (s : State) (i : Nat) : tyreData s i =
    [BitVec.ofNat 8 i, BitVec.ofNat 8 (s.position i).state.code] ++ optBytes 2 (s.position i).lastP ++
      optBytes 1 ((s.position i).lastTemp.map (fun c => (c + 40).toNat)) ++
      [BitVec.ofNat 8 (severityOf (judged s i)).code] := by
  simp only [tyreData, beBytes_one]
  rfl

/-- No assigned position, no report (R18). -/
theorem nextReport_eq_none (h : ∀ i ∈ List.range 16, (s.active.tyre i).assigned = false) : nextReport s = none := by
  unfold nextReport
  rw [List.find?_eq_none]
  intro i hi
  obtain ⟨k, _, rfl⟩ := List.mem_map.mp hi
  simp [h _ (List.mem_range.mpr (Nat.mod_lt _ (by decide)))]

/-- The report goes to the first assigned position from the report index on (R18). -/
theorem nextReport_eq_some {k : Nat} (hk : k ∈ List.range 16)
    (h : (s.active.tyre ((s.relay.reportIndex + k) % 16)).assigned = true)
    (first : ∀ j ∈ List.range k, (s.active.tyre ((s.relay.reportIndex + j) % 16)).assigned = false) :
    nextReport s = some ((s.relay.reportIndex + k) % 16) := by
  have hf : (List.range 16).find? ((fun i => (s.active.tyre i).assigned) ∘ fun i => (s.relay.reportIndex + i) % 16) =
      some k := List.find?_range_eq_some.mpr ⟨h, hk, fun j hj => by simp [first j (List.mem_range.mpr hj)]⟩
  unfold nextReport
  rw [List.find?_map, hf]
  rfl

theorem tyreExpired_of_none (h : nextReport s = none) : tyreExpired s = s.updRelay fun r => { r with tyre := some 1000 } := by
  have hn : nextReport (s.updRelay fun r => { r with tyre := some 1000 }) = none := h
  unfold tyreExpired
  dsimp only
  rw [hn]

theorem tyreExpired_of_some {i : Nat} (h : nextReport s = some i) :
    (tyreExpired s).relay = { s.relay with tyre := some 1000, reportIndex := (i + 1) % 16 } ∧
    (tyreExpired s).portA = s.portA.enqueue .general
      { frame := { cls := 0x0A, target := 0, origin := BitVec.ofNat 3 (s.relay.own.getD 7), data := tyreData s i },
        restart := false } := by
  have hn : nextReport (s.updRelay fun r => { r with tyre := some 1000 }) = some i := h
  unfold tyreExpired
  dsimp only
  rw [hn]
  refine ⟨?_, rfl⟩
  rw [updRelay_relay, originateTyre, enqueue_relay]
  rfl

/-- Settles O24: each expiry is the elapse of the rest and the timer's effect. -/
theorem relayTimersSendTheirFrames : Obligations.RelayTimersSendTheirFrames := by
  unfold Obligations.RelayTimersSendTheirFrames
  intro s r e n own
  refine ⟨fun h => ⟨discoveryExpired e, ?_, ?_, ?_, same_discoveryExpired e⟩,
    fun h => ⟨warnExpired e, ?_, warnExpired_relay e, fun hs => warnExpired_of_due (warnDue_of_silent hs),
      fun hp hw => warnExpired_of_not_due (warnDue_of_heard hp hw), same_warnExpired e⟩,
    fun h => ⟨statusExpired e, ?_, ?_, ?_, same_statusExpired e⟩,
    fun h => ⟨tyreExpired e, ?_, fun hn => ?_, fun k hk ha hfirst => ?_, same_tyreExpired e⟩⟩
  · show Host.Outcome.next (onExpiry s.relay.discovery discoveryExpired s) = _
    rw [h]
    rfl
  · rw [discoveryExpired, originateDiscover, enqueue_relay]
    rfl
  · rw [discoveryExpired, originateDiscover, beBytes_one]
    rfl
  · show Host.Outcome.next (onExpiry s.relay.warn warnExpired s) = _
    rw [h]
    rfl
  · show Host.Outcome.next (onExpiry s.relay.status statusExpired s) = _
    rw [h]
    rfl
  · rw [statusExpired, originateStatus, enqueue_relay]
    rfl
  · rw [statusExpired, originateStatus, statusData_eq]
    rfl
  · show Host.Outcome.next (onExpiry s.relay.tyre tyreExpired s) = _
    rw [h]
    rfl
  · rw [tyreExpired_of_none (nextReport_eq_none hn)]
    exact ⟨rfl, rfl⟩
  · obtain ⟨hrelay, hport⟩ := tyreExpired_of_some (nextReport_eq_some hk ha hfirst)
    rw [tyreData_eq] at hport
    exact ⟨hrelay, hport⟩

end Sys2Proof.Machine
end

section
/-! PROOFS. The checks before a request (O45). -/

namespace Sys2Proof.Machine

variable {s t : State}

/-! ### Answers (R19, R161, R162) -/

theorem answered_respond {code : Byte} {r : Request} {res : Result} {data : List Byte} (hrelay : t.relay = s.relay)
    (hport : t.port r.port = s.port r.port) : Answered code r res data s (respond code r res data t) := by
  unfold Answered answerTo
  rw [← hrelay, ← hport]
  exact enqueue_port _ _ _ t

theorem touchIdle_port (p : Port) (s : State) : (touchIdle s).port p = s.port p := by
  cases p
  · exact (same_touchIdle s).at .portA (by decide)
  · exact (same_touchIdle s).at .portB (by decide)

theorem touchIdle_of_out (h : s.mgmt.shadow = none) : touchIdle s = s := if_neg (by simp [State.inService, h])

theorem busy_touchIdle (s : State) : busy (touchIdle s) = busy s := by
  unfold touchIdle
  split <;> rfl

/-- What a refused request leaves: its answer and the idle timer. -/
theorem refusal_effects (code : Byte) (r : Request) (res : Result) (data : List Byte) (s : State) :
    (respond code r res data (touchIdle s)).mgmt = idled s.mgmt ∧
    Answered code r res data s (respond code r res data (touchIdle s)) ∧
    SameBut [portPart r.port, .mgmt] s (respond code r res data (touchIdle s)) :=
  ⟨(enqueue_mgmt _ _ _ _).trans (touchIdle_mgmt s),
    answered_respond ((same_touchIdle s).at .relay (by decide)) (touchIdle_port _ s),
    (same_touchIdle s).comp (same_respond _ _ _ _ _) (by simp) (by simp)⟩

/-! ### The common checks (R161) -/

section
variable {code : Byte} {need : Nat} {exempt : Bool} {act : State → State} {r : Request}

theorem manage_of_busy (ht : taken s r) (hb : ¬ free s) (he : exempt = false) :
    manage code need exempt act r s = respond code r .busy [] (touchIdle s) := by
  have hbusy : busy (touchIdle s) = true := by
    rw [busy_touchIdle]
    exact Bool.not_eq_false _ ▸ mt (busy_eq_false s).mp hb
  simp [manage, (takes_eq_true s r).mpr ht, hbusy, he]

theorem manage_of_short (ht : taken s r) (hf : free s ∨ exempt = true) (hn : r.args.length < need) :
    manage code need exempt act r s = respond code r .badValue [] (touchIdle s) := by
  have hpass : (!exempt && busy (touchIdle s)) = false := by
    rcases hf with hf | hf
    · simp [busy_touchIdle, (busy_eq_false s).mpr hf]
    · simp [hf]
  simp [manage, (takes_eq_true s r).mpr ht, hpass, hn]

theorem manage_of_free (ht : taken s r) (hf : free s) (hn : need ≤ r.args.length) :
    manage code need exempt act r s = act (touchIdle s) := by
  have hbusy : busy (touchIdle s) = false := (busy_touchIdle s).trans ((busy_eq_false s).mpr hf)
  simp [manage, (takes_eq_true s r).mpr ht, hbusy, hn]

end

/-- The refusal of a request that needs service mode, where it is not active (R113, R164, R166 to R168, R171). -/
def RefusedOutOfService (code : Byte) (r : Request) (act : State → State) : Prop :=
  ∀ u, u.mgmt.shadow = none → free u → act u = respond code r .notInService [] u

theorem inService_of_shadow (h : s.mgmt.shadow = none) : s.inService = false := by
  unfold State.inService
  rw [h]
  rfl

theorem serviceTestResult_out (h : s.mgmt.shadow = none) (hf : free s) (c p d : Nat) :
    serviceTestResult s c p d = .notInService := by
  have hw : s.storeWriting = false := by
    unfold State.storeWriting
    rw [hf.1]
    rfl
  simp [serviceTestResult, hw, inService_of_shadow h]

/-- Each of the twelve requests is its own act behind the common checks; the seven that need service mode refuse without
it. -/
theorem request_is_managed (r : Request) : ∀ p ∈ requestsOf r, ∃ act : State → State,
    (∀ s, exec p.2 s = .next (manage p.1 (argumentsOf p.1) (p.1 = 1#8 ∨ p.1 = 2#8) act r s)) ∧
    (p.1 ∈ [4#8, 5#8, 6#8, 7#8, 10#8, 11#8, 12#8] → RefusedOutOfService p.1 r act) := by
  have refuses : ∀ (code : Byte) (f : State → State), RefusedOutOfService code r
      (fun s => if s.inService then f s else respond code r .notInService [] s) :=
    fun _ _ u h _ => if_neg (by simp [inService_of_shadow h])
  simp only [requestsOf, List.forall_mem_cons]
  refine ⟨⟨_, fun _ => rfl, fun h => absurd h (by decide)⟩, ⟨_, fun _ => rfl, fun h => absurd h (by decide)⟩,
    ⟨_, fun _ => rfl, fun h => absurd h (by decide)⟩, ⟨_, fun _ => rfl, fun _ => refuses _ _⟩, ⟨_, fun _ => rfl, fun _ => ?_⟩,
    ⟨_, fun _ => rfl, fun _ => ?_⟩, ⟨_, fun _ => rfl, fun _ => refuses _ _⟩, ⟨_, fun _ => rfl, fun h => absurd h (by decide)⟩,
    ⟨_, fun _ => rfl, fun h => absurd h (by decide)⟩, ⟨_, fun _ => rfl, fun _ => ?_⟩, ⟨_, fun _ => rfl, fun _ => refuses _ _⟩,
    ⟨_, fun _ => rfl, fun _ => refuses _ _⟩, fun _ hp => (List.not_mem_nil hp).elim⟩
  · intro u h _
    dsimp only
    rw [h]
  · intro u h _
    dsimp only
    rw [h]
  · intro u h hf
    dsimp only
    rw [serviceTestResult_out h hf]

/-- Settles O45: every request is its own act behind the common checks. -/
theorem requestsAreRefusedByTheCommonChecks : Obligations.RequestsAreRefusedByTheCommonChecks := by
  unfold Obligations.RequestsAreRefusedByTheCommonChecks
  intro s r
  refine ⟨fun p hp hout => request_of_out (by simpa [State.inRun] using hout) r p hp,
    fun code hout => unknown_of_out (by simpa [State.inRun] using hout) code r, fun p hp ht hb h1 h2 => ?_,
    fun p hp ht hf hn => ?_, fun p hp ht hf hs hn hc => ?_⟩
  · obtain ⟨act, hexec, _⟩ := request_is_managed r p hp
    refine ⟨_, ?_, refusal_effects p.1 r .busy [] s⟩
    rw [hexec, manage_of_busy ht hb (by simp [h1, h2])]
  · obtain ⟨act, hexec, _⟩ := request_is_managed r p hp
    refine ⟨_, ?_, refusal_effects p.1 r .badValue [] s⟩
    rw [hexec, manage_of_short ht (hf.imp_right fun h => by simp [h]) hn]
  · obtain ⟨act, hexec, hact⟩ := request_is_managed r p hp
    refine ⟨respond p.1 r .notInService [] s, ?_, answered_respond rfl rfl, same_respond _ _ _ _ s⟩
    rw [hexec, manage_of_free ht hf hn, touchIdle_of_out hs, hact hc s hs hf]

end Sys2Proof.Machine
end

section
/-! PROOFS. The requests handed to the tyre unit and the load unit: LEARN_TYRE, CANCEL_LEARN and SERVICE_TEST (O52). -/

namespace Sys2Proof.Machine

variable {s t : State}

/-! ### A position's change of state (R18, R151) -/

theorem position_congr (h : t.tyre = s.tyre) (i : Nat) : t.position i = s.position i := by
  unfold State.position
  rw [h]

theorem tyreSettle_positions (s : State) : (tyreSettle s).tyre.positions = s.tyre.positions := by
  show (driveLamp s).tyre.positions = _
  unfold driveLamp
  dsimp only
  split <;> rfl

theorem tyreSettle_position (i : Nat) (s : State) : (tyreSettle s).position i = s.position i := by
  unfold State.position
  rw [tyreSettle_positions]

/-- The TYRE frame of a position in a state, judged by another (R18). -/
def tyreReport (s : State) (i : Nat) (st judgedBy : TyreState) : Frame :=
  { cls := 0x0A, target := 0, origin := BitVec.ofNat 3 (s.relay.own.getD 7),
    data := [BitVec.ofNat 8 i, BitVec.ofNat 8 st.code] ++ optBytes 2 (s.position i).lastP ++
      optBytes 1 ((s.position i).lastTemp.map (fun c => (c + 40).toNat)) ++
      [BitVec.ofNat 8 (severityOf judgedBy).code] }

theorem tyreReport_congr (ht : t.tyre = s.tyre) (hr : t.relay = s.relay) (i : Nat) (st j : TyreState) :
    tyreReport t i st j = tyreReport s i st j := by
  unfold tyreReport
  rw [position_congr ht, hr]

theorem setTyreState_position {i : Nat} (h : i < s.tyre.positions.length) (st : TyreState) (j : Nat) :
    (setTyreState i st s).position j = if j = i then { s.position i with state := st } else s.position j := by
  have hu : (setTyreState i st s).position j = (s.updPosition i fun q => { q with state := st }).position j := by
    unfold setTyreState originateTyre
    dsimp only
    split
    · rfl
    · exact position_congr (enqueue_tyre _ _ _ _) j
  rw [hu, updPosition_position i j _ s h]
  split
  · next e => rw [e]
  · rfl

/-- A position that takes the state it has reports nothing. -/
theorem setTyreState_portA_same {i : Nat} {st : TyreState} (h : (s.position i).state = st) :
    (setTyreState i st s).portA = s.portA := by
  unfold setTyreState
  dsimp only
  rw [if_pos h]
  rfl

theorem setTyreState_portA_change {i : Nat} {st : TyreState} (hi : i < s.tyre.positions.length)
    (h : (s.position i).state ≠ st) : (setTyreState i st s).portA = s.portA.enqueue .general
      { frame := tyreReport s i st (judged (s.updPosition i fun q => { q with state := st }) i), restart := false } := by
  have hp : (s.updPosition i fun q => { q with state := st }).position i = { s.position i with state := st } := by
    rw [updPosition_position i i _ s hi, if_pos rfl]
  unfold setTyreState
  dsimp only
  rw [if_neg h]
  show s.portA.enqueue .general { frame := ownFrame _ clsTyre 0 (tyreData _ i), restart := false } = _
  rw [tyreData_eq, hp]
  rfl

/-! ### A learn begins and ends (R156, R158) -/

/-- The state with a learn running, before its position's state changes. -/
def withLearn (l : Option Learn) (s : State) : State := s.updTyre fun u => { u with learn := l }

/-- The learn that LEARN_TYRE starts (R156). -/
def learnOf (s : State) (i : Nat) (field : IdChoice) : Learn :=
  { pos := i, field := field, saved := (s.position i).state, timer := some 120000 }

theorem startLearn_eq (i : Nat) (field : IdChoice) (s : State) :
    startLearn i field s = tyreSettle (setTyreState i .learning (withLearn (some (learnOf s i field)) s)) := rfl

theorem endLearn_eq {l : Learn} (h : s.tyre.learn = some l) :
    endLearn s = tyreSettle (setTyreState l.pos l.saved (withLearn none s)) := by
  unfold endLearn withLearn
  rw [h]

theorem startLearn_learn (i : Nat) (field : IdChoice) (s : State) :
    (startLearn i field s).tyre.learn = some (learnOf s i field) := by
  rw [startLearn_eq, tyreSettle_learn, setTyreState_learn]
  rfl

theorem startLearn_position {i : Nat} (h : i < s.tyre.positions.length) (field : IdChoice) :
    ((startLearn i field s).position i).state = .learning := by
  rw [startLearn_eq, tyreSettle_position, setTyreState_position (s := withLearn (some (learnOf s i field)) s) h, if_pos rfl]

/-- The position's change to LEARNING is reported under the severity of its saved state (R18, section 8.6). -/
theorem startLearn_portA {i : Nat} (hi : i < s.tyre.positions.length) (h : (s.position i).state ≠ .learning)
    (field : IdChoice) : (startLearn i field s).portA = s.portA.enqueue .general
      { frame := tyreReport s i .learning (s.position i).state, restart := false } := by
  generalize hl : learnOf s i field = l
  have hj : judged ((withLearn (some l) s).updPosition i fun q => { q with state := .learning }) i = (s.position i).state := by
    have hp : ((withLearn (some l) s).updPosition i fun q => { q with state := .learning }).position i =
        { s.position i with state := .learning } := (updPosition_position i i _ (withLearn (some l) s) hi).trans (if_pos rfl)
    show (if l.pos = i && (State.position _ i).state = .learning then l.saved else (State.position _ i).state) = _
    rw [hp, ← hl]
    simp [learnOf]
  have hport : (startLearn i field s).portA = (setTyreState i .learning (withLearn (some l) s)).portA := by
    rw [startLearn_eq, hl]
    exact (same_tyreSettle _).at .portA (by decide)
  rw [hport, setTyreState_portA_change (s := withLearn (some l) s) hi h, hj]
  rfl

section
variable {l : Learn} (hl : s.tyre.learn = some l)
include hl

theorem endLearn_position (h : l.pos < s.tyre.positions.length) (j : Nat) :
    (endLearn s).position j = if j = l.pos then { s.position l.pos with state := l.saved } else s.position j := by
  rw [endLearn_eq hl, tyreSettle_position, setTyreState_position (s := withLearn none s) h]
  rfl

theorem endLearn_portA : (endLearn s).portA = (setTyreState l.pos l.saved (withLearn none s)).portA := by
  rw [endLearn_eq hl]
  exact (same_tyreSettle _).at .portA (by decide)

theorem endLearn_portA_same (h : (s.position l.pos).state = l.saved) : (endLearn s).portA = s.portA :=
  (endLearn_portA hl).trans (setTyreState_portA_same (s := withLearn none s) h)

/-- The return to the saved state is reported (R18, R158). -/
theorem endLearn_portA_change (hi : l.pos < s.tyre.positions.length) (h : (s.position l.pos).state ≠ l.saved) :
    (endLearn s).portA = s.portA.enqueue .general
      { frame := tyreReport s l.pos l.saved l.saved, restart := false } := by
  have hj : judged ((withLearn none s).updPosition l.pos fun q => { q with state := l.saved }) l.pos = l.saved := by
    show (State.position _ l.pos).state = l.saved
    rw [updPosition_position l.pos l.pos _ (withLearn none s) hi, if_pos rfl]
  rw [endLearn_portA hl, setTyreState_portA_change (s := withLearn none s) hi h, hj]
  rfl

end

/-! ### Service tests (R113 to R115) -/

/-- A recomposition keeps a channel's service test and its timer. -/
theorem channelNow_test {c : Nat} (h : channelExists s c = true) (ch : Channel) :
    (channelNow s c ch).serviceTest = ch.serviceTest ∧ (channelNow s c ch).testTimer = ch.testTimer := by
  unfold channelNow channelCommands
  rw [if_pos h]
  dsimp only
  split <;> exact ⟨rfl, rfl⟩

theorem channelNow_target {c : Nat} (h : channelExists s c = true) (ch : Channel) :
    (channelNow s c ch).target = targetOf s c (channelValues s c ch) := by
  unfold channelNow channelCommands
  rw [if_pos h]
  dsimp only
  split <;> rfl

/-- No present request within P_max exceeds the target (R108, R110). -/
theorem le_targetOf {c p : Nat} {ch : Channel} (hp : p ≤ pMaxOf s c) (h : p ≤ greatestRequest ch) : p ≤ targetOf s c ch := by
  unfold targetOf
  split
  · exact hp
  · exact le_min hp h

theorem le_greatestRequest {ch : Channel} {p : Nat} (h : ch.serviceTest = some p) : p ≤ greatestRequest ch := by
  unfold greatestRequest
  rw [h]
  simp

/-- The channel's record as SERVICE_TEST leaves it, before the recomposition (R114). -/
def testedChannel (p d : Nat) (ch : Channel) : Channel :=
  { ch with serviceTest := if p = 0 then none else some p, testTimer := if p = 0 then none else some d }

theorem startTest_eq (c p d : Nat) (s : State) : startTest c p d s = recompose (s.updChannel c (testedChannel p d)) := by
  unfold startTest endTest testedChannel
  split <;> rfl

theorem startTest_channel {c : Nat} (h1 : 1 ≤ c) (h6 : c ≤ s.channels.length) (p d : Nat) :
    (startTest c p d s).channel c = channelNow ((s.updChannel c (testedChannel p d)).updLoad fun _ =>
      loadNow (s.updChannel c (testedChannel p d))) c (testedChannel p d (s.channel c)) := by
  have hlen : c ≤ (s.updChannel c (testedChannel p d)).channels.length := by
    simpa [State.updChannel, State.mapChannels] using h6
  have hch : (s.updChannel c (testedChannel p d)).channel c = testedChannel p d (s.channel c) :=
    (mapChannels_channel s _ h1 h6).trans (if_pos rfl)
  rw [startTest_eq, recompose_channel _ h1 hlen, hch]

/-- What SERVICE_TEST leaves on its channel (R110, R114). -/
theorem startTest_effects {c : Nat} (h1 : 1 ≤ c) (h6 : c ≤ s.channels.length) (he : channelExists s c = true) {p : Nat}
    (hp : p ≤ pMaxOf s c) (d : Nat) : ((startTest c p d s).channel c).serviceTest = (if p = 0 then none else some p) ∧
    ((startTest c p d s).channel c).testTimer = (if p = 0 then none else some d) ∧
    p ≤ ((startTest c p d s).channel c).target := by
  rw [startTest_channel h1 h6]
  generalize hu : ((s.updChannel c (testedChannel p d)).updLoad fun _ => loadNow (s.updChannel c (testedChannel p d))) = u
  have heu : channelExists u c = true := hu ▸ he
  have hpu : p ≤ pMaxOf u c := hu ▸ hp
  obtain ⟨htest, htimer⟩ := channelNow_test heu (testedChannel p d (s.channel c))
  refine ⟨htest, htimer, ?_⟩
  rw [channelNow_target heu]
  by_cases h0 : p = 0
  · omega
  · exact le_targetOf hpu (le_greatestRequest (if_neg h0))

/-! ### The three requests -/

theorem respond_port {code : Byte} {r : Request} {res : Result} {data : List Byte} (hrelay : t.relay = s.relay) :
    (respond code r res data t).port r.port = (t.port r.port).enqueue .general (answerTo s code r res data) := by
  unfold answerTo
  rw [← hrelay]
  exact enqueue_port _ _ _ t

theorem learnResult_touchIdle (s : State) (i f : Nat) : learnResult (touchIdle s) i f = learnResult s i f := by
  unfold touchIdle
  split <;> rfl

theorem serviceTestResult_touchIdle (s : State) (c p d : Nat) :
    serviceTestResult (touchIdle s) c p d = serviceTestResult s c p d := by
  unfold touchIdle
  split <;> rfl

section
variable {r : Request} (ht : taken s r) (hf : free s)
include ht hf

theorem exec_learnTyre_done (hn : 2 ≤ r.args.length) (h : learnResult s (argByte r 0) (argByte r 1) = .done) :
    exec (.learnTyre r) s = .next (respond 8#8 r .done []
      (startLearn (argByte r 0) (IdChoice.ofCode (argByte r 1)) (touchIdle s))) := by
  show Host.Outcome.next (doLearnTyre r s) = _
  rw [doLearnTyre, manage_of_free ht hf hn]
  rw [learnResult_touchIdle, h]

theorem exec_learnTyre_refused (hn : 2 ≤ r.args.length) {res : Result}
    (h : learnResult s (argByte r 0) (argByte r 1) = res) (hr : res ≠ .done) :
    exec (.learnTyre r) s = .next (respond 8#8 r res [] (touchIdle s)) := by
  show Host.Outcome.next (doLearnTyre r s) = _
  rw [doLearnTyre, manage_of_free ht hf hn]
  rw [learnResult_touchIdle, h]
  split
  · exact absurd rfl hr
  · rfl

theorem exec_cancelLearn : exec (.cancelLearn r) s = .next (respond 9#8 r .done [] (endLearn (touchIdle s))) := by
  show Host.Outcome.next (doCancelLearn r s) = _
  rw [doCancelLearn, manage_of_free ht hf (Nat.zero_le _)]

theorem exec_serviceTest_done (hn : 5 ≤ r.args.length)
    (h : serviceTestResult s (argByte r 0) (beAt r.args 1 2) (beAt r.args 3 2) = .done) :
    exec (.serviceTest r) s = .next (respond 10#8 r .done []
      (startTest (argByte r 0) (beAt r.args 1 2) (beAt r.args 3 2) (touchIdle s))) := by
  show Host.Outcome.next (doServiceTest r s) = _
  rw [doServiceTest, manage_of_free ht hf hn]
  rw [serviceTestResult_touchIdle, h]

theorem exec_serviceTest_refused (hn : 5 ≤ r.args.length) {res : Result}
    (h : serviceTestResult s (argByte r 0) (beAt r.args 1 2) (beAt r.args 3 2) = res) (hr : res ≠ .done) :
    exec (.serviceTest r) s = .next (respond 10#8 r res [] (touchIdle s)) := by
  show Host.Outcome.next (doServiceTest r s) = _
  rw [doServiceTest, manage_of_free ht hf hn]
  rw [serviceTestResult_touchIdle, h]
  split
  · exact absurd rfl hr
  · rfl

end

/-- LEARN_TYRE's results in the order of R156. -/
theorem learnResult_of_free (hf : free s) (i f : Nat) : learnResult s i f =
    if s.tyre.learn ≠ none then .busy
    else if s.wheel.stationary = false then .refusedMoving
    else if 15 < i ∨ (s.active.tyre i).configured = false then .badAddress
    else if 1 < f then .badValue
    else .done := by
  have hw : s.storeWriting = false := by simp [State.storeWriting, hf.1]
  simp [learnResult, hw, Option.isSome_iff_ne_none]

/-- SERVICE_TEST's results in the order of R113. -/
theorem serviceTestResult_of_free (hf : free s) (hs : s.mgmt.shadow.isSome = true) (c p d : Nat) :
    serviceTestResult s c p d =
      if s.wheel.stationary = false then .refusedMoving
      else if c ∉ channelNumbers ∨ channelExists s c = false then .badAddress
      else if pMaxOf s c < p ∨ d < 100 ∨ 10000 < d then .badValue
      else .done := by
  have hw : s.storeWriting = false := by simp [State.storeWriting, hf.1]
  have hin : s.inService = true := hs
  have hc : c ∉ channelNumbers ↔ within 1 6 c = false := by
    simp [channelNumbers, within]
    omega
  have hd : within 100 10000 d = false ↔ d < 100 ∨ 10000 < d := by
    simp [within]
    omega
  simp [serviceTestResult, hw, hin, hc, hd]

theorem same_touchIdle_startLearn (i : Nat) (field : IdChoice) (s : State) :
    SameBut [.portA, .channels, .load, .tyre, .mgmt] s (startLearn i field (touchIdle s)) :=
  (same_touchIdle s).comp (same_startLearn i field _) (by decide) (by decide)

theorem same_touchIdle_endLearn (s : State) :
    SameBut [.portA, .channels, .load, .tyre, .mgmt] s (endLearn (touchIdle s)) :=
  (same_touchIdle s).comp (same_endLearn _) (by decide) (by decide)

theorem same_touchIdle_startTest (c p d : Nat) (s : State) :
    SameBut [.channels, .load, .mgmt] s (startTest c p d (touchIdle s)) :=
  (same_touchIdle s).comp (same_startTest c p d _) (by decide) (by decide)

/-- An answer on port B of a state whose port B is as it was. -/
theorem answered_B {L : List Part} {code : Byte} {r : Request} {res : Result} {data : List Byte} (h : r.port = .B)
    (g : SameBut L s t) (hr : Part.relay ∉ L) (hB : Part.portB ∉ L) :
    Answered code r res data s (respond code r res data t) := by
  refine answered_respond (g.at .relay hr) ?_
  rw [h]
  exact g.at .portB hB

/-- An answer on port A comes behind what the request's own work queued there. -/
theorem respond_portA {L : List Part} {code : Byte} {r : Request} {res : Result} {data : List Byte} (h : r.port = .A)
    (g : SameBut L s t) (hr : Part.relay ∉ L) :
    (respond code r res data t).portA = t.portA.enqueue .general (answerTo s code r res data) := by
  have hp := respond_port (code := code) (r := r) (res := res) (data := data) (g.at .relay hr)
  rw [h] at hp
  exact hp

theorem respond_position (code : Byte) (r : Request) (res : Result) (data : List Byte) (s : State) (i : Nat) :
    (respond code r res data s).position i = s.position i := position_congr (enqueue_tyre _ _ _ _) i

theorem respond_channel (code : Byte) (r : Request) (res : Result) (data : List Byte) (s : State) (c : Nat) :
    (respond code r res data s).channel c = s.channel c := by
  unfold State.channel respond
  rw [enqueue_channels]

/-- An answer on the other port leaves port A. -/
theorem respond_portA_other {code : Byte} {r : Request} {res : Result} {data : List Byte} (h : r.port = .B) (s : State) :
    (respond code r res data s).portA = s.portA := by
  have g := same_respond code r res data s
  rw [h] at g
  exact g.at .portA (by decide)

/-- LEARN_TYRE accepted (R18, R156). -/
theorem learnTyre_accepted {r : Request} (hi : argByte r 0 < s.tyre.positions.length) (field : IdChoice) :
    let t := respond 8#8 r .done [] (startLearn (argByte r 0) field (touchIdle s))
    t.tyre.learn = some (learnOf s (argByte r 0) field) ∧ (t.position (argByte r 0)).state = .learning ∧
    (r.port = .B → Answered 8#8 r .done [] s t) ∧
    (r.port = .A → (s.position (argByte r 0)).state ≠ .learning → t.portA = (s.portA.enqueue .general
      { frame := tyreReport s (argByte r 0) .learning (s.position (argByte r 0)).state, restart := false }).enqueue .general
        (answerTo s 8#8 r .done [])) ∧
    SameBut [.portA, portPart r.port, .channels, .load, .tyre, .mgmt] s t := by
  intro t
  have g := same_touchIdle_startLearn (argByte r 0) field s
  have htyre : (touchIdle s).tyre = s.tyre := (same_touchIdle s).at .tyre (by decide)
  have hportA : (touchIdle s).portA = s.portA := touchIdle_port .A s
  have hrelay : (touchIdle s).relay = s.relay := (same_touchIdle s).at .relay (by decide)
  have hpos : (touchIdle s).position (argByte r 0) = s.position (argByte r 0) := position_congr htyre _
  have hi' : argByte r 0 < (touchIdle s).tyre.positions.length := htyre ▸ hi
  have hpt : t.tyre = (startLearn (argByte r 0) field (touchIdle s)).tyre := enqueue_tyre _ _ _ _
  refine ⟨?_, ?_, fun h => answered_B h g (by decide) (by decide), fun h hne => ?_, ?_⟩
  · rw [hpt, startLearn_learn, learnOf, hpos]
    rfl
  · rw [position_congr hpt]
    exact startLearn_position hi' field
  · rw [respond_portA h g (by decide), startLearn_portA hi' (by rwa [hpos]), hportA, hpos, tyreReport_congr htyre hrelay]
  · exact g.comp (same_respond _ _ _ _ _) (by simp) (by simp)

/-- CANCEL_LEARN with a learn running (R18, R158). -/
theorem cancelLearn_running {r : Request} {l : Learn} (hl : s.tyre.learn = some l) (hlt : l.pos < s.tyre.positions.length) :
    let t := respond 9#8 r .done [] (endLearn (touchIdle s))
    let reported := s.portA.enqueue .general { frame := tyreReport s l.pos l.saved l.saved, restart := false }
    (∀ j, t.position j = if j = l.pos then { s.position l.pos with state := l.saved } else s.position j) ∧
    t.mgmt = idled s.mgmt ∧
    ((s.position l.pos).state ≠ l.saved → r.port = .A → t.portA = reported.enqueue .general (answerTo s 9#8 r .done [])) ∧
    ((s.position l.pos).state ≠ l.saved → r.port = .B → t.portA = reported ∧ Answered 9#8 r .done [] s t) ∧
    ((s.position l.pos).state = l.saved → Answered 9#8 r .done [] s t) := by
  intro t reported
  have g := same_touchIdle_endLearn s
  have htyre : (touchIdle s).tyre = s.tyre := (same_touchIdle s).at .tyre (by decide)
  have hportA : (touchIdle s).portA = s.portA := touchIdle_port .A s
  have hl' : (touchIdle s).tyre.learn = some l := htyre ▸ hl
  have hlt' : l.pos < (touchIdle s).tyre.positions.length := htyre ▸ hlt
  have hq : ∀ j, (touchIdle s).position j = s.position j := position_congr htyre
  have hreport : (s.position l.pos).state ≠ l.saved → (endLearn (touchIdle s)).portA = reported := fun hne => by
    rw [endLearn_portA_change hl' hlt' (by rwa [hq]), hportA, tyreReport_congr htyre ((same_touchIdle s).at .relay (by decide))]
  refine ⟨fun j => ?_, ?_, fun hne h => ?_, fun hne h => ⟨?_, answered_B h g (by decide) (by decide)⟩,
    fun he => answered_respond (g.at .relay (by decide)) ?_⟩
  · rw [respond_position, endLearn_position hl' hlt', hq, hq]
  · have hm : (endLearn (touchIdle s)).mgmt = (touchIdle s).mgmt := (same_endLearn _).at .mgmt (by decide)
    exact (enqueue_mgmt _ _ _ _).trans (hm.trans (touchIdle_mgmt s))
  · rw [respond_portA h g (by decide), hreport hne]
  · rw [respond_portA_other h, hreport hne]
  · cases r.port
    · exact (endLearn_portA_same hl' (by rwa [hq])).trans hportA
    · exact g.at .portB (by decide)

/-- SERVICE_TEST accepted (R113, R114). -/
theorem serviceTest_accepted {r : Request} {c : Nat} (h1 : 1 ≤ c) (h6 : c ≤ s.channels.length)
    (he : channelExists s c = true) {p : Nat} (hp : p ≤ pMaxOf s c) (d : Nat) :
    let t := respond 10#8 r .done [] (startTest c p d (touchIdle s))
    Answered 10#8 r .done [] s t ∧ (t.channel c).serviceTest = (if p = 0 then none else some p) ∧
    (t.channel c).testTimer = (if p = 0 then none else some d) ∧ p ≤ (t.channel c).target ∧
    SameBut [portPart r.port, .channels, .load, .mgmt] s t := by
  intro t
  have g := same_touchIdle_startTest c p d s
  have hch : (touchIdle s).channels = s.channels := (same_touchIdle s).at .channels (by decide)
  have ha : (touchIdle s).active = s.active := (same_touchIdle s).at .active (by decide)
  have he' : channelExists (touchIdle s) c = true := by
    rw [← he]
    unfold touchIdle
    split <;> rfl
  have hp' : p ≤ pMaxOf (touchIdle s) c := by
    unfold pMaxOf
    rwa [ha]
  obtain ⟨htest, htimer, htarget⟩ := startTest_effects h1 (hch ▸ h6) he' hp' d
  rw [← respond_channel 10#8 r .done [] (startTest c p d (touchIdle s))] at htest htimer htarget
  refine ⟨answered_respond (g.at .relay (by decide)) ?_, htest, htimer, htarget, g.comp (same_respond _ _ _ _ _) (by simp) (by simp)⟩
  cases r.port
  · exact g.at .portA (by decide)
  · exact g.at .portB (by decide)

/-- The refusals of LEARN_TYRE and SERVICE_TEST change nothing but the idle timer and the answer. -/
theorem refused_of_exec {code : Byte} {r : Request} {res : Result} {i : Instr}
    (h : exec i s = .next (respond code r res [] (touchIdle s))) : ∃ t, exec i s = .next t ∧
    Answered code r res [] s t ∧ t.mgmt = idled s.mgmt ∧ SameBut [portPart r.port, .mgmt] s t := by
  obtain ⟨hm, ha, g⟩ := refusal_effects code r res [] s
  exact ⟨_, h, ha, hm, g⟩

/-- Settles O52: each request is its block's work behind the common checks, and then the answer. -/
theorem handedRequestsReachTheirBlocks : Obligations.HandedRequestsReachTheirBlocks := by
  unfold Obligations.HandedRequestsReachTheirBlocks
  intro s r ht hf
  refine ⟨fun hn hl hst hi hfield hc hlen => ?learn, ⟨_, exec_cancelLearn ht hf, ?ended, fun l hl hpos hlen => ?cancel,
    fun hl => ?idle, (same_touchIdle_endLearn s).comp (same_respond _ _ _ _ _) (by simp) (by simp)⟩,
    fun c hc hn hs hst harg hex hlen hp h100 h10000 => ?test, ?learnRefused, ?testRefused⟩
  case ended => exact (congrArg (·.learn) (enqueue_tyre _ _ _ _)).trans (endLearn_learn _)
  case learn =>
    have hres : learnResult s (argByte r 0) (argByte r 1) = .done := by
      have h15 : ¬ 15 < argByte r 0 := Nat.not_lt.mpr hi
      have h1 : ¬ 1 < argByte r 1 := Nat.not_lt.mpr hfield
      have hc' : (s.active.tyre (argByte r 0)).configured = true := hc
      simp [learnResult_of_free hf, hl, hst, h15, h1, hc']
    have hlt : argByte r 0 < s.tyre.positions.length := hlen ▸ Nat.lt_succ_of_le hi
    have hbyte : BitVec.ofNat 8 (argByte r 0) = byteAt r.args 0 := by
      rw [argByte, beAt_one, BitVec.ofNat_toNat, BitVec.setWidth_eq]
    obtain ⟨hlearn, hstate, hB, hA, g⟩ := learnTyre_accepted hlt (IdChoice.ofCode (argByte r 1))
    refine ⟨_, exec_learnTyre_done ht hf hn hres, hlearn, hstate, hB, fun h hne => (hA h hne).trans ?_, g⟩
    unfold tyreReport
    rw [hbyte]
    rfl
  case cancel =>
    obtain ⟨hp, hm, hA, hB, hsame⟩ := cancelLearn_running (r := r) hl (hlen ▸ hpos)
    exact ⟨(hp _).trans (if_pos rfl), fun j _ hne => (hp j).trans (if_neg hne), hm, hA, hB, hsame⟩
  case idle =>
    have htyre : (touchIdle s).tyre = s.tyre := (same_touchIdle s).at .tyre (by decide)
    obtain ⟨_, ha, g⟩ := refusal_effects 9#8 r .done [] s
    rw [endLearn_of_none (htyre ▸ hl)]
    exact ⟨ha, g⟩
  case test =>
    have h16 : 1 ≤ c ∧ c ≤ 6 := by
      simp only [channelNumbers, List.mem_cons, List.not_mem_nil, or_false] at hc
      omega
    have harg' : argByte r 0 = c := harg
    have hres : serviceTestResult s (argByte r 0) (beAt r.args 1 2) (beAt r.args 3 2) = .done := by
      have hvalue : ¬ (pMaxOf s c < beAt r.args 1 2 ∨ beAt r.args 3 2 < 100 ∨ 10000 < beAt r.args 3 2) := by omega
      rw [harg', serviceTestResult_of_free hf hs, if_neg (by simp [hst]), if_neg (by simp [hc, hex]), if_neg hvalue]
    have hexec := exec_serviceTest_done ht hf hn hres
    rw [harg'] at hexec
    exact ⟨_, hexec, serviceTest_accepted h16.1 (hlen ▸ h16.2) hex hp _⟩
  case learnRefused =>
    intro hn i bad refused
    have hres := learnResult_of_free hf (argByte r 0) (argByte r 1)
    have refuse : ∀ res, res ≠ .done → learnResult s (argByte r 0) (argByte r 1) = res → refused res :=
      fun res hne h => refused_of_exec (exec_learnTyre_refused ht hf hn h hne)
    refine ⟨fun hl => refuse _ (by decide) ?_, fun hl hm => refuse _ (by decide) ?_,
      fun hl hm hb => refuse _ (by decide) ?_, fun hl hm hb hv => refuse _ (by decide) ?_⟩
    · exact hres.trans (if_pos hl)
    · rw [hres, if_neg (not_not.mpr hl), if_pos hm]
    · rw [hres, if_neg (not_not.mpr hl), if_neg (by simp [hm])]
      exact if_pos hb
    · rw [hres, if_neg (not_not.mpr hl), if_neg (by simp [hm])]
      exact (if_neg hb).trans (if_pos hv)
  case testRefused =>
    intro hn hs c bad refused
    have hres := serviceTestResult_of_free hf hs (argByte r 0) (beAt r.args 1 2) (beAt r.args 3 2)
    have refuse : ∀ res, res ≠ .done →
        serviceTestResult s (argByte r 0) (beAt r.args 1 2) (beAt r.args 3 2) = res → refused res :=
      fun res hne h => refused_of_exec (exec_serviceTest_refused ht hf hn h hne)
    refine ⟨fun hm => refuse _ (by decide) ?_, fun hm hb => refuse _ (by decide) ?_,
      fun hm hb hv => refuse _ (by decide) ?_⟩
    · exact hres.trans (if_pos hm)
    · rw [hres, if_neg (by simp [hm])]
      exact if_pos hb
    · rw [hres, if_neg (by simp [hm])]
      exact (if_neg hb).trans (if_pos hv)

end Sys2Proof.Machine
end

section
/-! PROOFS. The reset state meets the conditions that steps keep (O3). -/

namespace Sys2Proof.Machine

/-- The factory image holds no ID (R28). -/
theorem factoryImage_idCount (x : BitVec 32) : factoryImage.idCount x = 0 := by
  have h : bit (emptyTyre.primary.holds x) + bit (emptyTyre.alternate.holds x) = 0 := rfl
  show ((List.replicate 16 emptyTyre).map fun t => bit (t.primary.holds x) + bit (t.alternate.holds x)).sum = 0
  rw [List.map_replicate, h, List.sum_replicate]
  rfl

theorem reset_channel (c : Nat) : State.reset.channel c = Channel.start := List.getElem?_getD_replicate_default_eq _ 6 (c - 1)

theorem reset_group (g : Nat) : State.reset.group g = GroupState.start := List.getElem?_getD_replicate_default_eq _ 3 (g - 1)

/-- The factory chain is unconfigured: no group and no channel exists (R42). -/
theorem reset_no_channel : ∀ c ∈ channelNumbers, channelExists State.reset c = false := by decide

theorem reset_no_group : ∀ g ∈ [1, 2, 3], groupExists State.reset g = false := by decide

theorem reset_channelsFollow : ChannelsFollow State.reset where
  six := rfl
  follows _ c hc he := absurd ((reset_no_channel c hc).symm.trans he) (by decide)
  absent _ c _ _ := reset_channel c

theorem reset_loadFollows : LoadFollows State.reset where
  three := rfl
  six := rfl
  groups _ g hg he := absurd ((reset_no_group g hg).symm.trans he) (by decide)
  absent _ g _ _ := reset_group g
  total := rfl
  driver _ c hc he := absurd ((reset_no_channel c hc).symm.trans he) (by decide)

/-- CONFIG_INVALID keeps the brake mode FALLBACK (R102). -/
theorem not_braking_reset : ¬ braking State.reset := fun h => absurd h.2.2 (by decide)

theorem reset_modeFollows : ModeFollows State.reset where
  electronic _ := ⟨fun h => absurd h (by decide), fun h => absurd h.1 not_braking_reset⟩
  backup _ := ⟨fun h => absurd h (by decide), fun h => absurd h.1 not_braking_reset⟩
  effective _ := rfl

theorem reset_stabilityWf : StabilityWf State.reset where
  tests _ := ⟨rfl, rfl⟩
  channels c _ h := by
    rw [reset_channel] at h
    exact absurd h (by decide)
  holds c _ h := by
    rw [reset_channel] at h
    exact absurd h (by decide)
  lifts _ c _ := by
    rw [reset_channel]
    rfl
  recovers _ := rfl
  pending h := absurd rfl h

theorem reset_uniqueIds : UniqueIds State.reset where
  active := ⟨rfl, fun x => (factoryImage_idCount x).trans_le (Nat.zero_le 1)⟩
  shadow _ h := absurd h (by simp [State.reset, Mgmt.start])
  writing _ h := absurd h (by simp [State.reset, Mgmt.start])
  store := rfl

theorem reset_running : Running State.reset where
  state := rfl
  link := rfl
  park := rfl
  listen := rfl
  wake := rfl
  lockout := rfl
  swap := rfl
  restart h := absurd h (by decide)
  recovers := recoverForm_of_none rfl

theorem reset_incidentsWf : IncidentsWf State.reset where
  length := by decide
  repeats i hi := by
    rw [List.mem_singleton.mp hi]
    decide
  single := List.pairwise_singleton _ _

/-- Settles O3: every block of the reset state is at its start value, under the factory image. -/
theorem resetMeetsEveryCondition : Obligations.ResetMeetsEveryCondition :=
  ⟨⟨portWf_start, portWf_start⟩, reset_incidentsWf, reset_channelsFollow, reset_loadFollows, reset_modeFollows,
    reset_stabilityWf, reset_uniqueIds, reset_running.powerWf⟩

end Sys2Proof.Machine
end

section
/-! PROOFS. A cold start (O56): the store load, the blocks at their start values, and the first power state. -/

namespace Sys2Proof.Machine

variable {s t u : State} {kept : Store}

/-! ### The store load (R170, R172) -/

/-- A write in progress leaves the store's CRC failing (R170, caution). -/
theorem interrupted_eq (s : State) :
    interrupted s = { s.store with crcOk := s.store.crcOk && s.mgmt.writing.isNone } := by
  unfold interrupted State.storeWriting
  cases s.mgmt.writing <;> simp

/-- The image in use is the store's, or the factory default image where the store is invalid (R172). -/
structure Loaded (kept : Store) (t : State) : Prop where
  store   : t.store = kept
  valid   : kept.crcOk = true → kept.image.valid = true →
    t.active = kept.image ∧ t.generation = kept.generation ∧ t.configInvalid = false
  invalid : kept.crcOk = false ∨ kept.image.valid = false →
    t.active = factoryImage ∧ t.generation = 0 ∧ t.configInvalid = true

theorem loadStore_of_valid (hc : s.store.crcOk = true) (hv : s.store.image.valid = true) : loadStore s =
    { s with active := s.store.image, generation := s.store.generation, configInvalid := false } := by
  have h : storeFailure s.store = none := by simp [storeFailure, hc, hv]
  unfold loadStore
  rw [h]

theorem loadStore_of_invalid (h : s.store.crcOk = false ∨ s.store.image.valid = false) : loadStore s =
    openIncident .storeInvalid (if s.store.crcOk then 2 else 1)
      { s with active := factoryImage, generation := 0, configInvalid := true } := by
  have hf : storeFailure s.store = some (if s.store.crcOk then 2 else 1) := by
    cases hc : s.store.crcOk
    · simp [storeFailure, hc]
    · simp [storeFailure, hc, h.resolve_left (by simp [hc])]
  unfold loadStore
  rw [hf]

theorem store_valid_or_invalid (k : Store) :
    (k.crcOk = true ∧ k.image.valid = true) ∨ (k.crcOk = false ∨ k.image.valid = false) := by
  cases k.crcOk <;> cases k.image.valid <;> simp

theorem loaded_loadStore (s : State) : Loaded s.store (loadStore s) := by
  rcases store_valid_or_invalid s.store with ⟨hc, hv⟩ | h
  · rw [loadStore_of_valid hc hv]
    exact ⟨rfl, fun _ _ => ⟨rfl, rfl, rfl⟩, fun h => absurd h (by simp [hc, hv])⟩
  · rw [loadStore_of_invalid h]
    exact ⟨openIncident_store _ _ _, fun hc hv => absurd h (by simp [hc, hv]), fun _ =>
      ⟨openIncident_active _ _ _, openIncident_generation _ _ _, openIncident_configInvalid _ _ _⟩⟩

theorem openIncident_of_empty (h : s.incidents = []) (k : IncidentKind) (d : Nat) : (openIncident k d s).incidents =
    [{ kind := k, detail := d, repeats := 0, opened := s.time, closed := none }] := by
  unfold openIncident makeRoom
  simp [h]

/-- The load of an invalid store is the only incident of an empty list (R172). -/
theorem loadStore_incidents (h : s.incidents = []) :
    ((loadStore s).configInvalid = false → (loadStore s).incidents = []) ∧
    ((loadStore s).configInvalid = true → (loadStore s).incidents =
      [{ kind := .storeInvalid, detail := if s.store.crcOk then 2 else 1, repeats := 0, opened := s.time,
         closed := none }]) := by
  rcases store_valid_or_invalid s.store with ⟨hc, hv⟩ | hi
  · rw [loadStore_of_valid hc hv]
    exact ⟨fun _ => h, fun hf => absurd hf (by simp)⟩
  · have hinvalid : (loadStore s).configInvalid = true := ((loaded_loadStore s).invalid hi).2.2
    refine ⟨fun hf => absurd (hinvalid.symm.trans hf) (by simp), fun _ => ?_⟩
    rw [loadStore_of_invalid hi]
    exact openIncident_of_empty (s := { s with active := factoryImage, generation := 0, configInvalid := true }) h _ _

/-! ### Every block at its start values -/

/-- A channel that holds nothing but the values recomputed with every composition. -/
def Channel.fresh (ch : Channel) : Prop :=
  ∃ driver intervention, ch = { Channel.start with driver := driver, intervention := intervention }

/-- Every block at its start values, but for the values of the load unit and the channels, and for the tyre unit's timers. -/
structure Starting (kept : Store) (t : State) : Prop where
  loaded    : Loaded kept t
  ports     : t.portA = PortState.start ∧ t.portB = PortState.start
  relay     : t.relay = Relay.start
  hits      : t.hits = List.replicate 64 0
  chain     : t.chain = Chain.start
  wheel     : t.wheel = Wheel.start
  composer  : t.composer = Composer.start
  stability : t.stability = { Stability.start with
    threshold := thresholdOf t.active.stab 0 .none
    watchLevel := thresholdOf t.active.stab 0 .none * t.active.stab.w / 256
    releaseLevel := thresholdOf t.active.stab 0 .none * t.active.stab.rr / 256 }
  mgmt      : t.mgmt = Mgmt.start
  swap      : t.unapplied = none
  calm      : ∀ i, severityOf (judged t i) = .none
  channels  : t.channels.length = 6 ∧ ∀ ch ∈ t.channels, ch.fresh
  bags      : ∀ g, (t.group g).pf = none

/-- The values of the load unit and the channels follow the start (R78, R97, R118). -/
structure Composed (t : State) : Prop where
  channels : t.channels = channelNumbers.map (channelAtStart t)
  load     : t.load.groups = [1, 2, 3].map (groupAtStart t) ∧
    t.load.total = min 65535 ((t.group 1).load + (t.group 2).load + (t.group 3).load)

theorem started_of (h : Starting kept t) (c : Composed t)
    (tyre : t.tyre = { Tyre.start with positions := (List.range 16).map (positionAtStart t) }) : Started kept t where
  store := h.loaded.store
  valid := h.loaded.valid
  invalid := h.loaded.invalid
  ports := h.ports
  relay := h.relay
  hits := h.hits
  chain := h.chain
  wheel := h.wheel
  composer := h.composer
  channels := c.channels
  load := c.load
  stability := h.stability
  tyre := tyre
  mgmt := h.mgmt
  swap := h.swap

/-- A change of the power controller, the tyre unit and the composed values alone. -/
theorem Starting.of_same (h : Starting kept s) (g : SameBut [.channels, .load, .tyre, .power] s t)
    (calm : ∀ i, severityOf (judged t i) = .none) (channels : t.channels.length = 6 ∧ ∀ ch ∈ t.channels, ch.fresh)
    (bags : ∀ g, (t.group g).pf = none) : Starting kept t := by
  have hactive : t.active = s.active := g.at .active (by decide)
  have hgeneration : t.generation = s.generation := g.at .generation (by decide)
  have hinvalid : t.configInvalid = s.configInvalid := g.at .configInvalid (by decide)
  exact {
    loaded := {
      store := (g.at .store (by decide) : t.store = s.store).trans h.loaded.store
      valid := fun hc hv => by rw [hactive, hgeneration, hinvalid]; exact h.loaded.valid hc hv
      invalid := fun hi => by rw [hactive, hgeneration, hinvalid]; exact h.loaded.invalid hi }
    ports := ⟨(g.at .portA (by decide) : t.portA = s.portA).trans h.ports.1,
      (g.at .portB (by decide) : t.portB = s.portB).trans h.ports.2⟩
    relay := (g.at .relay (by decide) : t.relay = s.relay).trans h.relay
    hits := (g.at .hits (by decide) : t.hits = s.hits).trans h.hits
    chain := (g.at .chain (by decide) : t.chain = s.chain).trans h.chain
    wheel := (g.at .wheel (by decide) : t.wheel = s.wheel).trans h.wheel
    composer := (g.at .composer (by decide) : t.composer = s.composer).trans h.composer
    stability := by rw [hactive]; exact (g.at .stability (by decide) : t.stability = s.stability).trans h.stability
    mgmt := (g.at .mgmt (by decide) : t.mgmt = s.mgmt).trans h.mgmt
    swap := (g.at .unapplied (by decide) : t.unapplied = s.unapplied).trans h.swap
    calm := calm
    channels := channels
    bags := bags }

theorem group_congr (h : t.load = s.load) (g : Nat) : t.group g = s.group g := by
  unfold State.group
  rw [h]

/-- A change of the power controller and the tyre unit alone. -/
theorem Starting.frame (h : Starting kept s) (g : SameBut [.tyre, .power] s t)
    (calm : ∀ i, severityOf (judged t i) = .none) : Starting kept t := by
  have hchannels : t.channels = s.channels := g.at .channels (by decide)
  have hload : t.load = s.load := g.at .load (by decide)
  refine h.of_same (g.mono (by decide)) calm ?_ fun n => ?_
  · rw [hchannels]
    exact h.channels
  · rw [group_congr hload]
    exact h.bags n

theorem inUse_congr (ha : t.active = s.active) (hc : t.chain = s.chain) : inUse t = inUse s := by
  unfold inUse
  rw [ha, hc]

theorem channelAtStart_congr (ha : t.active = s.active) (hc : t.chain = s.chain) (c : Nat) :
    channelAtStart t c = channelAtStart s c := by
  unfold channelAtStart channelExists groupExists groupCount
  rw [inUse_congr ha hc, ha]

theorem groupAtStart_congr (ha : t.active = s.active) (hc : t.chain = s.chain) (g : Nat) :
    groupAtStart t g = groupAtStart s g := by
  unfold groupAtStart groupExists groupCount
  rw [inUse_congr ha hc, ha]

theorem Composed.frame (h : Composed s) (g : SameBut [.tyre, .power] s t) : Composed t := by
  have ha : t.active = s.active := g.at .active (by decide)
  have hc : t.chain = s.chain := g.at .chain (by decide)
  have hchannels : t.channels = s.channels := g.at .channels (by decide)
  have hload : t.load = s.load := g.at .load (by decide)
  refine ⟨?_, ?_⟩
  · rw [hchannels, h.channels, funext (channelAtStart_congr ha hc)]
  · rw [hload, funext (groupAtStart_congr ha hc), group_congr hload, group_congr hload, group_congr hload]
    exact h.load

/-! ### The composition of a start (R86 to R91, R104, R108 to R111) -/

theorem worstOf_of_calm (h : ∀ i, severityOf (judged s i) = .none) (l : List Nat) : worstOf s l = .none := by
  unfold worstOf
  simp only [h]
  induction l with
  | nil => rfl
  | cons i l ih => exact ih

theorem derate_none (r : TuningRec) (v : Nat) : derate r .none v = v :=
  Nat.mul_div_cancel v (show 0 < 256 by decide)

theorem characteristic_zero (r : GroupRec) (lam : Nat) : characteristic r lam 0 = 0 := by
  simp [characteristic]

/-- Without a bag pressure and a demand a group holds the empty load (R86, R87). -/
theorem groupNow_atStart (hb : (s.group g).pf = none) (hc : s.composer = Composer.start) :
    groupNow s g = groupAtStart s g := by
  have he : s.composer.effective = 0 := congrArg (·.effective) hc
  unfold groupNow groupAtStart
  split
  · simp [hb, he, loadRatio, groupLoad, characteristic_zero, GroupState.start]
  · rfl

theorem groupAtStart_values (s : State) (g : Nat) : (groupAtStart s g).pf = none ∧ (groupAtStart s g).lam = 0 ∧
    (groupAtStart s g).target = 0 := by
  unfold groupAtStart
  split <;> exact ⟨rfl, rfl, rfl⟩

/-- A fresh channel is composed to its start values: no request but the DRIVER's 0, and PASS_THROUGH (R104, R110). -/
theorem channelNow_atStart {c : Nat} {ch : Channel} (hcomposer : s.composer = Composer.start)
    (hsev : channelSeverity s c = .none) (hlam : (s.group (groupOf c)).lam = 0) (htarget : (s.group (groupOf c)).target = 0)
    (hf : ch.fresh) : channelNow s c ch = channelAtStart s c := by
  obtain ⟨d, i, rfl⟩ := hf
  have hv : channelValues s c { Channel.start with driver := d, intervention := i } = { Channel.start with
      driver := some 0, intervention := characteristic (s.active.group (groupOf c)) 0 s.active.stab.dInt } := by
    simp only [channelValues, hsev, hlam, htarget, derate_none]
    rfl
  have hm : s.composer.mode = .fallback := congrArg (·.mode) hcomposer
  have he : s.composer.emergency = false := congrArg (·.emergency) hcomposer
  unfold channelNow channelAtStart
  split
  · rw [hv]
    simp [channelCommands, targetOf, he, greatestRequest, requestedOf, recordOf, hm, Command.pass, Channel.start,
      Channel.toFollow]
  · rfl

theorem channelAtStart_fresh (s : State) (c : Nat) : (channelAtStart s c).fresh := by
  unfold channelAtStart
  split
  · exact ⟨_, _, rfl⟩
  · exact ⟨none, 0, rfl⟩

section
variable (h : Starting kept s)
include h

/-- The load unit's groups at a start. -/
theorem Starting.loadNow_groups : (loadNow s).groups = [1, 2, 3].map (groupAtStart s) := by
  have hg : ∀ g, groupNow s g = groupAtStart s g := fun g => groupNow_atStart (h.bags g) h.composer
  show (List.range 3).map (fun i => groupNow s (i + 1)) = _
  simp only [hg]
  rfl

theorem Starting.recompose_group (g : Nat) : ((recompose s).group g).pf = none ∧ ((recompose s).group g).lam = 0 ∧
    ((recompose s).group g).target = 0 := by
  have hgroups : (recompose s).load.groups = [groupAtStart s 1, groupAtStart s 2, groupAtStart s 3] := h.loadNow_groups
  have hmem : (recompose s).group g ∈ [groupAtStart s 1, groupAtStart s 2, groupAtStart s 3] ∨
      (recompose s).group g = GroupState.start := by
    unfold State.group
    rw [hgroups]
    rcases Nat.lt_or_ge (g - 1) 3 with hlt | hge
    · exact .inl (by rw [List.getD_eq_getElem _ _ hlt]; exact List.getElem_mem _)
    · exact .inr (List.getD_eq_default _ _ hge)
  simp only [List.mem_cons, List.not_mem_nil, or_false] at hmem
  rcases hmem with (e | e | e) | e <;> rw [e]
  · exact groupAtStart_values s 1
  · exact groupAtStart_values s 2
  · exact groupAtStart_values s 3
  · exact ⟨rfl, rfl, rfl⟩

theorem Starting.channelNow_eq (c : Nat) {ch : Channel} (hf : ch.fresh) :
    channelNow (s.updLoad fun _ => loadNow s) c ch = channelAtStart s c := by
  obtain ⟨_, hlam, htarget⟩ := h.recompose_group (groupOf c)
  have hcalm : ∀ i, severityOf (judged (s.updLoad fun _ => loadNow s) i) = .none := h.calm
  exact channelNow_atStart (s := s.updLoad fun _ => loadNow s) h.composer (worstOf_of_calm hcalm _) hlam htarget hf

theorem Starting.recompose_channels : (recompose s).channels = channelNumbers.map (channelAtStart s) := by
  obtain ⟨hlen, hfresh⟩ := h.channels
  refine List.ext_getElem (by simp [recompose, State.mapChannels, State.updLoad, hlen, channelNumbers]) fun i h1 h2 => ?_
  have hi : i < s.channels.length := by simpa [recompose, State.mapChannels, State.updLoad] using h1
  have hn : channelNumbers[i]'(by simpa using h2) = i + 1 := by
    have : channelNumbers = (List.range 6).map (· + 1) := rfl
    simp [this]
  have hleft : (recompose s).channels[i] = channelNow (s.updLoad fun _ => loadNow s) (i + 1) s.channels[i] := by
    simp [recompose, State.mapChannels, State.updLoad]
  rw [hleft, List.getElem_map, hn]
  exact h.channelNow_eq (i + 1) (hfresh _ (List.getElem_mem hi))

/-- The composition of a start gives its values. -/
theorem Starting.composed : Composed (recompose s) := by
  refine ⟨h.recompose_channels, h.loadNow_groups, ?_⟩
  have hg : (loadNow s).total = min 65535 (((loadNow s).groups.map (·.load)).sum) := rfl
  show (loadNow s).total = min 65535 (((loadNow s).groups.getD 0 .start).load + ((loadNow s).groups.getD 1 .start).load +
    ((loadNow s).groups.getD 2 .start).load)
  rw [hg, h.loadNow_groups]
  simp [Nat.add_assoc]

theorem Starting.recompose : Starting kept (recompose s) := by
  refine h.of_same ((same_recompose s).mono (by decide)) h.calm ⟨?_, ?_⟩ fun g => (h.recompose_group g).1
  · rw [h.recompose_channels]
    rfl
  · rw [h.recompose_channels]
    intro ch hch
    obtain ⟨c, _, rfl⟩ := List.mem_map.mp hch
    exact channelAtStart_fresh s c

end

/-! ### The blocks start (R20, R61, R78, R97, R118, R141, R160, R176) -/

/-- The blocks at their start values before the values of the load unit and the channels follow. -/
def blankBlocks (s : State) : State :=
  rethreshold (startTyres { s with
    portA := PortState.start, portB := PortState.start, relay := Relay.start, hits := List.replicate 64 0,
    chain := Chain.start, wheel := Wheel.start, channels := List.replicate 6 Channel.start, load := Load.start,
    composer := Composer.start, stability := Stability.start, mgmt := Mgmt.start, unapplied := none })

/-- A tyre unit without a learn whose sixteen positions start is judged OK everywhere (R153). -/
theorem calm_of_positions {f : Nat → Position} (hl : s.tyre.learn = none)
    (hp : s.tyre.positions = (List.range 16).map f) (hf : ∀ i, severityOf (f i).state = .none) (i : Nat) :
    severityOf (judged s i) = .none := by
  unfold judged
  rw [hl]
  show severityOf (s.position i).state = .none
  unfold State.position
  rw [hp]
  rcases Nat.lt_or_ge i 16 with h | h
  · rw [List.getD_eq_getElem _ _ (by simpa using h), List.getElem_map]
    exact hf _
  · rw [List.getD_eq_default _ _ (by simpa using h)]
    rfl

theorem startPosition_calm (img : Image) (i : Nat) : severityOf (startPosition img i).state = .none := by
  show severityOf (startState (img.tyre i)) = .none
  unfold startState
  split
  · rfl
  · split <;> rfl

theorem starting_blankBlocks (h : Loaded kept s) : Starting kept (blankBlocks s) where
  loaded := ⟨h.store, h.valid, h.invalid⟩
  ports := ⟨rfl, rfl⟩
  relay := rfl
  hits := rfl
  chain := rfl
  wheel := rfl
  composer := rfl
  stability := rfl
  mgmt := rfl
  swap := rfl
  calm := calm_of_positions (s := blankBlocks s) rfl rfl (startPosition_calm s.active)
  channels := ⟨rfl, fun _ hch => ⟨none, 0, List.eq_of_mem_replicate (n := 6) hch⟩⟩
  bags g := congrArg (·.pf) (List.getElem?_getD_replicate_default_eq GroupState.start 3 (g - 1))

/-- The blocks' start leaves the operating time, the incident list, the store, the image and the power controller. -/
theorem same_startBlocks (s : State) : SameBut [.portA, .portB, .relay, .hits, .chain, .wheel, .channels, .load, .composer,
    .stability, .tyre, .mgmt, .unapplied] s (startBlocks s) := by
  have g : SameBut [.portA, .portB, .relay, .hits, .chain, .wheel, .channels, .load, .composer, .stability, .tyre, .mgmt,
      .unapplied] s (blankBlocks s) := by
    intro p hp; cases p <;> simp at hp <;> rfl
  exact g.comp (same_recompose _) (by decide) (by decide)

theorem starting_startBlocks (h : Loaded kept s) : Starting kept (startBlocks s) := (starting_blankBlocks h).recompose

theorem composed_startBlocks (h : Loaded kept s) : Composed (startBlocks s) := (starting_blankBlocks h).composed

theorem startBlocks_tyre (s : State) :
    (startBlocks s).tyre = { Tyre.start with positions := (List.range 16).map (startPosition s.active) } := rfl

/-! ### The first state (R182, R183) -/

theorem updChain_self {f : Chain → Chain} (h : f s.chain = s.chain) : s.updChain f = s := by
  unfold State.updChain
  rw [h]

theorem updComposer_self {f : Composer → Composer} (h : f s.composer = s.composer) : s.updComposer f = s := by
  unfold State.updComposer
  rw [h]

theorem chainEntersRun_of_start (h : s.chain = Chain.start) : chainEntersRun s = s := by
  unfold chainEntersRun
  rw [chainReset, updChain_self (by rw [h]; rfl), updChain_self (by rw [h]; rfl)]

/-- At a start nothing demands a brake pressure (R101). -/
theorem effectiveDemand_of_start (hchain : s.chain = Chain.start) (hcomposer : s.composer = Composer.start) :
    effectiveDemand s = 0 := by
  have he : electronicDemand s = 0 := by
    unfold electronicDemand
    rw [hcomposer]
    rfl
  have hn : ∀ n, s.node n = Node.start := fun n => by
    unfold State.node
    rw [hchain]
    exact List.getElem?_getD_replicate_default_eq Node.start 4 (n - 1)
  have hr : refRecord s = none := by
    unfold refRecord refNode
    cases (inUse s).ref with
    | none => rfl
    | some n =>
      show (s.node n).record = none
      rw [hn]
      rfl
  unfold effectiveDemand controlDemand
  rw [he, hr]
  rfl

theorem brakeMode_of_start (h : s.chain = Chain.start) : brakeMode s = .fallback := by
  have hr : chainRunning s = false := by
    unfold chainRunning
    rw [h]
    rfl
  simp [brakeMode, hr]

/-- Entering RUN from a start is the power controller's change and one more composition (R182). -/
theorem enterRun_of_starting (h : Starting kept s) : enterRun s = recompose (runPower s) := by
  have hchain : (runPower s).chain = Chain.start := h.chain
  have hcomposer : (runPower s).composer = Composer.start := h.composer
  have hd := effectiveDemand_of_start hchain hcomposer
  have hb := brakeMode_of_start hchain
  have he : (runPower s).composer.emergency = false := by
    rw [hcomposer]
    rfl
  have hset : setEmergency false (runPower s) = runPower s := if_pos he
  have hm : (runPower s).composer.mode = .fallback := congrArg (·.mode) hcomposer
  have hupd : ((runPower s).updComposer fun c => { c with effective := 0, mode := .fallback }) = runPower s :=
    updComposer_self (by rw [hcomposer]; rfl)
  unfold enterRun
  rw [applyHeld_none s h.swap, chainEntersRun_of_start hchain, hset, reestablish_eq, remoded, hd, hb, hm, if_pos rfl, hupd]
  rfl

/-- A position's start, as the power state lets its timer run (R145, R152, R160). -/
theorem positionAtStart_of_run (hs : t.power.state = .run) (i : Nat) : positionAtStart t i = startPosition t.active i := by
  unfold positionAtStart startPosition startState TyreRec.assigned
  cases hc : (t.active.tyre i).configured <;>
    cases h : ((t.active.tyre i).primary.present || (t.active.tyre i).alternate.present) <;>
    simp [hc, h, hs, missingTimeout]

theorem positionAtStart_of_sleep (hs : t.power.state = .sleep) (i : Nat) :
    positionAtStart t i = { startPosition t.active i with missing := none } := by
  unfold positionAtStart startPosition startState TyreRec.assigned
  cases hc : (t.active.tyre i).configured <;>
    cases h : ((t.active.tyre i).primary.present || (t.active.tyre i).alternate.present) <;>
    simp [hc, h, hs, Position.cleared]

/-- In SLEEP a lamp that is OFF stays so; the FIFO empties and the missing timers stop (R143, R152, R155). -/
theorem tyreSleep_tyre (hs : s.power.state = .sleep) (hl : s.tyre.lamp = .off) : (tyreSleep s).tyre = { s.tyre with
    fifo := [], positions := s.tyre.positions.map fun q => { q with missing := none } } := by
  have hw : ∀ f, lampWanted (s.updTyre f) = .off := fun f => if_pos hs
  have hd : tyreSleep s = s.updTyre fun u =>
      { u with fifo := [], positions := u.positions.map fun q => { q with missing := none } } :=
    if_pos ((hw _).trans hl.symm)
  rw [hd]
  rfl

theorem enterSleep_tyre (hu : s.unapplied = none) (hl : s.tyre.lamp = .off) : (enterSleep s).tyre = { s.tyre with
    fifo := [], positions := s.tyre.positions.map fun q => { q with missing := none } } := by
  unfold enterSleep
  rw [applyHeld_none s hu]
  exact tyreSleep_tyre rfl hl

/-- The part as it goes to SLEEP at a cold start: locked out on a low battery (R177, R183). -/
def lockedIfLow (s : State) : State := if s.power.low then setLockout s else s

theorem coldSleep_eq (s : State) : coldSleep s = enterSleep (lockedIfLow s) := rfl

theorem same_lockedIfLow (s : State) : SameBut [.power] s (lockedIfLow s) := by
  unfold lockedIfLow
  split
  · exact same_updPower _ s
  · exact .refl _ s

theorem lockedIfLow_power (hl : s.power.lockout = false) (hw : s.power.wake = none) : (lockedIfLow s).power =
    { s.power with lockout := s.power.low, sample := if s.power.low then none else s.power.sample } := by
  unfold lockedIfLow
  split
  · next h =>
    rw [setLockout_power, h, ← hw]
  · next h =>
    have h' : s.power.low = false := by simpa using h
    rw [h', ← hl]

/-! ### The cold start -/

/-- The store as a cold start finds it (R170, caution). -/
def coldStore (s : State) : Store := { s.store with crcOk := s.store.crcOk && s.mgmt.writing.isNone }

/-- A cold start up to the store load. -/
def coldEmptied (s : State) : State := { s with time := 0, incidents := [], store := interrupted s }

theorem loaded_coldLoaded (v : Nat) (link : Bool) (s : State) : Loaded (coldStore s) (coldLoaded v link s) := by
  have h := loaded_loadStore (coldEmptied s)
  have hstore : (coldEmptied s).store = coldStore s := interrupted_eq s
  rw [hstore] at h
  exact ⟨h.store, h.valid, h.invalid⟩

theorem same_loadStore (s : State) : SameBut [.active, .generation, .configInvalid, .incidents] s (loadStore s) := by
  rcases store_valid_or_invalid s.store with ⟨hc, hv⟩ | h
  · rw [loadStore_of_valid hc hv]
    intro p hp; cases p <;> simp at hp <;> rfl
  · rw [loadStore_of_invalid h]
    have g : SameBut [.active, .generation, .configInvalid] s
        { s with active := factoryImage, generation := 0, configInvalid := true } := by
      intro p hp; cases p <;> simp at hp <;> rfl
    exact g.comp (same_openIncident _ _ _) (by decide) (by decide)

theorem coldLoaded_time (v : Nat) (link : Bool) (s : State) : (coldLoaded v link s).time = 0 :=
  (same_loadStore (coldEmptied s)).at .time (by decide)

theorem coldLoaded_pending (v : Nat) (link : Bool) (s : State) : (coldLoaded v link s).pending = s.pending :=
  (same_loadStore (coldEmptied s)).at .pending (by decide)

/-- The incident list after a cold start (R172, R176). -/
def ColdIncidents (s t : State) : Prop :=
  (t.configInvalid = false → t.incidents = []) ∧
  (t.configInvalid = true → t.incidents =
    [{ kind := .storeInvalid, detail := if s.store.crcOk ∧ s.mgmt.writing = none then 2 else 1, repeats := 0, opened := 0,
       closed := none }])

theorem coldLoaded_incidents (v : Nat) (link : Bool) (s : State) : ColdIncidents s (coldLoaded v link s) := by
  obtain ⟨hvalid, hinvalid⟩ := loadStore_incidents (s := coldEmptied s) rfl
  have hstore : (coldEmptied s).store = coldStore s := interrupted_eq s
  refine ⟨hvalid, fun h => (hinvalid h).trans ?_⟩
  rw [hstore]
  simp [coldStore, coldEmptied]

theorem ColdIncidents.of_same {L : List Part} (h : ColdIncidents s t) (g : SameBut L t u)
    (hL : ∀ p ∈ [Part.configInvalid, .incidents], p ∉ L) : ColdIncidents s u := by
  have hc : u.configInvalid = t.configInvalid := g .configInvalid (hL _ (by decide))
  have hi : u.incidents = t.incidents := g .incidents (hL _ (by decide))
  unfold ColdIncidents
  rw [hc, hi]
  exact h

/-- The battery low flag of a cold start (R177, R183). -/
theorem coldPower_low {v : Nat} (hv : v ≤ 400) (link : Bool) (s : State) :
    (coldPower s v link).low = true ↔ v < s.active.tuning.batteryLimit := by
  show nextLow s.active.tuning.batteryLimit (min 400 v) false = true ↔ _
  rw [min_eq_right hv]
  unfold nextLow
  split
  · next h => simp [h]
  · next h =>
    split <;> simp [h]

/-! ### The first state of a start -/

/-- The state in which every block has started, before the first power state. -/
structure StartedBlocks (kept : Store) (b : State) : Prop where
  starting : Starting kept b
  composed : Composed b
  tyre     : b.tyre = { Tyre.start with positions := (List.range 16).map (startPosition b.active) }

theorem startedBlocks_startBlocks (h : Loaded kept s) : StartedBlocks kept (startBlocks s) :=
  ⟨starting_startBlocks h, composed_startBlocks h, startBlocks_tyre s⟩

theorem coldSleep_power {b : State} (hl : b.power.lockout = false) (hw : b.power.wake = none) : (coldSleep b).power =
    { b.power with
      state := .sleep, park := none, listen := none, lockout := b.power.low
      sample := if b.power.low then none else b.power.sample
      wake := if b.power.low then none else some 600000 } := by
  rw [coldSleep_eq, enterSleep_power, lockedIfLow_power hl hw]

section
variable {b : State} (h : StartedBlocks kept b)
include h

theorem same_enterRun_of_started : SameBut [.channels, .load, .power] b (enterRun b) := by
  rw [enterRun_of_starting h.starting]
  exact (same_updPower _ b).comp (same_recompose _) (by decide) (by decide)

theorem enterRun_power_of_started : (enterRun b).power = { b.power with
    state := .run, lockout := false, park := none, wake := none, listen := none,
    sample := some (b.power.sample.getD 1000), settle := some b.active.tuning.settle } := by
  rw [enterRun_of_starting h.starting]
  exact (same_recompose (runPower b)).at .power (by decide)

theorem started_enterRun : Started kept (enterRun b) := by
  have hr : Starting kept (runPower b) :=
    h.starting.frame ((same_updPower _ b).mono (by decide)) h.starting.calm
  have hactive : (enterRun b).active = b.active := (same_enterRun_of_started h).at .active (by decide)
  have htyre : (enterRun b).tyre = b.tyre := (same_enterRun_of_started h).at .tyre (by decide)
  have hstate : (enterRun b).power.state = .run := congrArg (·.state) (enterRun_power_of_started h)
  have hstarting : Starting kept (enterRun b) := by
    rw [enterRun_of_starting h.starting]
    exact hr.recompose
  have hcomposed : Composed (enterRun b) := by
    rw [enterRun_of_starting h.starting]
    exact hr.composed
  refine started_of hstarting hcomposed ?_
  rw [funext (positionAtStart_of_run hstate), htyre, hactive]
  exact h.tyre

theorem lockedIfLow_unapplied : (lockedIfLow b).unapplied = none :=
  ((same_lockedIfLow b).at .unapplied (by decide) : (lockedIfLow b).unapplied = b.unapplied).trans h.starting.swap

theorem same_coldSleep : SameBut [.tyre, .power] b (coldSleep b) := by
  rw [coldSleep_eq]
  exact (same_lockedIfLow b).comp (same_enterSleep _ (lockedIfLow_unapplied h)) (by decide) (by decide)

theorem coldSleep_tyre : (coldSleep b).tyre = { Tyre.start with
    positions := (List.range 16).map fun i => { startPosition b.active i with missing := none } } := by
  have htyre : (lockedIfLow b).tyre = _ := ((same_lockedIfLow b).at .tyre (by decide)).trans h.tyre
  have hlamp : (lockedIfLow b).tyre.lamp = .off := by
    rw [htyre]
    rfl
  rw [coldSleep_eq, enterSleep_tyre (lockedIfLow_unapplied h) hlamp, htyre, List.map_map]
  rfl

theorem started_coldSleep (hs : (coldSleep b).power.state = .sleep) : Started kept (coldSleep b) := by
  have g := same_coldSleep h
  have htyre := coldSleep_tyre h
  have hcalm : ∀ i, severityOf (judged (coldSleep b) i) = .none :=
    calm_of_positions (f := fun i => { startPosition b.active i with missing := none }) (by rw [htyre]; rfl) (by rw [htyre])
      fun i => startPosition_calm b.active i
  have hactive : (coldSleep b).active = b.active := g.at .active (by decide)
  refine started_of (h.starting.frame g hcalm) (h.composed.frame g) ?_
  rw [funext (positionAtStart_of_sleep hs), hactive]
  exact htyre

theorem slept_coldSleep (hl : b.power.lockout = false) (hw : b.power.wake = none) : Slept (coldSleep b) := by
  have hp := coldSleep_power hl hw
  have ht := coldSleep_tyre h
  refine ⟨?_, ?_, ?_⟩
  · rw [hp]
    exact ⟨rfl, rfl, rfl⟩
  · rw [hp]
  · rw [ht]
    refine ⟨rfl, rfl, fun q hq => ?_⟩
    obtain ⟨i, _, rfl⟩ := List.mem_map.mp hq
    rfl

end

/-- What a cold start has reached when the blocks have started. -/
structure ColdBlocks (v : Nat) (link : Bool) (s b : State) : Prop where
  blocks    : StartedBlocks (coldStore s) b
  time      : b.time = 0
  pending   : b.pending = s.pending
  incidents : ColdIncidents s b
  power     : b.power = coldPower b v link

theorem coldBlocks_startBlocks (v : Nat) (link : Bool) (s : State) :
    ColdBlocks v link s (startBlocks (coldLoaded v link s)) := by
  have hpower : (coldLoaded v link s).power = coldPower (coldLoaded v link s) v link := rfl
  have hl := loaded_coldLoaded v link s
  have htime := coldLoaded_time v link s
  have hpending := coldLoaded_pending v link s
  have hinc := coldLoaded_incidents v link s
  generalize coldLoaded v link s = c at *
  have g := same_startBlocks c
  have hactive : (startBlocks c).active = c.active := g.at .active (by decide)
  have hp : (startBlocks c).power = c.power := g.at .power (by decide)
  refine ⟨startedBlocks_startBlocks hl, ?_, ?_, hinc.of_same g (by decide), ?_⟩
  · exact (g.at .time (by decide) : (startBlocks c).time = c.time).trans htime
  · exact (g.at .pending (by decide) : (startBlocks c).pending = c.pending).trans hpending
  · rw [hp, hpower, coldPower, coldPower, hactive]

/-- Settles O56: the store load gives the image, the blocks start under it, and the link power decides the first state. -/
theorem coldStartStartsEverything : Obligations.ColdStartStartsEverything := by
  unfold Obligations.ColdStartStartsEverything
  intro s v link hv
  have hexec : exec (.coldStart v link) s = .next (coldStart v link s) := rfl
  have hb := coldBlocks_startBlocks v link s
  rw [coldStart_eq] at hexec
  generalize startBlocks (coldLoaded v link s) = b at *
  have hlow : (coldPower b v link).low = true ↔ v < b.active.tuning.batteryLimit := coldPower_low hv link b
  have hvoltage : (coldPower b v link).voltage = v := min_eq_right hv
  refine ⟨_, hexec, ?_⟩
  cases link with
  | true =>
    have g := same_enterRun_of_started hb.blocks
    obtain ⟨hnone, hone⟩ := hb.incidents.of_same g (by decide)
    have hactive : (enterRun b).active = b.active := g.at .active (by decide)
    have hp := enterRun_power_of_started hb.blocks
    rw [hb.power] at hp
    refine ⟨started_enterRun hb.blocks, (g.at .time (by decide) : (enterRun b).time = b.time).trans hb.time,
      (g.at .pending (by decide) : (enterRun b).pending = b.pending).trans hb.pending, hnone, hone, ?_⟩
    rw [if_pos rfl, hp, hactive]
    exact ⟨rfl, hvoltage, rfl, rfl, hlow, fun _ => ⟨rfl, rfl, rfl, rfl, rfl⟩, fun hf => absurd hf (by decide)⟩
  | false =>
    have g := same_coldSleep hb.blocks
    obtain ⟨hnone, hone⟩ := hb.incidents.of_same g (by decide)
    have hactive : (coldSleep b).active = b.active := g.at .active (by decide)
    have hl : b.power.lockout = false := by rw [hb.power]; rfl
    have hw : b.power.wake = none := by rw [hb.power]; rfl
    have hp := coldSleep_power hl hw
    have hslept := slept_coldSleep hb.blocks hl hw
    rw [hb.power] at hp
    refine ⟨started_coldSleep hb.blocks hslept.state.1, (g.at .time (by decide) : (coldSleep b).time = b.time).trans hb.time,
      (g.at .pending (by decide) : (coldSleep b).pending = b.pending).trans hb.pending, hnone, hone, ?_⟩
    rw [if_neg (by decide), hp, hactive]
    exact ⟨rfl, hvoltage, rfl, rfl, hlow, fun hf => absurd hf (by decide), fun _ => ⟨hslept, rfl, rfl, rfl⟩⟩

end Sys2Proof.Machine
end

section
/-! PROOFS. A link-power-off event (O57): the blocks at rest, what they keep, and the park watch or SLEEP. -/

namespace Sys2Proof.Machine

variable {s t u : State}

/-! ### The bag pressures (R96) -/

/-- No group holds a filtered bag pressure. -/
def Bagless (s : State) : Prop := ∀ g ∈ [1, 2, 3], (s.group g).pf = none

theorem Bagless.congr (h : Bagless s) (e : t.load = s.load) : Bagless t := fun g hg => by
  rw [group_congr e]
  exact h g hg

/-- A composition reads the bag pressures and sets none. -/
theorem bagless_recompose (h : Bagless s) : Bagless (recompose s) := fun g hg => by
  have h13 : 1 ≤ g ∧ g ≤ 3 := by
    simp only [List.mem_cons, List.not_mem_nil, or_false] at hg
    omega
  rw [recompose_group s h13.1 h13.2]
  unfold groupNow
  split
  · exact h g hg
  · rfl

theorem bagless_enterOff (h : Bagless s) : Bagless (enterOff s) := by
  unfold enterOff
  split
  · exact h
  · exact bagless_recompose (h.congr (by simp [changeStab, originateStability, dropStabInt, dropStabTest]))

theorem bagless_reestablish (h : Bagless s) : Bagless (reestablish s) := by
  have hr : Bagless (remoded s) := bagless_recompose (h.congr ((same_demandLost _ _ _).at .load (by decide)))
  rw [reestablish_eq]
  split
  · exact hr
  · unfold testOff
    split
    · exact bagless_enterOff hr
    · exact hr

theorem bagless_tyreSettle (h : Bagless s) : Bagless (tyreSettle s) :=
  bagless_recompose (h.congr ((same_driveLamp s).at .load (by decide)))

theorem bagless_endLearn (h : Bagless s) : Bagless (endLearn s) := by
  cases hl : s.tyre.learn with
  | none => rwa [endLearn_of_none hl]
  | some l =>
    rw [endLearn_eq hl]
    exact bagless_tyreSettle (h.congr ((same_setTyreState _ _ (withLearn none s)).at .load (by decide)))

theorem bagless_endTests (h : Bagless s) : Bagless (endTests s) := bagless_recompose (h.congr (mapChannels_load _ _))

theorem bagless_leaveMgmt (h : Bagless s) : Bagless (leaveMgmt s) := by
  have he : Bagless (endService s) := by
    unfold endService
    split
    · exact bagless_endTests (h.congr (updMgmt_load _ _))
    · exact h
  exact he.congr (updMgmt_load _ _)

theorem bagless_settleDown (h : Bagless s) : Bagless (settleDown s) :=
  bagless_endTests (bagless_leaveMgmt (bagless_endLearn (bagless_enterOff (bagless_reestablish h))))

theorem bagless_leaveLoad (s : State) : Bagless (leaveLoad s) := fun g _ => by
  show (((s.load.groups.map fun q => { q with pf := none }).getD (g - 1) GroupState.start).pf) = none
  rcases Nat.lt_or_ge (g - 1) s.load.groups.length with h | h
  · rw [List.getD_eq_getElem _ _ (by simpa using h), List.getElem_map]
  · rw [List.getD_eq_default _ _ (by simpa using h)]
    rfl

/-! ### What leaving RUN keeps -/

/-- Nothing queued reaches a port without a partner (R4). -/
theorem Moves.port_of_absent (m : Moves s t) {p : Port} (h : (s.port p).present = false) : t.port p = s.port p := by
  induction m with
  | quiet hA hB _ _ =>
    cases p
    · exact hA
    · exact hB
  | @enqueued t q c x m ih =>
    have ht : (t.port p).present = false := by
      rw [ih]
      exact h
    have he : (enqueue q c x t).port p = t.port p := by
      cases p <;> cases q
      · exact enqueue_absent ht c _
      · rfl
      · rfl
      · exact enqueue_absent ht c _
    exact he.trans ih
  | opened k d _ ih =>
    refine Eq.trans ?_ ih
    cases p
    · exact openIncident_portA k d _
    · exact openIncident_portB k d _
  | closed w _ ih => exact ih
  | after _ hA hB _ _ ih =>
    refine Eq.trans ?_ ih
    cases p
    · exact hA
    · exact hB

/-- What the blocks keep and take as they come to rest (R20, R60, R78, R117). -/
theorem atRest_keeps (s : State) : (atRest s).portA = s.portA.leave ∧ (atRest s).portB = s.portB.leave ∧
    (atRest s).chain.goodTotal = s.chain.goodTotal ∧ (atRest s).chain.failTotal = s.chain.failTotal ∧
    (atRest s).wheel = Wheel.start ∧ (atRest s).composer.gaps = s.composer.gaps ∧
    (atRest s).composer.emergency = false :=
  ⟨rfl, rfl, rfl, rfl, rfl, rfl, rfl⟩

theorem bagless_atRest (s : State) : Bagless (atRest s) :=
  (bagless_leaveLoad _).congr ((same_leaveComposer _).at .load (by decide))

theorem leaveRun_ports (s : State) : (leaveRun s).portA = s.portA.leave ∧ (leaveRun s).portB = s.portB.leave := by
  have m := moves_settleDown (atRest s)
  obtain ⟨hA, hB, _⟩ := atRest_keeps s
  rw [leaveRun_eq_settleDown]
  exact ⟨(m.port_of_absent (p := .A) rfl).trans hA, (m.port_of_absent (p := .B) rfl).trans hB⟩

theorem leaveRun_chain (s : State) :
    (leaveRun s).chain.goodTotal = s.chain.goodTotal ∧ (leaveRun s).chain.failTotal = s.chain.failTotal := by
  have hc : (settleDown (atRest s)).chain = (atRest s).chain := (same_settleDown _).at .chain (by decide)
  obtain ⟨_, _, hgood, hfail, _⟩ := atRest_keeps s
  rw [leaveRun_eq_settleDown, hc]
  exact ⟨hgood, hfail⟩

theorem leaveRun_wheel (s : State) : (leaveRun s).wheel = Wheel.start := by
  have hw : (settleDown (atRest s)).wheel = (atRest s).wheel := (same_settleDown _).at .wheel (by decide)
  obtain ⟨_, _, _, _, hwheel, _⟩ := atRest_keeps s
  exact hw.trans hwheel

/-- Out of RUN the brake mode is FALLBACK and the emergency ended; the gap count is kept (R102, R117). -/
theorem leaveRun_composer (s : State) : (leaveRun s).composer.mode = .fallback ∧
    (leaveRun s).composer.emergency = false ∧ (leaveRun s).composer.gaps = s.composer.gaps := by
  obtain ⟨_, _, _, _, _, hgaps, hemergency⟩ := atRest_keeps s
  have hin : (atRest s).inRun = false := rfl
  have hb : brakeMode (atRest s) = .fallback := by simp [brakeMode, hin]
  rw [leaveRun_eq_settleDown, settleDown_composer, hb]
  exact ⟨rfl, hemergency, hgaps⟩

theorem bagless_leaveRun (s : State) : Bagless (leaveRun s) := bagless_settleDown (bagless_atRest s)

theorem same_leaveRun (s : State) : SameBut [.incidents, .portA, .portB, .relay, .chain, .wheel, .channels, .load,
    .composer, .stability, .tyre, .mgmt, .power] s (leaveRun s) :=
  (same_atRest s).comp (same_settleDown _) (by decide) (by decide)

/-! ### The event in RUN (R178) -/

/-- What holds of the part after a link-power-off event in RUN, whichever state it enters. -/
structure PoweredOff (s t : State) : Prop where
  rests     : Rests t
  wheel     : t.wheel = Wheel.start
  mode      : t.composer.mode = .fallback
  emergency : t.composer.emergency = false
  bags      : Bagless t
  portA     : t.portA = s.portA.leave
  portB     : t.portB = s.portB.leave
  good      : t.chain.goodTotal = s.chain.goodTotal
  fail      : t.chain.failTotal = s.chain.failTotal
  gaps      : t.composer.gaps = s.composer.gaps
  same      : SameBut [.incidents, .portA, .portB, .relay, .chain, .wheel, .channels, .load, .composer, .stability, .tyre,
    .mgmt, .power] s t

theorem poweredOff_leaveRun (s : State) : PoweredOff s (leaveRun s) := by
  obtain ⟨hA, hB⟩ := leaveRun_ports s
  obtain ⟨hgood, hfail⟩ := leaveRun_chain s
  obtain ⟨hmode, hemergency, hgaps⟩ := leaveRun_composer s
  exact ⟨rests_leaveRun s, leaveRun_wheel s, hmode, hemergency, bagless_leaveRun s, hA, hB, hgood, hfail, hgaps,
    same_leaveRun s⟩

/-- The power controller's own items come apart from the rest. -/
theorem PoweredOff.of_power (h : PoweredOff (s.updPower f) t) : PoweredOff s t :=
  { h with same := ((same_updPower f s).mono (by decide)).trans h.same }

/-- The park timer or SLEEP changes nothing but the power controller and the tyre unit's timers, FIFO and lamp. -/
theorem PoweredOff.frame (h : PoweredOff s t) (g : SameBut [.tyre, .power] t u) (hl : u.tyre.learn = none) :
    PoweredOff s u := by
  have hA : u.portA = t.portA := g.at .portA (by decide)
  have hB : u.portB = t.portB := g.at .portB (by decide)
  have hrelay : u.relay = t.relay := g.at .relay (by decide)
  have hchain : u.chain = t.chain := g.at .chain (by decide)
  have hwheel : u.wheel = t.wheel := g.at .wheel (by decide)
  have hcomposer : u.composer = t.composer := g.at .composer (by decide)
  have hstability : u.stability = t.stability := g.at .stability (by decide)
  have hmgmt : u.mgmt = t.mgmt := g.at .mgmt (by decide)
  have r := h.rests
  exact {
    rests := {
      portA := hA ▸ r.portA
      portB := hB ▸ r.portB
      own := hrelay ▸ r.own
      timers := hrelay ▸ r.timers
      chain := hchain ▸ r.chain
      demand := hcomposer ▸ r.demand
      stability := hstability ▸ r.stability
      learn := hl
      service := hmgmt ▸ r.service
      restart := hmgmt ▸ r.restart }
    wheel := hwheel ▸ h.wheel
    mode := hcomposer ▸ h.mode
    emergency := hcomposer ▸ h.emergency
    bags := h.bags.congr (g.at .load (by decide))
    portA := hA.trans h.portA
    portB := hB.trans h.portB
    good := hchain ▸ h.good
    fail := hchain ▸ h.fail
    gaps := hcomposer ▸ h.gaps
    same := h.same.trans (g.mono (by decide)) }

theorem poweredOff_turnedOff (h : s.inRun = true) (v : Nat) : PoweredOff s (turnedOff v s) := by
  have hu := poweredOff_leaveRun (updateVoltage (min 400 v) (unpowered s))
  rw [turnedOff_eq, updateVoltage_of_inRun (s := unpowered s) h] at *
  exact hu.of_power.of_power

/-- A part that goes to SLEEP has an empty FIFO, no missing timer and the lamp OFF (R143, R152, R155). -/
theorem tyreSleep_rests (hs : s.power.state = .sleep) : (tyreSleep s).tyre.fifo = [] ∧ (tyreSleep s).tyre.lamp = .off ∧
    ∀ q ∈ (tyreSleep s).tyre.positions, q.missing = none := by
  have hw : ∀ f, lampWanted (s.updTyre f) = .off := fun f => if_pos hs
  have hm : ∀ q ∈ s.tyre.positions.map fun q => { q with missing := none }, q.missing = none := by
    intro q hq
    obtain ⟨_, _, rfl⟩ := List.mem_map.mp hq
    rfl
  unfold tyreSleep driveLamp
  dsimp only
  rw [hw]
  split
  · next hl => exact ⟨rfl, hl.symm, hm⟩
  · exact ⟨rfl, rfl, hm⟩

theorem slept_enterSleep (s : State) : Slept (enterSleep s) where
  state := by
    rw [enterSleep_power]
    exact ⟨rfl, rfl, rfl⟩
  wake := by rw [enterSleep_power]
  tyres := tyreSleep_rests rfl

/-- The battery low flag with its hysteresis (R177). -/
theorem nextLow_iff (limit v : Nat) (flag : Bool) :
    nextLow limit v flag = true ↔ v < limit ∨ (flag = true ∧ v < limit + 10) := by
  unfold nextLow
  split
  · next h => simp [h]
  · next h =>
    split
    · next h10 => simp; omega
    · next h10 =>
      have : v < limit + 10 := by omega
      simp [h, this]

/-- The event ends in PARK_WATCH with the park timer, or in SLEEP (R178, R180). -/
theorem powerOff_parked (hp : (turnedOff v s).active.tuning.parkWatch = true) (hl : (turnedOff v s).power.low = false) :
    powerOff v s = (turnedOff v s).updPower fun p => { p with park := parkTimer (turnedOff v s) } := by
  rw [powerOff_eq, if_pos (by simp [hp, hl])]

theorem powerOff_asleep (h : (turnedOff v s).active.tuning.parkWatch = false ∨ (turnedOff v s).power.low = true) :
    powerOff v s = enterSleep (lockedIfLow (turnedOff v s)) := by
  rw [powerOff_eq, if_neg (by rcases h with h | h <;> simp [h])]
  rfl

/-- The lockout touches neither the senses nor the flag. -/
theorem lockedIfLow_keeps (s : State) : (lockedIfLow s).power.linkPower = s.power.linkPower ∧
    (lockedIfLow s).power.voltage = s.power.voltage ∧ (lockedIfLow s).power.settle = s.power.settle ∧
    (lockedIfLow s).power.low = s.power.low ∧
    (s.power.low = true → (lockedIfLow s).power.lockout = true ∧ (lockedIfLow s).power.sample = none) := by
  unfold lockedIfLow
  split
  · exact ⟨rfl, rfl, rfl, rfl, fun _ => ⟨rfl, rfl⟩⟩
  · next h => exact ⟨rfl, rfl, rfl, rfl, fun hl => absurd hl h⟩

/-- The first state after the event, from the part with every block at rest: SLEEP (R178, R180). -/
theorem asleep_power (s : State) : (enterSleep (lockedIfLow s)).power.linkPower = s.power.linkPower ∧
    (enterSleep (lockedIfLow s)).power.voltage = s.power.voltage ∧
    (enterSleep (lockedIfLow s)).power.settle = s.power.settle ∧ (enterSleep (lockedIfLow s)).power.low = s.power.low ∧
    (s.power.low = true → (enterSleep (lockedIfLow s)).power.lockout = true ∧
      (enterSleep (lockedIfLow s)).power.wake = none ∧ (enterSleep (lockedIfLow s)).power.sample = none) := by
  obtain ⟨hlink, hvoltage, hsettle, hlow, hlocked⟩ := lockedIfLow_keeps s
  rw [enterSleep_power]
  refine ⟨hlink, hvoltage, hsettle, hlow, fun h => ?_⟩
  obtain ⟨hlock, hsample⟩ := hlocked h
  exact ⟨hlock, if_pos hlock, hsample⟩

/-- The discard counts and port A's last-reception time are kept (R20). -/
theorem PoweredOff.counts (h : PoweredOff s t) : t.portA.discards = s.portA.discards ∧
    t.portB.discards = s.portB.discards ∧ t.portA.lastReception = s.portA.lastReception := by
  rw [h.portA, h.portB]
  exact ⟨rfl, rfl, rfl⟩

theorem PoweredOff.asleep (h : PoweredOff s t) (hu : t.unapplied = none) :
    PoweredOff s (enterSleep (lockedIfLow t)) := by
  have g := same_lockedIfLow t
  have hswap : (lockedIfLow t).unapplied = none := (g.at .unapplied (by decide)).trans hu
  have htyre : (lockedIfLow t).tyre = t.tyre := g.at .tyre (by decide)
  refine h.frame (g.comp (same_enterSleep _ hswap) (by decide) (by decide)) ?_
  unfold enterSleep
  rw [tyreSleep_learn, applyHeld_none _ hswap, updPower_tyre, htyre]
  exact h.rests.learn

/-- Settles O57: the blocks come to rest, and the battery and the image choose between PARK_WATCH and SLEEP. -/
theorem linkPowerOffLeavesRun : Obligations.LinkPowerOffLeavesRun := by
  unfold Obligations.LinkPowerOffLeavesRun
  intro s v
  refine ⟨fun hout => ?_, fun hrun hu hv => ?_⟩
  · have hin : s.inRun = false := decide_eq_false hout
    exact ⟨unpowered s, congrArg Host.Outcome.next (if_neg (by simp [hin])), rfl, same_updPower _ s⟩
  have hin : s.inRun = true := decide_eq_true hrun
  have hk := poweredOff_turnedOff hin v
  have hp := turnedOff_power hin v
  generalize hkk : turnedOff v s = k at hk hp
  have hlow : k.power.low = true ↔ v < s.active.tuning.batteryLimit ∨
      (s.power.low = true ∧ v < s.active.tuning.batteryLimit + 10) := by
    rw [hp, min_eq_right hv]
    exact nextLow_iff _ _ _
  have hvoltage : k.power.voltage = v := by
    rw [hp]
    exact min_eq_right hv
  have hactive : k.active = s.active := hk.same.at .active (by decide)
  have hexec : exec (.linkPowerOff v) s = .next (powerOff v s) := congrArg Host.Outcome.next (if_pos hin)
  by_cases hc : k.active.tuning.parkWatch = false ∨ k.power.low = true
  · obtain ⟨hlink', hvoltage', hsettle', hlow', hlocked⟩ := asleep_power k
    have ht := hk.asleep ((hk.same.at .unapplied (by decide) : k.unapplied = s.unapplied).trans hu)
    obtain ⟨hdiscardsA, hdiscardsB, hreception⟩ := ht.counts
    have hpark : s.active.tuning.parkWatch = true → (enterSleep (lockedIfLow k)).power.low = false → False := by
      intro hw hl
      rw [hlow'] at hl
      rcases hc with h | h
      · rw [hactive, hw] at h
        exact absurd h (by decide)
      · rw [hl] at h
        exact absurd h (by decide)
    rw [powerOff_asleep (hkk ▸ hc), hkk] at hexec
    refine ⟨_, hexec, ht.rests, ?_, hvoltage'.trans hvoltage, ?_, ht.wheel, ht.mode, ht.emergency, ht.bags,
      by rw [hlow']; exact hlow, fun hw hl => (hpark hw hl).elim, fun _ => slept_enterSleep _, fun hl => hlocked (hlow' ▸ hl),
      hdiscardsA,
      hdiscardsB, hreception, ht.good, ht.fail, ht.gaps, ht.same⟩
    · rw [hlink', hp]
    · rw [hsettle', hp]
  · have hw : k.active.tuning.parkWatch = true := by simpa using fun h => hc (.inl h)
    have hl : k.power.low = false := by simpa using fun h => hc (.inr h)
    have ht : PoweredOff s (k.updPower fun p => { p with park := parkTimer k }) :=
      hk.frame ((same_updPower _ _).mono (by decide)) hk.rests.learn
    obtain ⟨hdiscardsA, hdiscardsB, hreception⟩ := ht.counts
    rw [powerOff_parked (hkk ▸ hw) (hkk ▸ hl), hkk] at hexec
    refine ⟨_, hexec, ht.rests, ?_, hvoltage, ?_, ht.wheel, ht.mode, ht.emergency, ht.bags, hlow, fun _ _ => ⟨?_, ?_, ?_⟩,
      fun h => ?_, fun h => absurd (hl.symm.trans h) (by decide), hdiscardsA, hdiscardsB,
      hreception, ht.good, ht.fail, ht.gaps, ht.same⟩
    · rw [updPower_power, hp]
    · rw [updPower_power, hp]
    · rw [updPower_power, hp]
    · rw [updPower_power, hp]
    · rw [updPower_power, ← hactive]
      rfl
    · rcases h with h | h
      · rw [← hactive, hw] at h
        exact absurd h (by decide)
      · exact absurd (hl.symm.trans h) (by decide)

end Sys2Proof.Machine
end

section
/-! PROOFS. The entries and the lookup of the classifier (O20, O21), and the frame that slot 0 hands to the management unit
(O18). -/

namespace Sys2Proof.Machine

/-! ### Entries (R25, R26) -/

/-- A full mask of four bits accepts no key that differs in one of them (R25). -/
theorem mod_sixteen_eq_of_pairMatch {key value : Byte} (h : pairMatch key value 15#8 = true) :
    key.toNat % 2 ^ 4 = value.toNat % 2 ^ 4 := by
  have hbits := (pairMatch_iff_ternary _ _ _).mp h
  refine Nat.eq_of_testBit_eq fun i => ?_
  rw [Nat.testBit_mod_two_pow, Nat.testBit_mod_two_pow]
  by_cases hi : i < 4
  · have hmask : ∀ i < 4, (15#8).getLsbD i = true := by decide
    exact congrArg _ (hbits i (by omega) (hmask i hi))
  · simp [hi]

/-- A data length is at most 8, so under a full mask no pair with a value above 8 accepts it (R25). -/
theorem pairMatch_length_above_eight {l v : Byte} (hl : l.toNat ≤ 8)
    (hv : v ∈ [9#8, 10#8, 11#8, 12#8, 13#8, 14#8, 15#8]) : pairMatch l v 15#8 = false := by
  have hrange : ∀ v ∈ [9#8, 10#8, 11#8, 12#8, 13#8, 14#8, 15#8], 9 ≤ v.toNat ∧ v.toNat ≤ 15 := by simp
  obtain ⟨hlow, hhigh⟩ := hrange v hv
  refine Bool.eq_false_iff.mpr fun h => ?_
  have hmod := mod_sixteen_eq_of_pairMatch h
  omega

/-- The seven pairs of every entry (R25). -/
theorem headMatch_iff (b : List Byte) (k : Key) : headMatch b k = true ↔
    Ternary k.pass (byteAt b 1) (byteAt b 2) ∧ Ternary k.group (byteAt b 3) (byteAt b 4) ∧
    Ternary k.port (byteAt b 5) (byteAt b 6) ∧ Ternary k.cls (byteAt b 7) (byteAt b 8) ∧
    Ternary k.relation (byteAt b 9) (byteAt b 10) ∧ Ternary k.band (byteAt b 11) (byteAt b 12) ∧
    Ternary k.range (byteAt b 13) (byteAt b 14) := by
  simp only [headMatch, Bool.and_eq_true, pairMatch_iff_ternary, and_assoc]

/-- The word0 pair: without a word0 it accepts under a mask of 0 alone (R25). -/
theorem word0Match_iff (w : Option (BitVec 16)) (value mask : BitVec 16) : word0Match w value mask = true ↔
    (w = none → mask = 0) ∧ ∀ x, w = some x → Ternary x value mask := by
  cases w with
  | none => simp [word0Match]
  | some x => simp [word0Match, pairMatch_iff_ternary]

/-- The two pairs of a WIDE entry's tail (R26). -/
theorem tailMatch_iff (c : List Byte) (k : Key) : tailMatch c k = true ↔
    Ternary k.length (byteAt c 1) (byteAt c 2) ∧ (k.word0 = none → BitVec.ofNat 16 (beAt c 5 2) = 0) ∧
    ∀ w, k.word0 = some w → Ternary w (BitVec.ofNat 16 (beAt c 3 2)) (BitVec.ofNat 16 (beAt c 5 2)) := by
  simp only [tailMatch, Bool.and_eq_true, pairMatch_iff_ternary, word0Match_iff]

/-- The four conditions on an entry: valid, no tail, its head's pairs, and its tail's pairs when it is WIDE. -/
theorem entryMatches_iff (img : Image) (k : Key) (n : Nat) : entryMatches img k n = true ↔
    slotValid (img.slot n) = true ∧ img.isTail n = false ∧ headMatch (img.slot n) k = true ∧
    (slotWide (img.slot n) = true → tailMatch (img.slot (n + 1)) k = true) := by
  simp only [entryMatches, Bool.and_eq_true, Bool.or_eq_true, Bool.not_eq_true', imp_iff_not_or, Bool.not_eq_true,
    and_assoc]

/-- Settles O20: the entry's conditions, each pair read as a ternary pair. -/
theorem entryMatchesByTernaryPairs : Obligations.EntryMatchesByTernaryPairs := by
  unfold Obligations.EntryMatchesByTernaryPairs
  intro img k n b c
  refine ⟨fun v hv hl => pairMatch_length_above_eight hl hv, ?_⟩
  rw [entryMatches_iff, headMatch_iff, tailMatch_iff]
  simp only [and_assoc]
  exact Iff.rfl

/-! ### The winner and the next group (R30, R31) -/

/-- The winner of a pass is the matching entry at the lowest slot (R30). -/
theorem winner_eq_some_iff (img : Image) (k : Key) (n : Nat) : winner img k = some n ↔
    n < 64 ∧ entryMatches img k n = true ∧ ∀ m < n, entryMatches img k m = false := by
  unfold winner
  rw [List.find?_range_eq_some, List.mem_range]
  simp only [Bool.not_eq_true', and_left_comm]

/-- Byte 19 names the next group, and none above 15 (section 11.2). -/
theorem slotAction_next_iff (b : List Byte) (g : Nat) :
    (slotAction b).next = some g ↔ (byteAt b 19).toNat = g ∧ g ≤ 15 := by
  have hnext : (slotAction b).next = if (byteAt b 19).toNat ≤ 15 then some (byteAt b 19).toNat else none := by
    rw [← beAt_one]
    rfl
  rw [hnext]
  split
  · next h => exact ⟨fun e => ⟨Option.some.inj e, Option.some.inj e ▸ h⟩, fun e => congrArg some e.1⟩
  · next h => exact ⟨nofun, fun e => absurd (e.1 ▸ e.2) h⟩

/-! ### The lookup, pass by pass (R30 to R32) -/

/-- An action refined by itself is itself, but for the next group, which no assembled action has (R32). -/
theorem refine_self {a : Action} (h : a.next = none) : refine a a = a := by
  cases a
  subst h
  simp only [refine, ite_self]

/-- The fields of the second winner that are not KEEP replace those of the first (R32). -/
theorem refine_fields (a b : Action) :
    (refine a b).disposition = (if b.disposition ≠ .keep then b.disposition else a.disposition) ∧
    (refine a b).consumer = (if b.consumer ≠ .keep then b.consumer else a.consumer) ∧
    (refine a b).rewrite = (if b.rewrite ≠ .keep then b.rewrite else a.rewrite) ∧
    (refine a b).queue = (if b.queue ≠ .keep then b.queue else a.queue) := by
  simp only [refine, ne_eq, ite_not, and_self]

section
variable {img : Image} {k : Key} {n m g : Nat} (p : Port)

/-- A miss at pass 1 takes the port's miss action (R30). -/
theorem lookup_of_miss (h : winner img k = none) :
    lookup img p k = (missAction (img.port p), []) := by
  unfold lookup resolve
  rw [h, refine_self rfl]

/-- A winner without a next group ends the lookup at pass 1 (R31). -/
theorem lookup_of_one_pass (h : winner img k = some n) (hnext : (slotAction (img.slot n)).next = none) :
    lookup img p k = (resolve (img.port p) (slotAction (img.slot n)), [n]) := by
  simp only [lookup, h, hnext]

/-- A miss at pass 2 leaves the first winner's action (R32). -/
theorem lookup_of_second_miss (h : winner img k = some n) (hnext : (slotAction (img.slot n)).next = some g)
    (hsecond : winner img (k.second g) = none) :
    lookup img p k = (resolve (img.port p) (slotAction (img.slot n)), [n]) := by
  simp only [lookup, h, hnext, hsecond]

/-- The second winner refines the first winner's action (R31, R32). -/
theorem lookup_of_two_passes (h : winner img k = some n) (hnext : (slotAction (img.slot n)).next = some g)
    (hsecond : winner img (k.second g) = some m) :
    lookup img p k =
      (resolve (img.port p) (refine (slotAction (img.slot n)) (slotAction (img.slot m))), [n, m]) := by
  simp only [lookup, h, hnext, hsecond]

end

/-- Every lookup ends in an action whose KEEP fields take the port's miss values (R32). -/
theorem lookup_resolves (img : Image) (p : Port) (k : Key) : ∃ a, (lookup img p k).1 = resolve (img.port p) a := by
  cases h : winner img k with
  | none => exact ⟨_, (congrArg Prod.fst (lookup_of_miss p h)).trans (refine_self rfl).symm⟩
  | some n =>
    cases hnext : (slotAction (img.slot n)).next with
    | none => exact ⟨_, congrArg Prod.fst (lookup_of_one_pass p h hnext)⟩
    | some g =>
      cases hsecond : winner img (k.second g) with
      | none => exact ⟨_, congrArg Prod.fst (lookup_of_second_miss p h hnext hsecond)⟩
      | some m => exact ⟨_, congrArg Prod.fst (lookup_of_two_passes p h hnext hsecond)⟩

/-- A field that is not KEEP, or takes a value that is not, is not KEEP. -/
theorem refined_ne_keep {α : Type} [DecidableEq α] {keep x miss : α} (h : miss ≠ keep) :
    (if x = keep then miss else x) ≠ keep := by
  split
  · exact h
  · assumption

/-- A port whose miss values are no KEEP leaves none in an action (R29, R32). -/
theorem resolve_ne_keep {r : PortRec} (hd : r.missDisp = 0 ∨ r.missDisp = 3) (hq : r.missQueue = 0 ∨ r.missQueue = 1)
    (a : Action) : (resolve r a).disposition ≠ .keep ∧ (resolve r a).consumer ≠ .keep ∧ (resolve r a).rewrite ≠ .keep ∧
      (resolve r a).queue ≠ .keep := by
  have hdisp : Disposition.ofCode r.missDisp ≠ .keep := by rcases hd with h | h <;> rw [h] <;> decide
  have hqueue : QueueField.ofCode r.missQueue ≠ .keep := by rcases hq with h | h <;> rw [h] <;> decide
  have hcons : Consumer.none ≠ .keep := by decide
  have hrew : Rewrite.none ≠ .keep := by decide
  exact ⟨refined_ne_keep hdisp, refined_ne_keep hcons, refined_ne_keep hrew, refined_ne_keep hqueue⟩

/-- The fields of a lookup that ends in an action: those still KEEP take the port's miss values, NONE and NONE (R32). -/
theorem fields_of_resolve {l : Action × List Nat} {r : PortRec} {a : Action} {wins : List Nat}
    (h : l = (resolve r a, wins)) : l.2 = wins ∧
      l.1.disposition = (if a.disposition = .keep then .ofCode r.missDisp else a.disposition) ∧
      l.1.consumer = (if a.consumer = .keep then .none else a.consumer) ∧
      l.1.rewrite = (if a.rewrite = .keep then .none else a.rewrite) ∧
      l.1.queue = (if a.queue = .keep then .ofCode r.missQueue else a.queue) := by
  subst h
  exact ⟨rfl, rfl, rfl, rfl, rfl⟩

/-- Settles O21: the four ways a lookup can end, each by its own equation. -/
theorem lookupTakesTheLowestSlot : Obligations.LookupTakesTheLowestSlot := by
  unfold Obligations.LookupTakesTheLowestSlot
  intro img p k l result
  refine ⟨winner_eq_some_iff img k, slotAction_next_iff, fun h => ?miss, fun n h hnext => ?onePass,
    fun n g h hnext => ⟨fun hsecond => ?secondMiss, fun m hsecond => ?twoPasses⟩, fun hd hq => ?noKeep⟩
  case miss =>
    have hl : l = (missAction (img.port p), []) := lookup_of_miss p h
    simp only [result, hl, missAction, if_true, and_self]
  case onePass => exact fields_of_resolve (lookup_of_one_pass p h hnext)
  case secondMiss => exact fields_of_resolve (lookup_of_second_miss p h hnext hsecond)
  case twoPasses =>
    have hfields := fields_of_resolve (lookup_of_two_passes p h hnext hsecond)
    obtain ⟨hdisp, hcons, hrew, hqueue⟩ := refine_fields (slotAction (img.slot n)) (slotAction (img.slot m))
    rw [hdisp, hcons, hrew, hqueue] at hfields
    exact hfields
  case noKeep =>
    obtain ⟨a, ha⟩ : ∃ a, l.1 = resolve (img.port p) a := lookup_resolves img p k
    rw [ha]
    obtain ⟨hdisp, hcons, hrew, hqueue⟩ := resolve_ne_keep hd hq a
    exact ⟨hdisp, hcons, hrew, hqueue, rfl⟩

/-! ### A MGMT_REQ to own position (R27, R36, R161) -/

/-- Slot 0 of every image takes a pass-1 MGMT_REQ to own position (R27). -/
theorem winner_mgmtReq (img : Image) {k : Key} (hpass : k.pass = 0) (hcls : k.cls = 0x10) (hrel : k.relation = 1) :
    winner img k = some 0 := by
  have hhead : headMatch (img.slot 0) k = true := by
    have hz : ∀ x : Byte, pairMatch x 0#8 0#8 = true := fun x => pairMatch_mask_zero x 0
    show (pairMatch k.pass 0#8 1#8 && pairMatch k.group 0#8 0#8 && pairMatch k.port 0#8 0#8 &&
      pairMatch k.cls 16#8 31#8 && pairMatch k.relation 1#8 7#8 && pairMatch k.band 0#8 0#8 &&
      pairMatch k.range 0#8 0#8) = true
    rw [hpass, hcls, hrel, hz, hz, hz, hz]
    rfl
  have hvalid : slotValid (img.slot 0) = true := by
    show (1#8).getLsbD 0 = true
    decide
  have hnarrow : slotWide (img.slot 0) = false := by
    show (1#8).getLsbD 1 = false
    decide
  have hmatch : entryMatches img k 0 = true :=
    (entryMatches_iff img k 0).mpr ⟨hvalid, rfl, hhead, fun hw => absurd (hnarrow.symm.trans hw) (by decide)⟩
  exact (winner_eq_some_iff img k 0).mpr ⟨by decide, hmatch, fun m hm => absurd hm m.not_lt_zero⟩

/-- The assembled action of slot 0: the MANAGEMENT consumer takes the frame (R27). -/
theorem lookup_mgmtReq (img : Image) {k : Key} (hpass : k.pass = 0) (hcls : k.cls = 0x10) (hrel : k.relation = 1)
    (p : Port) : (lookup img p k).1.disposition = .consume ∧ (lookup img p k).1.consumer = .management ∧
      (lookup img p k).2 = [0] := by
  rw [lookup_of_one_pass p (winner_mgmtReq img hpass hcls hrel) rfl]
  exact ⟨rfl, rfl, rfl⟩

/-- The key of a frame to own position has the relation SELF (R22). -/
theorem buildKey_relation_self {s : State} {f : Frame} (hown : s.relay.own = some f.target.toNat) (ht : f.target ≠ 7)
    (p : Port) : (buildKey s p f).relation = 1 := by
  show BitVec.ofNat 8 (relationCode s.relay.own f.target.toNat) = 1
  rw [hown, relationCode_placed (target_ne_seven ht), if_pos rfl]
  rfl

/-- The MANAGEMENT consumer takes a MGMT_REQ of at least two bytes as the request they spell (R36, R161). -/
theorem handOff_mgmtReq {f : Frame} (hcls : f.cls = 0x10) {code tag : Byte} {args : List Byte}
    (hdata : f.data = code :: tag :: args) (p : Port) (s : State) :
    handOff p f .management s = takeRequest code { port := p, origin := f.origin, tag := tag, args := args } s := by
  have htake : handOff p f .management s = consumeRequest p f s := if_pos hcls
  rw [htake]
  unfold consumeRequest
  rw [hdata]

/-- Settles O18: slot 0 hands the frame to the MANAGEMENT consumer under every image, and its code names the command. -/
theorem managementFrameIsItsRequest : Obligations.ManagementFrameIsItsRequest := by
  unfold Obligations.ManagementFrameIsItsRequest
  intro s p f o code tag args hrun hcls hdata hargs hown ht
  have hlength : f.data.length ≤ 8 := by
    rw [hdata]
    exact Nat.add_le_add_right hargs 2
  have hkcls : (buildKey s p f).cls = 0x10 := by
    show BitVec.ofNat 8 f.cls.toNat = 0x10
    rw [hcls]
    rfl
  obtain ⟨hdisp, hcons, hwins⟩ := lookup_mgmtReq s.active rfl hkcls (buildKey_relation_self hown ht p) p
  have hlooked : looked p f s = countHits [0] (received p f s) := by
    unfold looked
    rw [hwins]
  rw [frameReceived_of_run hrun hlength, applyAction_consume hdisp, hcons, hlooked, handOff_mgmtReq hcls hdata,
    takeRequest_exec]

end Sys2Proof.Machine
end

section
/-! PROOFS. What the channels follow (R57, R71, R76, R104, R108, R110): a recomposition makes every existing channel follow its
inputs, and whatever changes no input keeps it so. -/

namespace Sys2Proof.Machine

variable {s t u : State} {L : List Part}

/-! ### Channels read back -/

theorem mem_channelNumbers {c : Nat} : c ∈ channelNumbers ↔ 1 ≤ c ∧ c ≤ 6 := by
  simp only [channelNumbers, List.mem_cons, List.not_mem_nil, or_false]
  omega

theorem channel_congr (h : t.channels = s.channels) (c : Nat) : t.channel c = s.channel c := by
  unfold State.channel
  rw [h]

@[simp] theorem mapChannels_length (f : Nat → Channel → Channel) (s : State) :
    (s.mapChannels f).channels.length = s.channels.length := List.length_mapIdx

@[simp] theorem recompose_length (s : State) : (recompose s).channels.length = s.channels.length := List.length_mapIdx

/-- One of six channels after every channel is rewritten. -/
theorem mapChannels_channel_of_six (h : s.channels.length = 6) (f : Nat → Channel → Channel) {c : Nat}
    (hc : c ∈ channelNumbers) : (s.mapChannels f).channel c = f c (s.channel c) := by
  obtain ⟨h1, h6⟩ := mem_channelNumbers.mp hc
  exact mapChannels_channel s f h1 (h ▸ h6)

/-- A rewriting that leaves Channel.start as it is reads back so for every number, those of no channel among them. -/
theorem mapChannels_read {α : Type} (g : Channel → α) (f : Nat → Channel → Channel) (hf : ∀ c ch, g (f c ch) = g ch)
    (s : State) (c : Nat) : g ((s.mapChannels f).channel c) = g (s.channel c) := by
  unfold State.channel State.mapChannels
  rw [List.getD_eq_getElem?_getD, List.getD_eq_getElem?_getD, List.getElem?_mapIdx]
  cases s.channels[c - 1]? with
  | none => rfl
  | some ch => exact hf _ ch

theorem recompose_channel_of_six (h : s.channels.length = 6) {c : Nat} (hc : c ∈ channelNumbers) :
    (recompose s).channel c = channelNow (s.updLoad fun _ => loadNow s) c (s.channel c) :=
  mapChannels_channel_of_six (s := s.updLoad fun _ => loadNow s) h _ hc

/-! ### A recomposition -/

@[simp] theorem toFollow_slipState (ch : Channel) : ch.toFollow.slipState = .follow := rfl

/-- The channel that a recomposition has made, before its commands: its values, its target, and the return to FOLLOW. -/
def channelTargeted (s : State) (c : Nat) (ch : Channel) : Channel :=
  let v := { ch with target := targetOf s c ch }
  if targetOf s c ch = 0 || passesThrough s c then v.toFollow else v

theorem channelCommands_eq (s : State) (c : Nat) (ch : Channel) :
    channelCommands s c ch =
      { channelTargeted s c ch with
        requested := requestedOf s (channelTargeted s c ch)
        command := recordOf s c (requestedOf s (channelTargeted s c ch)) } := rfl

theorem channelTargeted_target (s : State) (c : Nat) (ch : Channel) :
    (channelTargeted s c ch).target = targetOf s c ch := by
  unfold channelTargeted
  dsimp only
  split <;> rfl

theorem targetOf_channelTargeted (s : State) (c : Nat) (ch : Channel) :
    targetOf s c (channelTargeted s c ch) = targetOf s c ch := by
  unfold channelTargeted
  dsimp only
  split <;> rfl

theorem channelTargeted_follow {c : Nat} {ch : Channel} (h : targetOf s c ch = 0 ∨ passesThrough s c = true) :
    (channelTargeted s c ch).slipState = .follow := by
  unfold channelTargeted
  dsimp only
  rw [if_pos (by simpa using h)]
  rfl

theorem passesThrough_iff (s : State) (c : Nat) : passesThrough s c = true ↔
    s.composer.mode = .fallback ∨ (channelNode s c).degraded = true ∨ s.chain.health ≠ .running := by
  simp [passesThrough, forced, chainRunning]

theorem forced_iff (s : State) (c : Nat) : forced s c = true ↔
    (channelNode s c).degraded = true ∨ s.chain.health ≠ .running := by
  simp [forced, chainRunning]

theorem recordOf_of_forced {c : Nat} (h : forced s c = true) (req : Command) : recordOf s c req = .pass := if_pos h

theorem recordOf_of_free {c : Nat} (h : forced s c = false) (req : Command) :
    recordOf s c req = req.limited (pMaxOf s c) := by
  unfold recordOf Command.limited
  rw [if_neg (by simp [h])]
  cases req.mode with
  | passThrough => rfl
  | control => simp [Nat.min_comm]

/-- The inputs of a channel besides its own items agree in two states. -/
structure SameInputs (s t : State) : Prop where
  mode      : t.composer.mode = s.composer.mode
  emergency : t.composer.emergency = s.composer.emergency
  health    : t.chain.health = s.chain.health
  live      : ∀ c, channelExists t c = channelExists s c
  node      : ∀ c, channelNode t c = channelNode s c
  pMax      : ∀ c, pMaxOf t c = pMaxOf s c
  swap      : t.unapplied = s.unapplied

theorem SameInputs.of_eq (hcomposer : t.composer = s.composer) (hchain : t.chain = s.chain) (hactive : t.active = s.active)
    (hswap : t.unapplied = s.unapplied) : SameInputs s t := by
  have hu : inUse t = inUse s := inUse_congr hactive hchain
  refine ⟨by rw [hcomposer], by rw [hcomposer], by rw [hchain], fun c => ?_, fun c => ?_, fun c => ?_, hswap⟩
  · show within 1 (inUse t).groups _ = within 1 (inUse s).groups _
    rw [hu]
  · unfold channelNode State.node modPosition
    rw [hu, hchain]
  · unfold pMaxOf
    rw [hactive]

/-- A channel's commands follow, under inputs that agree with those they were made of. -/
theorem channelFollows_of_commands {c : Nat} {ch : Channel} (i : SameInputs s t)
    (h : t.channel c = channelCommands s c ch) : ChannelFollows t c := by
  rw [channelCommands_eq] at h
  have htarget : (t.channel c).target = targetOf s c ch := by rw [h]; exact channelTargeted_target s c ch
  have hslip : (t.channel c).slipState = (channelTargeted s c ch).slipState := by rw [h]
  have hrequested : (t.channel c).requested = requestedOf s (channelTargeted s c ch) := by rw [h]
  have hcommand : (t.channel c).command = recordOf s c (requestedOf s (channelTargeted s c ch)) := by rw [h]
  have hpass : (t.composer.mode = .fallback ∨ (channelNode t c).degraded = true ∨ t.chain.health ≠ .running) →
      passesThrough s c = true := by
    rw [i.mode, i.node, i.health]
    exact (passesThrough_iff s c).mpr
  have hforced : (channelNode t c).degraded = true ∨ t.chain.health ≠ .running → (t.channel c).command = .pass := by
    rw [i.node, i.health, hcommand]
    exact fun hf => recordOf_of_forced ((forced_iff s c).mpr hf) _
  constructor
  case target =>
    have hsame : targetOf t c (t.channel c) = targetOf s c (channelTargeted s c ch) := by
      unfold targetOf
      rw [i.emergency, i.pMax, h]
      rfl
    rw [htarget, hsame, targetOf_channelTargeted]
  case released =>
    rw [htarget, hslip]
    exact fun h0 => channelTargeted_follow (.inl h0)
  case passing =>
    rw [hslip]
    exact fun hp => channelTargeted_follow (.inr (hpass hp))
  case fallback =>
    rw [i.mode, hrequested]
    exact fun hm => if_pos hm
  case control =>
    have hpressure : commandPressure (t.channel c) = commandPressure (channelTargeted s c ch) := by
      unfold commandPressure
      rw [h]
    rw [i.mode, hrequested, hpressure]
    exact fun hm => if_neg hm
  case degraded => exact fun hd => hforced (.inl hd)
  case stopped => exact fun hs => hforced (.inr hs)
  case follows =>
    rw [i.node, i.health, i.pMax, hcommand, hrequested]
    intro hd hr
    exact recordOf_of_free (by simp [forced, chainRunning, hd, hr]) _

/-- The inputs of the channels are the same before and after a recomposition. -/
theorem sameInputs_recompose (s : State) : SameInputs (s.updLoad fun _ => loadNow s) (recompose s) :=
  .of_eq rfl rfl rfl rfl

/-- Every channel follows its inputs after a recomposition (R57, R71, R76, R104, R108, R110). -/
theorem channelsFollow_recompose (h : s.channels.length = 6) : ChannelsFollow (recompose s) where
  six := (recompose_length s).trans h
  follows _ c hc he := by
    have hlive : channelExists (s.updLoad fun _ => loadNow s) c = true := he
    have hch := recompose_channel_of_six h hc
    unfold channelNow at hch
    rw [if_pos hlive] at hch
    exact channelFollows_of_commands (sameInputs_recompose s) hch
  absent _ c hc he := by
    have hdead : channelExists (s.updLoad fun _ => loadNow s) c = false := he
    rw [recompose_channel_of_six h hc]
    exact if_neg (by simp [hdead])

/-! ### What changes no input -/

/-- A channel's items but the ones that its commands do not read and are not: its test timer and the mode last carried. -/
def Channel.sameCommands (a b : Channel) : Prop := ∃ timer carried, b = { a with testTimer := timer, carried := carried }

theorem Channel.sameCommands_refl (a : Channel) : a.sameCommands a := ⟨a.testTimer, a.carried, rfl⟩

theorem ChannelFollows.of_inputs {c : Nat} (h : ChannelFollows s c) (i : SameInputs s t)
    (hc : (s.channel c).sameCommands (t.channel c)) : ChannelFollows t c := by
  obtain ⟨timer, carried, hc⟩ := hc
  have htarget : targetOf t c (t.channel c) = targetOf s c (s.channel c) := by
    unfold targetOf
    rw [i.emergency, i.pMax, hc]
    rfl
  have hpressure : commandPressure (t.channel c) = commandPressure (s.channel c) := by
    unfold commandPressure
    rw [hc]
  constructor
  case target => rw [htarget, hc]; exact h.target
  case released => rw [hc]; exact h.released
  case passing => rw [i.mode, i.node, i.health, hc]; exact h.passing
  case fallback => rw [i.mode, hc]; exact h.fallback
  case control => rw [i.mode, hpressure, hc]; exact h.control
  case degraded => rw [i.node, hc]; exact h.degraded
  case stopped => rw [i.health, hc]; exact h.stopped
  case follows => rw [i.node, i.health, i.pMax, hc]; exact h.follows

/-- What leaves the inputs alone, and of the channels all but test timers and carried modes, keeps them following. -/
theorem ChannelsFollow.of_inputs (h : ChannelsFollow s) (i : SameInputs s t) (six : t.channels.length = s.channels.length)
    (live : ∀ c ∈ channelNumbers, channelExists s c = true → (s.channel c).sameCommands (t.channel c))
    (dead : ∀ c ∈ channelNumbers, channelExists s c = false → s.channel c = Channel.start → t.channel c = Channel.start) :
    ChannelsFollow t where
  six := six.trans h.six
  follows hu c hc he :=
    have he : channelExists s c = true := (i.live c).symm.trans he
    (h.follows (i.swap ▸ hu) c hc he).of_inputs i (live c hc he)
  absent hu c hc he :=
    have he : channelExists s c = false := (i.live c).symm.trans he
    dead c hc he (h.absent (i.swap ▸ hu) c hc he)

theorem ChannelsFollow.of_channels (h : ChannelsFollow s) (i : SameInputs s t) (e : t.channels = s.channels) :
    ChannelsFollow t := by
  refine h.of_inputs i (by rw [e]) (fun c _ _ => ?_) (fun c _ _ => ?_)
  · rw [channel_congr e]
    exact Channel.sameCommands_refl _
  · rw [channel_congr e]
    exact id

/-- The parts that the channels' condition speaks of. -/
def commandParts : List Part := [.active, .chain, .channels, .composer, .unapplied]

/-- A change within other parts keeps the channels following. -/
theorem ChannelsFollow.frame (h : ChannelsFollow s) (g : SameBut L s t) (d : ∀ p ∈ commandParts, p ∉ L) :
    ChannelsFollow t :=
  h.of_channels
    (.of_eq (g.at .composer (d _ (by decide))) (g.at .chain (d _ (by decide))) (g.at .active (d _ (by decide)))
      (g.at .unapplied (d _ (by decide))))
    (g.at .channels (d _ (by decide)))

/-- The number of channels outside a frame's parts. -/
theorem six_of_same (h : s.channels.length = 6) (g : SameBut L s t) (d : Part.channels ∉ L) : t.channels.length = 6 := by
  rw [g.at .channels d]
  exact h

theorem elapse_channel (r : Nat) (s : State) (c : Nat) :
    (elapse r s).channel c = { s.channel c with testTimer := runDown r (s.channel c).testTimer } := by
  show (s.channels.map fun ch => { ch with testTimer := runDown r ch.testTimer }).getD (c - 1) .start = _
  rw [List.getD_eq_getElem?_getD, List.getElem?_map]
  unfold State.channel
  rw [List.getD_eq_getElem?_getD]
  cases s.channels[c - 1]? <;> rfl

theorem channelsFollow_elapse (h : ChannelsFollow s) (r : Nat) : ChannelsFollow (elapse r s) := by
  refine h.of_inputs ⟨rfl, rfl, rfl, fun _ => rfl, fun _ => rfl, fun _ => rfl, rfl⟩ (List.length_map _) (fun c _ _ => ?_)
    (fun c _ _ hs => ?_)
  · exact ⟨_, (s.channel c).carried, elapse_channel r s c⟩
  · rw [elapse_channel, hs]
    rfl

end Sys2Proof.Machine
end

section
/-! PROOFS. The blocks' operations keep the channels following: each ends in a recomposition or changes no input of theirs. -/

namespace Sys2Proof.Machine

variable {s t u : State} {L : List Part}

/-! ### Composer and stability -/

/-- A recomposition after a change within parts other than the channels. -/
theorem channelsFollow_recompose_of_same (h : s.channels.length = 6) (g : SameBut L s t) (d : Part.channels ∉ L) :
    ChannelsFollow (recompose t) := channelsFollow_recompose (six_of_same h g d)

theorem channelsFollow_setEmergency (b) (h : ChannelsFollow s) : ChannelsFollow (setEmergency b s) := by
  unfold setEmergency
  split
  · exact h
  · refine channelsFollow_recompose ?_
    split <;> simp [h.six]

theorem channelsFollow_enterOff (h : ChannelsFollow s) : ChannelsFollow (enterOff s) := by
  unfold enterOff
  split
  · exact h
  · exact channelsFollow_recompose (by simp [changeStab, originateStability, dropStabInt, dropStabTest, h.six])

theorem channelsFollow_testOff (h : ChannelsFollow s) : ChannelsFollow (testOff s) := by
  unfold testOff
  split
  · exact channelsFollow_enterOff h
  · exact h

theorem remoded_length (s : State) : (remoded s).channels.length = s.channels.length := by
  have hd := (same_demandLost s.composer.mode (brakeMode s)
    (s.updComposer fun c => { c with effective := effectiveDemand s, mode := brakeMode s })).at .channels (by decide)
  exact (recompose_length _).trans (congrArg List.length hd)

/-- A re-establishment recomposes, whatever stood before. -/
theorem channelsFollow_reestablish (h : s.channels.length = 6) : ChannelsFollow (reestablish s) := by
  have hr : ChannelsFollow (remoded s) := by
    refine channelsFollow_recompose_of_same (L := [.incidents, .composer]) h ?_ (by decide)
    exact (same_updComposer _ s).comp (same_demandLost _ _ _) (by decide) (by decide)
  rw [reestablish_eq]
  split
  · exact hr
  · exact channelsFollow_testOff hr

theorem channelsFollow_acknowledgeTest (side) (h : s.channels.length = 6) : ChannelsFollow (acknowledgeTest side s) :=
  channelsFollow_recompose (by simp [changeStab, originateStability, h])

theorem channelsFollow_abandonTest (h : s.channels.length = 6) : ChannelsFollow (abandonTest s) :=
  channelsFollow_recompose (by simp [changeStab, originateStability, endTestPulse, h])

theorem channelsFollow_intervene (side) (h : s.channels.length = 6) : ChannelsFollow (intervene side s) :=
  channelsFollow_recompose (by simp [changeStab, originateStability, h])

theorem channelsFollow_enterRecover (h : s.channels.length = 6) : ChannelsFollow (enterRecover s) :=
  channelsFollow_recompose (by simp [changeStab, originateStability, dropStabInt, h])

theorem channelsFollow_moveTo (st) (h : ChannelsFollow s) : ChannelsFollow (moveTo st s) :=
  h.frame (same_moveTo st s) (by decide)

theorem channelsFollow_considerTest (ay) (h : ChannelsFollow s) : ChannelsFollow (considerTest ay s) := by
  unfold considerTest offerTest
  dsimp only
  split
  · exact h.frame (same_updStab _ s) (by decide)
  · split
    · split
      · exact channelsFollow_acknowledgeTest _ h.six
      · exact h.frame (same_updStab _ s) (by decide)
    · exact h

theorem endTestPulse_length (s : State) : (endTestPulse s).channels.length = s.channels.length := by
  simp [endTestPulse]

theorem channelsFollow_evaluate (h : ChannelsFollow s) : ChannelsFollow (evaluate s) := by
  unfold evaluate
  dsimp only
  split
  · exact channelsFollow_enterOff h
  · split
    case h_1 => exact channelsFollow_moveTo _ h
    case h_2 =>
      split
      · exact channelsFollow_intervene _ h.six
      · split
        · exact channelsFollow_moveTo _ h
        · exact h
    case h_3 =>
      split
      · exact channelsFollow_intervene _ h.six
      · split
        · exact channelsFollow_moveTo _ h
        · exact channelsFollow_considerTest _ h
    case h_4 =>
      split
      · exact channelsFollow_intervene _ ((endTestPulse_length s).trans h.six)
      · split
        · exact channelsFollow_abandonTest h.six
        · exact h
    case h_5 =>
      split
      · exact h
      · exact channelsFollow_enterRecover h.six
    case h_6 =>
      split
      · exact channelsFollow_intervene _ h.six
      · exact h

theorem channelsFollow_removeDegraded (h : s.channels.length = 6) : ChannelsFollow (removeDegraded s) :=
  channelsFollow_recompose (by simp [h])

theorem channelsFollow_lift (h : s.channels.length = 6) : ChannelsFollow (lift s) :=
  channelsFollow_intervene _ ((endTestPulse_length s).trans h)

theorem channelsFollow_workInState (h : ChannelsFollow s) : ChannelsFollow (workInState s) := by
  unfold workInState
  split
  case h_1 =>
    have hr := channelsFollow_removeDegraded h.six
    unfold workTest
    dsimp only
    split
    · exact channelsFollow_abandonTest hr.six
    · split
      · exact channelsFollow_lift hr.six
      · exact hr
  case h_2 =>
    unfold workWatch
    dsimp only
    split
    · exact h
    · split
      · exact h.frame (same_updStab _ s) (by decide)
      · split
        · exact channelsFollow_acknowledgeTest _ h.six
        · exact h
  all_goals exact h

theorem same_takeThreshold (s : State) : SameBut [.stability] s (takeThreshold s) :=
  (same_updStab _ s).trans (same_updStab _ _)

theorem channelsFollow_stabilityWork (b) (h : ChannelsFollow s) : ChannelsFollow (stabilityWork b s) := by
  have hd : ChannelsFollow (if b then evaluate (takeThreshold s) else testOff s) := by
    split
    · exact channelsFollow_evaluate (h.frame (same_takeThreshold s) (by decide))
    · exact channelsFollow_testOff h
  unfold stabilityWork
  dsimp only
  generalize (if b then evaluate (takeThreshold s) else testOff s) = v at hd
  split
  · exact channelsFollow_workInState hd
  · exact hd

/-- A swap reaches the stability unit: its test channels are rewritten, and no channel more or less. -/
theorem stabilitySwap_length (s : State) : (stabilitySwap s).channels.length = s.channels.length := by
  unfold stabilitySwap testOff enterOff
  dsimp only
  split
  · split
    · simp [rethreshold]
    · simp [rethreshold, changeStab, originateStability, dropStabInt, dropStabTest]
  · simp [rethreshold]

/-! ### Service tests, service mode and motion -/

theorem channelsFollow_endTest (c) (h : ChannelsFollow s) : ChannelsFollow (endTest c s) :=
  channelsFollow_recompose (by simp [State.updChannel, h.six])

theorem channelsFollow_endTests (h : s.channels.length = 6) : ChannelsFollow (endTests s) :=
  channelsFollow_recompose (by simp [h])

theorem channelsFollow_startTest (c p d) (h : ChannelsFollow s) : ChannelsFollow (startTest c p d s) := by
  unfold startTest
  split
  · exact channelsFollow_endTest c h
  · exact channelsFollow_recompose (by simp [State.updChannel, h.six])

theorem channelsFollow_endService (h : ChannelsFollow s) : ChannelsFollow (endService s) := by
  unfold endService
  split
  · exact channelsFollow_endTests h.six
  · exact h

/-! ### Tyres -/

/-- The tyre unit's settling recomposes, whatever stood before. -/
theorem channelsFollow_tyreSettle (h : s.channels.length = 6) : ChannelsFollow (tyreSettle s) :=
  channelsFollow_recompose_of_same h (same_driveLamp s) (by decide)

theorem channelsFollow_acceptTelegram (i fd x) (h : s.channels.length = 6) : ChannelsFollow (acceptTelegram i fd x s) := by
  have hi : ∀ q, SameBut [.incidents, .tyre] s (tyreIncidents i (s.position i) q (s.updPosition i fun _ => q)) := fun q =>
    (same_updPosition _ _ s).comp (same_tyreIncidents _ _ _ _) (by decide) (by decide)
  unfold acceptTelegram
  refine channelsFollow_tyreSettle (six_of_same (L := [.incidents, .portA, .tyre]) h ?_ (by decide))
  refine SameBut.comp (L := [.incidents, .tyre]) ?_ (same_setTyreState _ _ _) (by decide) (by decide)
  split
  · exact (hi _).comp (same_closeIncident _ _ _) (by decide) (by decide)
  · exact hi _

theorem channelsFollow_endLearn (h : ChannelsFollow s) : ChannelsFollow (endLearn s) := by
  unfold endLearn
  split
  · exact h
  · refine channelsFollow_tyreSettle (six_of_same (L := [.tyre, .portA]) h.six ?_ (by decide))
    exact (same_updTyre _ s).comp (same_setTyreState _ _ _) (by decide) (by decide)

theorem channelsFollow_startLearn (i fd) (h : ChannelsFollow s) : ChannelsFollow (startLearn i fd s) := by
  refine channelsFollow_tyreSettle (six_of_same (L := [.tyre, .portA]) h.six ?_ (by decide))
  exact (same_updTyre _ s).comp (same_setTyreState _ _ _) (by decide) (by decide)

theorem channelsFollow_swapPosition (b i) (h : ChannelsFollow s) : ChannelsFollow (swapPosition b i s) := by
  have he : ChannelsFollow (endLearnAt i s) := by
    unfold endLearnAt
    split
    · exact h
    · split
      · exact channelsFollow_endLearn h
      · exact h
  unfold swapPosition
  dsimp only
  split
  · exact he.frame (same_clearAtSwap _ _ _ _) (by decide)
  · split
    · exact h.frame (same_clearAtSwap _ _ _ s) (by decide)
    · split
      · exact h.frame (same_clearAtSwap _ _ _ s) (by decide)
      · exact h.frame (same_reevaluate i s) (by decide)

theorem channelsFollow_foldl {α : Type} {f : State → α → State} (hf : ∀ t a, ChannelsFollow t → ChannelsFollow (f t a))
    (l : List α) (h : ChannelsFollow s) : ChannelsFollow (l.foldl f s) :=
  List.foldlRecOn l f h fun t ht a _ => hf t a ht

theorem channelsFollow_tyreSwap (b) (h : ChannelsFollow s) : ChannelsFollow (tyreSwap b s) :=
  channelsFollow_tyreSettle (channelsFollow_foldl (fun _ i ht => channelsFollow_swapPosition b i ht) _ h).six

/-- A swap that the blocks apply leaves the channels following, whatever stood before. -/
theorem channelsFollow_applySwap (b) (h : s.channels.length = 6) : ChannelsFollow (applySwap b s) :=
  channelsFollow_tyreSwap b (channelsFollow_reestablish h)

theorem channelsFollow_applyHeld (h : ChannelsFollow s) : ChannelsFollow (applyHeld s) := by
  unfold applyHeld
  split
  · exact h
  · exact channelsFollow_applySwap _ h.six

theorem channelsFollow_deliver (b) (h : ChannelsFollow s) : ChannelsFollow (deliver b s) := by
  unfold deliver
  dsimp only
  split
  · exact h
  · have ha := channelsFollow_applyHeld h
    split
    · exact ha.frame (same_updTyre _ _) (by decide)
    · exact ha.frame (same_updTyre _ _) (by decide)

theorem storeLearned_channels (s : State) : (storeLearned s).channels = s.channels := by
  unfold storeLearned
  split <;> rfl

theorem channelsFollow_completeLearn (l x) (h : ChannelsFollow s) : ChannelsFollow (completeLearn l x s) := by
  unfold completeLearn
  refine channelsFollow_acceptTelegram _ _ _ ?_
  simp [closeTyreIncidents, State.updPosition, storeLearned_channels, writeLearned, h.six]

theorem channelsFollow_handleTelegram (x) (h : ChannelsFollow s) : ChannelsFollow (handleTelegram x s) := by
  unfold handleTelegram
  split
  · unfold offerLearn
    split
    · exact h
    · split
      · exact channelsFollow_completeLearn _ x h
      · exact h
  · split
    · exact h
    · split
      · exact h
      · exact channelsFollow_acceptTelegram _ _ _ h.six

theorem channelsFollow_takeTelegram (h : ChannelsFollow s) : ChannelsFollow (takeTelegram s) := by
  unfold takeTelegram
  split
  · exact h
  · exact channelsFollow_handleTelegram _ ((channelsFollow_applyHeld h).frame (same_updTyre _ _) (by decide))

theorem channelsFollow_fallSilent (i) (h : ChannelsFollow s) : ChannelsFollow (fallSilent i s) := by
  have hp := same_updPosition i (fun q => { q with missing := none }) s
  have hf : ChannelsFollow (s.updPosition i fun q => { q with missing := none }) := h.frame hp (by decide)
  unfold fallSilent
  dsimp only
  split
  · unfold savedMissing
    split
    · exact hf
    · split
      · refine channelsFollow_tyreSettle (six_of_same (L := [.incidents, .tyre]) hf.six ?_ (by decide))
        exact (same_updTyre _ _).comp (same_openIncident _ _ _) (by decide) (by decide)
      · exact hf
  · exact hf
  · refine channelsFollow_tyreSettle (six_of_same (L := [.incidents, .tyre, .portA]) hf.six ?_ (by decide))
    exact (same_setTyreState _ _ _).comp (same_openIncident _ _ _) (by decide) (by decide)

theorem channelsFollow_missingExpired (i) (h : ChannelsFollow s) : ChannelsFollow (missingExpired i s) := by
  unfold missingExpired
  dsimp only
  split
  · exact channelsFollow_fallSilent i (channelsFollow_applyHeld h)
  · exact channelsFollow_applyHeld h

/-! ### Completions -/

theorem channelsFollow_motionEvent (h : ChannelsFollow s) : ChannelsFollow (motionEvent s) :=
  channelsFollow_endTests (channelsFollow_endLearn (channelsFollow_endService h)).six

theorem channelsFollow_updWheel (f) (h : ChannelsFollow s) : ChannelsFollow (s.updWheel f) :=
  h.frame (same_updWheel f s) (by decide)

theorem channelsFollow_stage5 (fr) (h : ChannelsFollow s) : ChannelsFollow (stage5 s fr) := by
  unfold stage5
  dsimp only
  split
  · split
    · exact channelsFollow_motionEvent (channelsFollow_updWheel _ h)
    · exact channelsFollow_updWheel _ h
  · split
    · split
      · exact h
      · exact channelsFollow_updWheel _ h
    · exact channelsFollow_updWheel _ h

theorem channelsFollow_wheelWork (fr b) (h : ChannelsFollow s) : ChannelsFollow (wheelWork fr b s) :=
  channelsFollow_stage5 fr (channelsFollow_recompose (by simp [stage1, stage2, stage3, h.six]))

theorem channelsFollow_judgeEmergency (fr) (h : ChannelsFollow s) : ChannelsFollow (judgeEmergency fr s) := by
  unfold judgeEmergency
  split
  · exact channelsFollow_setEmergency _ h
  · split
    · exact h
    · split
      · exact channelsFollow_setEmergency _ h
      · exact h

theorem channelsFollow_updPower (f) (h : ChannelsFollow s) : ChannelsFollow (s.updPower f) :=
  h.frame (same_updPower f s) (by decide)

theorem channelsFollow_enterSleep (h : ChannelsFollow s) : ChannelsFollow (enterSleep s) :=
  (channelsFollow_updPower _ (channelsFollow_applyHeld h)).frame (same_tyreSleep _) (by decide)

theorem channelsFollow_updateVoltage (v) (h : ChannelsFollow s) : ChannelsFollow (updateVoltage v s) := by
  unfold updateVoltage
  dsimp only
  split
  · have hl := channelsFollow_updPower (fun p => { p with lockout := true, wake := none, sample := none })
      (channelsFollow_updPower (fun p => { p with
        voltage := v, low := nextLow s.active.tuning.batteryLimit v s.power.low }) h)
    split
    · exact hl
    · exact channelsFollow_enterSleep hl
  · exact channelsFollow_updPower _ h

theorem channelsFollow_powerWork (fr) (h : ChannelsFollow s) : ChannelsFollow (powerWork fr s) := by
  unfold powerWork
  split
  · exact h
  · split
    · exact channelsFollow_updateVoltage _ h
    · exact h

theorem channelsFollow_blockWork (fr b k) (h : ChannelsFollow s) : ChannelsFollow (blockWork fr b k s) := by
  cases k with
  | wheel => exact channelsFollow_wheelWork fr b h
  | load => exact channelsFollow_recompose h.six
  | composer => exact channelsFollow_reestablish (channelsFollow_judgeEmergency fr h).six
  | stability => exact channelsFollow_stabilityWork _ h
  | power => exact channelsFollow_powerWork fr h

theorem channelsFollow_complete (fr b o) (h : ChannelsFollow s) : ChannelsFollow (complete fr b o s) :=
  channelsFollow_foldl (fun _ k ht => channelsFollow_blockWork fr b k ht) _ h

/-! ### The chain -/

theorem channelsFollow_goodSession (rs o) (h : ChannelsFollow s) : ChannelsFollow (goodSession rs o s) := by
  refine channelsFollow_complete _ _ _ (channelsFollow_recompose_of_same (L := [.incidents, .chain]) h.six ?_ (by decide))
  exact ((same_applyResponses rs s).comp (N := [.incidents, .chain]) (same_updChain _ _) (by decide) (by decide)).trans
    (same_moveGood _)

theorem channelsFollow_failSession (x o) (h : ChannelsFollow s) : ChannelsFollow (failSession x o s) := by
  refine channelsFollow_complete _ _ _ (channelsFollow_recompose_of_same (L := [.incidents, .chain]) h.six ?_ (by decide))
  exact (same_updChain _ s).comp (same_moveFailed _) (by decide) (by decide)

/-- A chain reinitialisation recomposes, whatever stood before. -/
theorem channelsFollow_reinitialise (h : s.channels.length = 6) : ChannelsFollow (reinitialise s) := by
  refine channelsFollow_reestablish (channelsFollow_setEmergency false (channelsFollow_recompose ?_)).six
  exact (mapChannels_length _ _).trans h

theorem positions_of_sameNodes {a b : ChainRec} (h : a.sameNodes b = true) : a.positions = b.positions := by
  have hc : a.count = b.count := by
    simp only [ChainRec.sameNodes, Bool.and_eq_true, decide_eq_true_eq] at h
    exact h.1
  unfold ChainRec.positions
  rw [hc]

/-- Chains that agree in their nodes have the same MOD units (R42, R43). -/
theorem mods_of_sameNodes {a b : ChainRec} (h : a.sameNodes b = true) : a.mods = b.mods := by
  unfold ChainRec.mods
  rw [← positions_of_sameNodes h]
  refine List.filter_congr fun n hn => ?_
  simp only [ChainRec.sameNodes, Bool.and_eq_true, List.all_eq_true, decide_eq_true_eq] at h
  rw [h.2 n hn]

/-- The binding of a configuration that does not differ moves no MOD unit (R43). -/
theorem bindChain_mods (h : chainDiffers s = false) : s.active.chain.mods = (inUse s).mods := by
  unfold chainDiffers at h
  unfold inUse
  cases hb : s.chain.bound with
  | none => rfl
  | some c =>
    rw [hb] at h
    exact (mods_of_sameNodes (by simpa using h)).symm

theorem sameInputs_of_mods (hmods : (inUse t).mods = (inUse s).mods) (hcomposer : t.composer = s.composer)
    (hhealth : t.chain.health = s.chain.health) (hnodes : t.chain.nodes = s.chain.nodes) (hactive : t.active = s.active)
    (hswap : t.unapplied = s.unapplied) : SameInputs s t := by
  refine ⟨by rw [hcomposer], by rw [hcomposer], hhealth, fun c => ?_, fun c => ?_, fun c => ?_, hswap⟩
  · unfold channelExists groupExists groupCount ChainRec.groups
    rw [hmods]
  · unfold channelNode State.node modPosition
    rw [hmods, hnodes]
  · unfold pMaxOf
    rw [hactive]

theorem channelsFollow_bindChain (h : ChannelsFollow s) (hd : chainDiffers s = false) : ChannelsFollow (bindChain s) :=
  h.of_channels (sameInputs_of_mods (bindChain_mods hd) rfl rfl rfl rfl rfl) rfl

/-- A session's number and command list change of the channels the carried modes alone (R44). -/
theorem channelsFollow_sendCommands (h : ChannelsFollow s) : ChannelsFollow (sendCommands (numberSession s)) := by
  have hch : ∀ c ∈ channelNumbers, (sendCommands (numberSession s)).channel c =
      if channelExists s c then { s.channel c with carried := (s.channel c).command.mode } else s.channel c := fun c hc =>
    mapChannels_channel_of_six (s := (numberSession s).updChain fun k => { k with sent := commandList (numberSession s) })
      h.six _ hc
  refine h.of_inputs ⟨rfl, rfl, rfl, fun _ => rfl, fun _ => rfl, fun _ => rfl, rfl⟩ (mapChannels_length _ _)
    (fun c hc he => ?_) (fun c hc he hs => ?_)
  · rw [hch c hc, if_pos he]
    exact ⟨_, _, rfl⟩
  · rw [hch c hc, if_neg (by simp [he]), hs]

theorem channelsFollow_sessionStart (b) (h : ChannelsFollow s) : ChannelsFollow (sessionStart b s) := by
  refine channelsFollow_sendCommands ?_
  split
  · exact channelsFollow_reinitialise h.six
  · next hd => exact channelsFollow_bindChain h (by simp_all)

theorem channelsFollow_startPeriod (h : ChannelsFollow s) : ChannelsFollow (startPeriod s) :=
  h.of_channels ⟨rfl, rfl, rfl, fun _ => rfl, fun _ => rfl, fun _ => rfl, rfl⟩ rfl

theorem channelsFollow_startChain (b) (h : ChannelsFollow s) : ChannelsFollow (startChain b s) := by
  unfold startChain
  split
  · exact channelsFollow_startPeriod (channelsFollow_sessionStart b h)
  · exact h

theorem channelsFollow_periodExpired (o) (h : ChannelsFollow s) : ChannelsFollow (periodExpired o s) := by
  have hp := channelsFollow_startPeriod h
  have hs : ∀ v, ChannelsFollow v → ChannelsFollow (if v.active.chain.configured then sessionStart false v else v) := by
    intro v hv
    split
    · exact channelsFollow_sessionStart _ hv
    · exact hv
  refine hs _ ?_
  split
  · exact channelsFollow_failSession _ o hp
  · exact hp

theorem channelsFollow_listReturned (l o) (h : ChannelsFollow s) : ChannelsFollow (listReturned l o s) := by
  unfold listReturned
  split
  · split
    · exact channelsFollow_goodSession _ o h
    · exact channelsFollow_failSession _ o h
  · exact h

/-! ### Power -/

theorem channelsFollow_leaveMgmt (h : ChannelsFollow s) : ChannelsFollow (leaveMgmt s) :=
  (channelsFollow_endService h).frame (same_updMgmt _ _) (by decide)

theorem atRest_length (s : State) : (atRest s).channels.length = s.channels.length := by
  simp [atRest, leaveComposer, leaveLoad, leaveWheel, stopChain, leaveLinks, unplace, stopReports]

/-- Leaving RUN recomposes, whatever stood before. -/
theorem channelsFollow_leaveRun (h : s.channels.length = 6) : ChannelsFollow (leaveRun s) := by
  rw [leaveRun_eq]
  have hr : ChannelsFollow (reestablish (atRest s)) := channelsFollow_reestablish ((atRest_length s).trans h)
  exact channelsFollow_endTests (channelsFollow_leaveMgmt (channelsFollow_endLearn (channelsFollow_enterOff hr))).six

theorem channelsFollow_powerOff (v) (h : ChannelsFollow s) : ChannelsFollow (powerOff v s) := by
  have ht : ChannelsFollow (turnedOff v s) :=
    channelsFollow_leaveRun (channelsFollow_updateVoltage _ (channelsFollow_updPower _ h)).six
  rw [powerOff_eq]
  split
  · exact channelsFollow_updPower _ ht
  · refine channelsFollow_enterSleep ?_
    split
    · exact channelsFollow_updPower _ ht
    · exact ht

theorem channelsFollow_startListening (h : ChannelsFollow s) : ChannelsFollow (startListening s) :=
  (channelsFollow_updPower _ (channelsFollow_applyHeld h)).frame (same_tyreWake _) (by decide)

theorem channelsFollow_parkExpired (h : ChannelsFollow s) : ChannelsFollow (parkExpired s) := by
  unfold parkExpired
  split
  · exact channelsFollow_updPower _ h
  · split
    · exact channelsFollow_updPower _ h
    · exact channelsFollow_enterSleep (channelsFollow_updPower _ h)

theorem channelsFollow_listenExpired (h : ChannelsFollow s) : ChannelsFollow (listenExpired s) := by
  unfold listenExpired
  split
  · exact channelsFollow_updPower _ h
  · split
    · exact channelsFollow_updPower _ h
    · exact channelsFollow_enterSleep (channelsFollow_updPower _ h)

theorem channelsFollow_wakeExpired (h : ChannelsFollow s) : ChannelsFollow (wakeExpired s) := by
  unfold wakeExpired
  split
  · exact channelsFollow_startListening h
  · exact channelsFollow_updPower _ h

theorem channelsFollow_wakeLine (h : ChannelsFollow s) : ChannelsFollow (wakeLine s) := by
  unfold wakeLine
  split
  · exact channelsFollow_startListening h
  · exact h

theorem channelsFollow_sampleExpired (v) (h : ChannelsFollow s) : ChannelsFollow (sampleExpired v s) := by
  have hp := channelsFollow_updPower (fun p => { p with sample := some 1000 }) h
  unfold sampleExpired
  dsimp only
  split
  · exact channelsFollow_updateVoltage _ hp
  · exact hp

theorem setEmergency_length (b) (s : State) : (setEmergency b s).channels.length = s.channels.length := by
  unfold setEmergency
  dsimp only
  split
  · rfl
  · rw [recompose_length]
    split <;> simp

/-- Entering RUN recomposes, but the swap that waits is applied first. -/
theorem channelsFollow_enterRun (h : ChannelsFollow s) : ChannelsFollow (enterRun s) := by
  refine channelsFollow_reestablish ((setEmergency_length _ _).trans ?_)
  exact (channelsFollow_applyHeld h).six

theorem channelsFollow_powerOn (h : ChannelsFollow s) : ChannelsFollow (powerOn s) := by
  have hp := channelsFollow_updPower (fun p => { p with linkPower := true }) h
  unfold powerOn
  dsimp only
  split
  · exact hp
  · split
    · exact (channelsFollow_enterRun hp).frame (same_tyreWake _) (by decide)
    · exact channelsFollow_enterRun hp

/-- Every block starts with its channels following. -/
theorem channelsFollow_startBlocks (s : State) : ChannelsFollow (startBlocks s) :=
  channelsFollow_recompose rfl

theorem channelsFollow_beginRestart (s : State) : ChannelsFollow (beginRestart s) :=
  channelsFollow_enterRun (channelsFollow_startBlocks _)

theorem channelsFollow_triggerRestart (h : ChannelsFollow s) : ChannelsFollow (triggerRestart s) := by
  unfold triggerRestart
  split
  · exact h
  · split
    · exact h.frame (same_updMgmt _ s) (by decide)
    · exact channelsFollow_beginRestart s

theorem channelsFollow_coldStart (v l) (s : State) : ChannelsFollow (coldStart v l s) := by
  have hb : ChannelsFollow (startBlocks (coldLoaded v l s)) := channelsFollow_startBlocks _
  rw [coldStart_eq]
  split
  · exact channelsFollow_enterRun hb
  · rw [coldSleep_eq]
    exact channelsFollow_enterSleep (hb.frame (same_lockedIfLow _) (by decide))

end Sys2Proof.Machine
end

section
/-! PROOFS. Every command keeps the channels following (O6). -/

namespace Sys2Proof.Machine

variable {s t u : State} {L : List Part}

/-! ### Requests -/

theorem channelsFollow_updMgmt (f) (h : ChannelsFollow s) : ChannelsFollow (s.updMgmt f) :=
  h.frame (same_updMgmt f s) (by decide)

theorem channelsFollow_updPort (p f) (h : ChannelsFollow s) : ChannelsFollow (s.updPort p f) :=
  h.frame (same_updPort p f s) (by cases p <;> decide)

theorem channelsFollow_respond (code r res data) (h : ChannelsFollow s) : ChannelsFollow (respond code r res data s) :=
  h.frame (same_respond code r res data s) (by cases r.port <;> decide)

theorem channelsFollow_manage {act : State → State} (hact : ∀ t, ChannelsFollow t → ChannelsFollow (act t)) (code need exempt r)
    (h : ChannelsFollow s) : ChannelsFollow (manage code need exempt act r s) := by
  have hi : ChannelsFollow (touchIdle s) := h.frame (same_touchIdle s) (by decide)
  rcases manage_cases code need exempt act r s with ⟨_, e⟩ | ⟨_, _, _, e⟩ | ⟨_, _, _, e⟩ | ⟨_, _, _, e⟩ <;> rw [e]
  · exact h
  · exact channelsFollow_respond _ _ _ _ hi
  · exact channelsFollow_respond _ _ _ _ hi
  · exact hact _ hi

theorem channelsFollow_doEnterService (r) (h : ChannelsFollow s) : ChannelsFollow (doEnterService r s) := by
  refine channelsFollow_manage (fun t ht => ?_) _ _ _ r h
  split
  · exact channelsFollow_respond _ _ _ _ ht
  · refine channelsFollow_respond _ _ _ _ ?_
    split
    · exact ht
    · exact channelsFollow_updMgmt _ ht

theorem channelsFollow_doLeaveService (r) (h : ChannelsFollow s) : ChannelsFollow (doLeaveService r s) := by
  refine channelsFollow_manage (fun t ht => ?_) _ _ _ r h
  split
  · exact channelsFollow_respond _ _ _ _ (channelsFollow_endService ht)
  · exact channelsFollow_respond _ _ _ _ ht

theorem channelsFollow_doStage (r) (h : ChannelsFollow s) : ChannelsFollow (doStage r s) := by
  refine channelsFollow_manage (fun t ht => ?_) _ _ _ r h
  split
  · exact channelsFollow_respond _ _ _ _ ht
  · unfold stageShadow
    split
    · exact channelsFollow_respond _ _ _ _ (channelsFollow_updMgmt _ ht)
    · exact channelsFollow_respond _ _ _ _ ht

theorem channelsFollow_doCommit (r) (h : ChannelsFollow s) : ChannelsFollow (doCommit r s) := by
  refine channelsFollow_manage (fun t ht => ?_) _ _ _ r h
  split
  · exact channelsFollow_respond _ _ _ _ ht
  · split
    · exact channelsFollow_respond _ _ _ _ ht
    · unfold commitShadow
      split
      · exact channelsFollow_respond _ _ _ _ ht
      · exact channelsFollow_updMgmt _ ht

theorem channelsFollow_doDiscard (r) (h : ChannelsFollow s) : ChannelsFollow (doDiscard r s) := by
  refine channelsFollow_manage (fun t ht => ?_) _ _ _ r h
  split
  · exact channelsFollow_respond _ _ _ _ (channelsFollow_updMgmt _ ht)
  · exact channelsFollow_respond _ _ _ _ ht

theorem same_clearIncidents (s : State) : SameBut [.incidents, .tyre] s (clearIncidents s) := by
  intro p hp
  cases p <;> simp at hp <;> rfl

theorem channelsFollow_doClearIncidents (r) (h : ChannelsFollow s) : ChannelsFollow (doClearIncidents r s) := by
  refine channelsFollow_manage (fun t ht => ?_) _ _ _ r h
  split
  · exact channelsFollow_respond _ _ _ _ (ht.frame (same_clearIncidents t) (by decide))
  · exact channelsFollow_respond _ _ _ _ ht

theorem channelsFollow_doLearnTyre (r) (h : ChannelsFollow s) : ChannelsFollow (doLearnTyre r s) := by
  refine channelsFollow_manage (fun t ht => ?_) _ _ _ r h
  split
  · exact channelsFollow_respond _ _ _ _ (channelsFollow_startLearn _ _ ht)
  · exact channelsFollow_respond _ _ _ _ ht

theorem channelsFollow_doServiceTest (r) (h : ChannelsFollow s) : ChannelsFollow (doServiceTest r s) := by
  refine channelsFollow_manage (fun t ht => ?_) _ _ _ r h
  split
  · exact channelsFollow_respond _ _ _ _ (channelsFollow_startTest _ _ _ ht)
  · exact channelsFollow_respond _ _ _ _ ht

theorem channelsFollow_doRestart (r) (h : ChannelsFollow s) : ChannelsFollow (doRestart r s) := by
  refine channelsFollow_manage (fun t ht => ?_) _ _ _ r h
  split
  · have hq : ChannelsFollow (enqueueRestart r
        (t.updMgmt fun m => { m with restartPending := true, restartTimer := some 200 })) :=
      channelsFollow_updPort _ _ (channelsFollow_updMgmt _ ht)
    unfold acceptRestart
    dsimp only
    split
    · exact hq
    · exact channelsFollow_triggerRestart hq
  · exact channelsFollow_respond _ _ _ _ ht

/-- Every request keeps the channels following. -/
theorem channelsFollow_request (h : ChannelsFollow s) (r : Request) :
    ∀ p ∈ requestsOf r, ∃ t, exec p.2 s = .next t ∧ ChannelsFollow t := by
  have cancel : ChannelsFollow (doCancelLearn r s) :=
    channelsFollow_manage (fun _ ht => channelsFollow_respond _ _ _ _ (channelsFollow_endLearn ht)) _ _ _ r h
  simp only [requestsOf, List.forall_mem_cons]
  exact ⟨⟨_, rfl, channelsFollow_manage (fun _ ht => channelsFollow_respond _ _ _ _ ht) _ _ _ r h⟩,
    ⟨_, rfl, channelsFollow_manage (fun _ ht => channelsFollow_respond _ _ _ _ ht) _ _ _ r h⟩,
    ⟨_, rfl, channelsFollow_doEnterService r h⟩, ⟨_, rfl, channelsFollow_doLeaveService r h⟩,
    ⟨_, rfl, channelsFollow_doStage r h⟩, ⟨_, rfl, channelsFollow_doCommit r h⟩, ⟨_, rfl, channelsFollow_doDiscard r h⟩,
    ⟨_, rfl, channelsFollow_doLearnTyre r h⟩, ⟨_, rfl, cancel⟩, ⟨_, rfl, channelsFollow_doServiceTest r h⟩,
    ⟨_, rfl, channelsFollow_doClearIncidents r h⟩, ⟨_, rfl, channelsFollow_doRestart r h⟩,
    fun _ hp => (List.not_mem_nil hp).elim⟩

theorem channelsFollow_doUnknown (code r) (h : ChannelsFollow s) : ChannelsFollow (doUnknown code r s) := by
  unfold doUnknown
  split
  · exact channelsFollow_respond _ _ _ _ h
  · exact h

/-! ### Frames -/

theorem channelsFollow_consumeDemand (p d) (h : ChannelsFollow s) : ChannelsFollow (consumeDemand p d s) := by
  unfold consumeDemand
  split
  · exact h
  · exact channelsFollow_reestablish (six_of_same h.six (same_updComposer _ s) (by decide))

theorem channelsFollow_handOff (p f c) (h : ChannelsFollow s) : ChannelsFollow (handOff p f c s) := by
  unfold handOff
  split
  case h_1 =>
    split
    · exact channelsFollow_consumeDemand _ _ h
    · exact h
  case h_2 =>
    split
    · exact h.frame (same_discoverConsume _ _ s) (by decide)
    · exact h
  case h_3 =>
    split
    · unfold consumeRequest
      split
      · exact takeRequest_induction _ (channelsFollow_request h _) (channelsFollow_doUnknown _ _ h)
      · exact h
    · exact h
  all_goals exact h

theorem channelsFollow_applyAction (p f a o) (h : ChannelsFollow s) : ChannelsFollow (applyAction p f a o s) := by
  have hp : ∀ {t}, ChannelsFollow t → ChannelsFollow (applyPass p f a t) :=
    fun {t} ht => ht.frame (same_applyPass_ports p f a t) (by decide)
  have hh : ∀ {t}, ChannelsFollow t → ChannelsFollow (applyHandOff p f a t) := by
    intro t ht
    unfold applyHandOff
    split
    · exact channelsFollow_handOff p f _ ht
    · exact ht
  cases o with
  | passFirst => exact hh (hp h)
  | handOffFirst => exact hp (hh h)

theorem channelsFollow_receiveFrame (p f o) (h : ChannelsFollow s) : ChannelsFollow (receiveFrame p f o s) := by
  unfold receiveFrame
  split
  · have hr : ChannelsFollow (received p f s) := h.frame (same_received p f s) (by cases p <;> decide)
    exact channelsFollow_applyAction p f _ o (hr.frame (same_countHits _ _) (by decide))
  · exact h

theorem channelsFollow_presenceExpired (p) (h : ChannelsFollow s) : ChannelsFollow (presenceExpired p s) := by
  have ht : ChannelsFollow (relayLoses p (s.updPort p PortState.lose)) :=
    (channelsFollow_updPort p _ h).frame (same_relayLoses p _) (by decide)
  unfold presenceExpired
  dsimp only
  split
  · exact channelsFollow_triggerRestart ht
  · exact ht

theorem channelsFollow_reportTransmitted (p) (h : ChannelsFollow s) : ChannelsFollow (reportTransmitted p s) := by
  unfold reportTransmitted
  dsimp only
  split
  · exact channelsFollow_triggerRestart (channelsFollow_updPort p _ h)
  · exact channelsFollow_updPort p _ h

/-! ### The store's reports -/

theorem channelsFollow_answerCommit (res data) (h : ChannelsFollow s) : ChannelsFollow (answerCommit res data s) := by
  unfold answerCommit
  split
  · exact h
  · exact channelsFollow_updMgmt _ (channelsFollow_respond _ _ _ _ h)

theorem answerCommit_channels (res data) (s : State) : (answerCommit res data s).channels = s.channels := by
  unfold answerCommit
  split
  · rfl
  · simp [respond]

/-- A swap in RUN recomposes, whatever stood before. -/
theorem channelsFollow_swapBlocks (b) (h : s.channels.length = 6) : ChannelsFollow (swapBlocks b s) := by
  have ha : ChannelsFollow (applySwap b (stabilitySwap s)) := channelsFollow_applySwap b ((stabilitySwap_length s).trans h)
  unfold swapBlocks
  dsimp only
  split
  · exact channelsFollow_startChain _ ha
  · exact ha

/-- While a swap waits for the blocks nothing is asked of the channels but their number (R176). -/
theorem channelsFollow_holdSwap (b) (h : s.channels.length = 6) : ChannelsFollow (holdSwap b s) where
  six := h
  follows hu := absurd hu (Option.some_ne_none _)
  absent hu := absurd hu (Option.some_ne_none _)

theorem channelsFollow_commitSucceeded (w) (h : ChannelsFollow s) : ChannelsFollow (commitSucceeded w s) := by
  have h6 : (answerCommit .done [] (endWrite (swapImage w (written w s)))).channels.length = 6 :=
    (congrArg List.length (answerCommit_channels _ _ _)).trans h.six
  unfold commitSucceeded
  dsimp only
  split
  · exact channelsFollow_swapBlocks _ h6
  · exact channelsFollow_holdSwap _ h6

theorem channelsFollow_afterReport (h : ChannelsFollow s) : ChannelsFollow (afterReport s) := by
  unfold afterReport
  split
  · exact channelsFollow_beginRestart s
  · unfold followOn
    split
    · exact channelsFollow_updMgmt _ (channelsFollow_updMgmt _ h)
    · exact h

theorem channelsFollow_writeSucceeded (h : ChannelsFollow s) : ChannelsFollow (writeSucceeded s) := by
  unfold writeSucceeded
  split
  · exact h
  · refine channelsFollow_afterReport ?_
    split
    · exact channelsFollow_commitSucceeded _ h
    · exact channelsFollow_updMgmt _ (h.frame (same_written _ s) (by decide))

theorem same_spoilStore (s : State) : SameBut [.store] s (spoilStore s) := by
  intro p hp
  cases p <;> simp at hp <;> rfl

theorem channelsFollow_writeFailed (h : ChannelsFollow s) : ChannelsFollow (writeFailed s) := by
  unfold writeFailed
  split
  · exact h
  · have he : ChannelsFollow (endWrite (spoilStore s)) := channelsFollow_updMgmt _ (h.frame (same_spoilStore s) (by decide))
    refine channelsFollow_afterReport ?_
    split
    · exact (channelsFollow_answerCommit _ _ he).frame (same_openIncident _ _ _) (by decide)
    · exact he.frame (same_openIncident _ _ _) (by decide)

/-! ### Every command -/

theorem channelsFollow_onExpiry (h : ChannelsFollow s) (tm : Timer) {f : State → State}
    (hf : ∀ e, ChannelsFollow e → ChannelsFollow (f e)) : ChannelsFollow (onExpiry tm f s) := by
  cases tm with
  | none => exact h
  | some r => exact hf _ (channelsFollow_elapse h r)

/-- An expiry whose effect lies within other parts. -/
theorem channelsFollow_expiry (h : ChannelsFollow s) (tm : Timer) {f : State → State} (hf : ∀ e, SameBut L e (f e))
    (d : ∀ p ∈ commandParts, p ∉ L) : ChannelsFollow (onExpiry tm f s) :=
  channelsFollow_onExpiry h tm fun e he => he.frame (hf e) d

theorem channelsFollow_testWindow (h : ChannelsFollow s) :
    ChannelsFollow (if s.stability.state = .test then abandonTest s else s.updStab fun u => { u with window := none }) := by
  split
  · exact channelsFollow_abandonTest h.six
  · exact h.frame (same_updStab _ s) (by decide)

theorem channelsFollow_recovered (h : ChannelsFollow s) : ChannelsFollow (recovered s) := by
  refine h.frame (L := [.incidents, .portA, .stability]) ?_ (by decide)
  exact ((same_updStab _ s).comp (N := [.incidents, .stability]) (same_closeIncident _ _ _) (by decide) (by decide)).comp
    (same_changeStab _ _) (by decide) (by decide)

/-- Every command keeps the channels following. -/
theorem channelsFollow_exec (h : ChannelsFollow s) (i : Instr) : ∃ t, exec i s = .next t ∧ ChannelsFollow t := by
  have request := channelsFollow_request h
  cases i with
  | frameReceived p f o => exact ⟨_, rfl, channelsFollow_receiveFrame p f o h⟩
  | presenceTimerExpiry p => exact ⟨_, rfl, channelsFollow_onExpiry h _ fun _ he => channelsFollow_presenceExpired p he⟩
  | linkReportTransmitted p r =>
    refine ⟨_, rfl, ?_⟩
    split
    · exact channelsFollow_reportTransmitted p h
    · exact h
  | linkReportNotSent p r =>
    refine ⟨_, rfl, ?_⟩
    split
    · exact channelsFollow_updPort p _ h
    · exact h
  | discoveryTimerExpiry => exact ⟨_, rfl, channelsFollow_expiry h _ same_discoveryExpired (by decide)⟩
  | warnTimerExpiry => exact ⟨_, rfl, channelsFollow_expiry h _ same_warnExpired (by decide)⟩
  | statusTimerExpiry => exact ⟨_, rfl, channelsFollow_expiry h _ same_statusExpired (by decide)⟩
  | tyreTimerExpiry => exact ⟨_, rfl, channelsFollow_expiry h _ same_tyreExpired (by decide)⟩
  | periodTimerExpiry o => exact ⟨_, rfl, channelsFollow_onExpiry h _ fun _ he => channelsFollow_periodExpired o he⟩
  | responseListReturn l o => exact ⟨_, rfl, channelsFollow_listReturned l o h⟩
  | stationaryTimerExpiry => exact ⟨_, rfl, channelsFollow_expiry h _ (same_updWheel _) (by decide)⟩
  | demandTimerExpiry =>
    exact ⟨_, rfl, channelsFollow_onExpiry h _ fun e he =>
      channelsFollow_reestablish (six_of_same he.six (same_updComposer _ e) (by decide))⟩
  | testWindowExpiry => exact ⟨_, rfl, channelsFollow_onExpiry h _ fun _ he => channelsFollow_testWindow he⟩
  | spacingTimerExpiry => exact ⟨_, rfl, channelsFollow_expiry h _ (same_updStab _) (by decide)⟩
  | recoverTimerExpiry => exact ⟨_, rfl, channelsFollow_onExpiry h _ fun _ he => channelsFollow_recovered he⟩
  | telegramDelivered b => exact ⟨_, rfl, channelsFollow_deliver b h⟩
  | telegramTaken => exact ⟨_, rfl, channelsFollow_takeTelegram h⟩
  | missingTimerExpiry i =>
    refine ⟨_, rfl, ?_⟩
    split
    · exact channelsFollow_onExpiry h _ fun _ he => channelsFollow_missingExpired i he
    · exact h
  | learnTimerExpiry => exact ⟨_, rfl, channelsFollow_onExpiry h _ fun _ he => channelsFollow_endLearn he⟩
  | lampBlinkToggle => exact ⟨_, rfl, channelsFollow_expiry h _ (same_updTyre _) (by decide)⟩
  | identify r => exact request r (1#8, _) (by simp [requestsOf])
  | read r => exact request r (2#8, _) (by simp [requestsOf])
  | enterService r => exact request r (3#8, _) (by simp [requestsOf])
  | leaveService r => exact request r (4#8, _) (by simp [requestsOf])
  | stage r => exact request r (5#8, _) (by simp [requestsOf])
  | commit r => exact request r (6#8, _) (by simp [requestsOf])
  | discard r => exact request r (7#8, _) (by simp [requestsOf])
  | clearIncidents r => exact request r (11#8, _) (by simp [requestsOf])
  | learnTyre r => exact request r (8#8, _) (by simp [requestsOf])
  | cancelLearn r => exact request r (9#8, _) (by simp [requestsOf])
  | serviceTest r => exact request r (10#8, _) (by simp [requestsOf])
  | restart r => exact request r (12#8, _) (by simp [requestsOf])
  | unknownRequest c r => exact ⟨_, rfl, channelsFollow_doUnknown c r h⟩
  | serviceIdleTimerExpiry => exact ⟨_, rfl, channelsFollow_onExpiry h _ fun _ he => channelsFollow_endService he⟩
  | restartDelayExpiry => exact ⟨_, rfl, channelsFollow_onExpiry h _ fun _ he => channelsFollow_triggerRestart he⟩
  | storeWriteSucceeded => exact ⟨_, rfl, channelsFollow_writeSucceeded h⟩
  | storeWriteFailed => exact ⟨_, rfl, channelsFollow_writeFailed h⟩
  | coldStart v l => exact ⟨_, rfl, channelsFollow_coldStart v l s⟩
  | linkPowerOff v =>
    refine ⟨_, rfl, ?_⟩
    split
    · exact channelsFollow_powerOff v h
    · exact channelsFollow_updPower _ h
  | linkPowerOn => exact ⟨_, rfl, channelsFollow_powerOn h⟩
  | settleTimerExpiry =>
    exact ⟨_, rfl, channelsFollow_onExpiry h _ fun _ he => channelsFollow_startChain _ (channelsFollow_updPower _ he)⟩
  | parkTimerExpiry => exact ⟨_, rfl, channelsFollow_onExpiry h _ fun _ he => channelsFollow_parkExpired he⟩
  | wakeTimerExpiry => exact ⟨_, rfl, channelsFollow_onExpiry h _ fun _ he => channelsFollow_wakeExpired he⟩
  | wakeLineAsserted => exact ⟨_, rfl, channelsFollow_wakeLine h⟩
  | listenTimerExpiry => exact ⟨_, rfl, channelsFollow_onExpiry h _ fun _ he => channelsFollow_listenExpired he⟩
  | batterySampleTimerExpiry v => exact ⟨_, rfl, channelsFollow_onExpiry h _ fun _ he => channelsFollow_sampleExpired v he⟩
  | serviceTestTimerExpiry c =>
    refine ⟨_, rfl, ?_⟩
    split
    · exact channelsFollow_onExpiry h _ fun _ he => channelsFollow_endTest c he
    · exact h

/-- Settles O6: every operation that changes an input recomposes, and time changes test timers alone. -/
theorem stepKeepsTheCommands : Obligations.StepKeepsTheCommands := by
  unfold Obligations.StepKeepsTheCommands
  intro s t h e
  refine step_keeps (P := ChannelsFollow) (fun _ h => channelsFollow_elapse h 1) (fun s l h => ?_)
    (fun _ i h => channelsFollow_exec h i) h e
  exact h.of_channels ⟨rfl, rfl, rfl, fun _ => rfl, fun _ => rfl, fun _ => rfl, rfl⟩ rfl

end Sys2Proof.Machine
end

section
/-! PROOFS. The sessions that the timers start (O25) and the session that the period timer fails (O26). -/

namespace Sys2Proof.Machine

variable {s t u v : State} {L : List Part} {c : ChainRec}

/-! ### The command list -/

/-- A command list has left the part under a chain configuration (R44, R45, section 11.3). -/
structure CommandsSent (c : ChainRec) (t : State) : Prop where
  sent    : t.chain.sent = commandBody t ++ beBytes 2 (crc16 (commandBody t)).toNat
  body    : commandBody t = BitVec.ofNat 8 (0xA0 + t.chain.session) ::
    (((List.range c.count).map (fun i => commandFor t (i + 1))).reverse).flatten
  ref     : ∀ n, 1 ≤ n → n ≤ c.count → c.kind n = .ref → ∃ b, commandFor t n = [1, b] ∧
    (b.getLsbD 0 = true ↔ (warningWord t).getLsbD 0 = true ∨ (warningWord t).getLsbD 1 = true) ∧
    (b.getLsbD 1 = true ↔ c.period ≠ 5 ∨ t.chain.session % 2 = 0) ∧ ∀ k ∈ [2, 3, 4, 5, 6, 7], b.getLsbD k = false
  mod     : ∀ g ∈ [1, 2, 3], ∀ n, modPosition t g = n → 1 ≤ n → n ≤ c.count → c.kind n = .mod →
    ∃ left right, commandFor t n = [2] ++ left ++ right ∧ ∀ p ∈ [(left, 2 * g - 1), (right, 2 * g)],
      ((t.channel p.2).command.mode = .passThrough → p.1 = [0, 0]) ∧
      ((t.channel p.2).command.mode = .control → (t.channel p.2).command.pressure ≤ 1000 →
        p.1 = beBytes 2 (0x8000 + (t.channel p.2).command.pressure))
  carried : t.channels.length = 6 → ∀ k ∈ channelNumbers, channelExists t k = true →
    (t.channel k).carried = (t.channel k).command.mode

theorem warningWord_lamps (t : State) :
    (warningWord t).getLsbD 0 = amber t ∧ (warningWord t).getLsbD 1 = red t := by
  obtain ⟨h0, h1, _⟩ := flagWord_bits (amber t) (red t) (tyreLow t) (tyreCrit t) (tyreMissing t) (stabilityFlag t)
    t.configInvalid t.inService
  exact ⟨h0, h1⟩

/-- Two flags in a byte. -/
theorem flagByte_bits (a b : Bool) :
    let w := BitVec.ofNat 8 (bit a + 2 * bit b)
    w.getLsbD 0 = a ∧ w.getLsbD 1 = b ∧ ∀ k ∈ [2, 3, 4, 5, 6, 7], w.getLsbD k = false := by
  revert a b
  decide

theorem commandFor_ref {n : Nat} (h : (inUse t).kind n = .ref) :
    commandFor t n = [1#8, BitVec.ofNat 8 (refFlags t)] := by
  unfold commandFor
  rw [h]

theorem commandFor_mod {n : Nat} (h : (inUse t).kind n = .mod) {g : Nat} (hg : (inUse t).mods.idxOf n + 1 = g) :
    commandFor t n = [2#8] ++ beBytes 2 (commandWord (t.channel (2 * g - 1)).command) ++
      beBytes 2 (commandWord (t.channel (2 * g)).command) := by
  unfold commandFor
  rw [h, ← hg]

/-- One channel's word in a MOD command (R45). -/
theorem commandWord_cases (c : Command) :
    (c.mode = .passThrough → beBytes 2 (commandWord c) = [0, 0]) ∧
    (c.mode = .control → c.pressure ≤ 1000 → beBytes 2 (commandWord c) = beBytes 2 (0x8000 + c.pressure)) := by
  unfold commandWord
  refine ⟨fun h => ?_, fun h hp => ?_⟩
  · rw [h]
    show beBytes 2 0 = [0, 0]
    rw [beBytes_two]
    decide
  · rw [h]
    show beBytes 2 (0x8000 + c.pressure % 1024) = _
    rw [Nat.mod_eq_of_lt (by omega)]

theorem positions_nodup (c : ChainRec) : c.positions.Nodup :=
  List.Nodup.map (fun _ _ h => Nat.succ.inj h) List.nodup_range

theorem mods_nodup (c : ChainRec) : c.mods.Nodup := (positions_nodup c).filter _

/-- The MOD at a chain position serves the group whose MOD position that is (R42). -/
theorem mods_idxOf {g n : Nat} (hg : 1 ≤ g) (h : modPosition t g = n) (hn : 1 ≤ n) : (inUse t).mods.idxOf n + 1 = g := by
  unfold modPosition at h
  have hl : g - 1 < (inUse t).mods.length := by
    by_contra hl
    rw [List.getD_eq_default _ _ (by omega)] at h
    omega
  rw [List.getD_eq_getElem _ _ hl] at h
  rw [← h, (mods_nodup _).idxOf_getElem _ hl]
  omega

theorem commandBody_eq (h : inUse t = c) : commandBody t = BitVec.ofNat 8 (0xA0 + t.chain.session) ::
    (((List.range c.count).map (fun i => commandFor t (i + 1))).reverse).flatten := by
  unfold commandBody ChainRec.positions
  rw [h, List.flatMap_def, List.map_reverse, List.map_map]
  rfl

theorem commandFor_ref_flags (ha : t.active.chain = c) (hu : inUse t = c) {n : Nat} (hk : c.kind n = .ref) :
    ∃ b, commandFor t n = [1, b] ∧
      (b.getLsbD 0 = true ↔ (warningWord t).getLsbD 0 = true ∨ (warningWord t).getLsbD 1 = true) ∧
      (b.getLsbD 1 = true ↔ c.period ≠ 5 ∨ t.chain.session % 2 = 0) ∧ ∀ k ∈ [2, 3, 4, 5, 6, 7], b.getLsbD k = false := by
  obtain ⟨h0, h1, high⟩ := flagByte_bits (amber t || red t) (t.active.chain.period ≠ 5 || t.chain.session % 2 = 0)
  obtain ⟨hamber, hred⟩ := warningWord_lamps t
  refine ⟨_, commandFor_ref (hu ▸ hk), ?_, ?_, high⟩
  · rw [hamber, hred, ← Bool.or_eq_true, ← h0]
    rfl
  · rw [← ha]
    refine Iff.trans (Eq.to_iff (congrArg (· = true) h1)) ?_
    simp

theorem commandFor_mod_words (hu : inUse t = c) {g n : Nat} (hg : 1 ≤ g) (hn : modPosition t g = n) (h1 : 1 ≤ n)
    (hk : c.kind n = .mod) :
    ∃ left right, commandFor t n = [2] ++ left ++ right ∧ ∀ p ∈ [(left, 2 * g - 1), (right, 2 * g)],
      ((t.channel p.2).command.mode = .passThrough → p.1 = [0, 0]) ∧
      ((t.channel p.2).command.mode = .control → (t.channel p.2).command.pressure ≤ 1000 →
        p.1 = beBytes 2 (0x8000 + (t.channel p.2).command.pressure)) := by
  refine ⟨_, _, commandFor_mod (hu ▸ hk) (mods_idxOf hg hn h1), ?_⟩
  simp only [List.forall_mem_cons]
  exact ⟨commandWord_cases _, commandWord_cases _, fun _ hp => (List.not_mem_nil hp).elim⟩

/-! ### The list leaves the part -/

theorem sendCommands_command (u : State) (k : Nat) :
    ((sendCommands u).channel k).command = (u.channel k).command := by
  refine mapChannels_read Channel.command _ (fun n ch => ?_) (u.updChain _) k
  split <;> rfl

theorem sendCommands_commandFor (u : State) (n : Nat) : commandFor (sendCommands u) n = commandFor u n := by
  show (match (inUse u).kind n with
    | .ref => [1#8, BitVec.ofNat 8 (refFlags u)]
    | .mod =>
      let g := (inUse u).mods.idxOf n + 1
      [2#8] ++ beBytes 2 (commandWord ((sendCommands u).channel (2 * g - 1)).command) ++
        beBytes 2 (commandWord ((sendCommands u).channel (2 * g)).command)
    | .none => []) = _
  dsimp only
  rw [sendCommands_command, sendCommands_command]
  rfl

theorem sendCommands_commandBody (u : State) : commandBody (sendCommands u) = commandBody u := by
  have hf : commandFor (sendCommands u) = commandFor u := funext (sendCommands_commandFor u)
  unfold commandBody
  rw [hf]
  rfl

theorem sendCommands_carried (u : State) (h : u.channels.length = 6) {k : Nat} (hk : k ∈ channelNumbers)
    (he : channelExists u k = true) : ((sendCommands u).channel k).carried = (u.channel k).command.mode := by
  have hc := mapChannels_channel_of_six (s := u.updChain fun c => { c with sent := commandList u }) h
    (fun c ch => if channelExists u c then { ch with carried := ch.command.mode } else ch) hk
  have hc' : (sendCommands u).channel k = _ := hc
  rw [hc', if_pos he]
  rfl

theorem sendCommands_length (u : State) : (sendCommands u).channels.length = u.channels.length := List.length_mapIdx

/-- What a session's start makes of the chain (R44). -/
theorem sendCommands_chain (u : State) : (sendCommands (numberSession u)).chain = { u.chain with
    session := (u.chain.session + 1) % 16, outstanding := some ((u.chain.session + 1) % 16),
    sent := (sendCommands (numberSession u)).chain.sent } := rfl

/-- The commands of a session that is bound to the active chain configuration. -/
theorem commandsSent_sendCommands (ha : u.active.chain = c) (hu : inUse u = c) : CommandsSent c (sendCommands u) where
  sent := by
    show commandList u = _
    rw [sendCommands_commandBody]
    rfl
  body := commandBody_eq hu
  ref _ _ _ hk := commandFor_ref_flags (t := sendCommands u) ha hu hk
  mod g hg n hn h1 _ hk := by
    refine commandFor_mod_words (t := sendCommands u) hu ?_ hn h1 hk
    simp only [List.mem_cons, List.not_mem_nil, or_false] at hg
    omega
  carried h6 k hk he := by
    rw [sendCommands_command]
    exact sendCommands_carried u ((sendCommands_length u).symm.trans h6) hk he

theorem CommandsSent.startPeriod (h : CommandsSent c t) : CommandsSent c (startPeriod t) :=
  ⟨h.sent, h.body, h.ref, h.mod, h.carried⟩

/-! ### A session starts -/

/-- From v to t a session has started under a configuration that does not differ (R44). -/
structure Begun (v t : State) : Prop where
  chain    : t.chain = { v.chain with
    bound := some v.active.chain, session := (v.chain.session + 1) % 16,
    outstanding := some ((v.chain.session + 1) % 16), sent := t.chain.sent }
  commands : CommandsSent v.active.chain t
  six      : t.channels.length = v.channels.length
  frame    : SameBut [.chain, .channels] v t

/-- From v to t the chain has been reinitialised and its first session has started (R43, R44, log entry 11). -/
structure BegunAnew (v t : State) : Prop where
  chain    : t.chain = { v.chain with
    bound := some v.active.chain, health := .starting, session := 1, outstanding := some 1, failCount := 0,
    goodCount := 0, lastFailure := .none, nodes := List.replicate 4 Node.start, sent := t.chain.sent }
  wheel    : t.wheel.reference = v.wheel.reference
  commands : CommandsSent v.active.chain t
  six      : t.channels.length = v.channels.length
  frame    : SameBut [.incidents, .portA, .chain, .wheel, .channels, .load, .composer, .stability] v t

theorem begun_sessionStart (h : chainDiffers v = false) : Begun v (sessionStart false v) := by
  have e : sessionStart false v = sendCommands (numberSession (bindChain v)) := by
    unfold sessionStart
    rw [if_neg (by simp [h])]
  rw [e]
  refine ⟨rfl, commandsSent_sendCommands rfl rfl, mapChannels_length _ _, ?_⟩
  exact (same_bindChain v).comp (same_sendCommands _) (by decide) (by decide)

theorem reinitialise_eq (s : State) : reinitialise s = reestablish (reinitialised s) := rfl

theorem same_reinitialise (s : State) :
    SameBut [.incidents, .portA, .chain, .wheel, .channels, .load, .composer, .stability] s (reinitialise s) :=
  (same_reinitialised s).comp (same_reestablish _) (by decide) (by decide)

/-- The chain, the wheel and slip unit and the channels' number before a reinitialisation judges the emergency and the mode. -/
theorem reinitialise_chain (s : State) : (reinitialise s).chain = { s.chain with
    bound := some s.active.chain, health := .starting, session := 0, outstanding := none, failCount := 0, goodCount := 0,
    lastFailure := .none, nodes := List.replicate 4 Node.start } :=
  ((same_reestablish (reinitialised s)).at .chain (by decide)).trans ((same_setEmergency false _).at .chain (by decide))

theorem reinitialised_wheel (s : State) : (reinitialised s).wheel = { s.wheel with stationaryTimer := none } :=
  (same_setEmergency false _).at .wheel (by decide)

theorem reinitialise_wheel (s : State) : (reinitialise s).wheel.reference = s.wheel.reference := by
  have hr : (reinitialise s).wheel = (reinitialised s).wheel := (same_reestablish _).at .wheel (by decide)
  rw [hr, reinitialised_wheel]

theorem enterOff_length (s : State) : (enterOff s).channels.length = s.channels.length := by
  unfold enterOff
  split
  · rfl
  · simp [changeStab, originateStability, dropStabInt, dropStabTest]

theorem testOff_length (s : State) : (testOff s).channels.length = s.channels.length := by
  unfold testOff
  split
  · exact enterOff_length s
  · rfl

theorem reestablish_length (s : State) : (reestablish s).channels.length = s.channels.length := by
  rw [reestablish_eq]
  split
  · exact remoded_length s
  · exact (testOff_length _).trans (remoded_length s)

theorem reinitialise_length (s : State) : (reinitialise s).channels.length = s.channels.length := by
  rw [reinitialise_eq, reestablish_length]
  exact (setEmergency_length _ _).trans ((recompose_length _).trans (mapChannels_length _ _))

theorem begunAnew_sessionStart {b : Bool} (h : b = true ∨ chainDiffers v = true) : BegunAnew v (sessionStart b v) := by
  have e : sessionStart b v = sendCommands (numberSession (reinitialise v)) := by
    unfold sessionStart
    rw [if_pos (by simpa using h)]
  have hc := reinitialise_chain v
  have hactive : (reinitialise v).active = v.active := (same_reinitialise v).at .active (by decide)
  have hframe := (same_reinitialise v).comp (N := [.incidents, .portA, .chain, .wheel, .channels, .load, .composer,
    .stability]) (same_sendCommands _) (by decide) (by decide)
  rw [e]
  refine ⟨?_, ?_, ?_, ?_, hframe⟩
  · refine (sendCommands_chain _).trans ?_
    rw [hc]
    rfl
  · exact reinitialise_wheel v
  · refine commandsSent_sendCommands (congrArg Image.chain hactive) ?_
    show ((reinitialise v).chain.bound.getD (reinitialise v).active.chain) = _
    rw [hc]
    rfl
  · exact (mapChannels_length _ _).trans (reinitialise_length v)

/-! ### The timers -/

theorem elapse_length (r : Nat) (s : State) : (elapse r s).channels.length = s.channels.length := List.length_map _

theorem startPeriod_chain (s : State) :
    (startPeriod s).chain = { s.chain with period := some s.active.chain.period } := rfl

theorem configured_iff (c : ChainRec) : c.configured = true ↔ c.count ≠ 0 := by simp [ChainRec.configured]

/-- The period timer's expiry with no session outstanding: the timer restarts, and a session starts (R44). -/
theorem periodExpired_idle (h : s.chain.outstanding = none) (o : List Block) :
    periodExpired o s = if s.active.chain.configured then sessionStart false (startPeriod s) else startPeriod s := by
  have hn : ¬ (startPeriod s).chain.outstanding.isSome = true := by
    show ¬ s.chain.outstanding.isSome = true
    simp [h]
  unfold periodExpired
  dsimp only
  rw [if_neg hn]
  rfl

/-- The settle timer's expiry in RUN under a configured chain (R59, R182). -/
theorem settleExpired_configured (hr : s.power.state = .run) (hc : s.active.chain.count ≠ 0) : settleExpired s =
    startPeriod (sessionStart false (s.updPower fun p => { p with settle := none })) := by
  unfold settleExpired startChain
  rw [if_pos]
  simpa [State.inRun, hr] using (configured_iff _).mpr hc

theorem settleExpired_idle (h : s.power.state ≠ .run ∨ s.active.chain.count = 0) :
    settleExpired s = s.updPower fun p => { p with settle := none } := by
  unfold settleExpired startChain
  rw [if_neg]
  rcases h with h | h
  · simp [State.inRun, h]
  · simp [ChainRec.configured, h]

/-- Settles O25: both timers start the session of `sessionStart`, the one after the period timer, the other before it. -/
theorem timersStartASession : Obligations.TimersStartASession := by
  unfold Obligations.TimersStartASession
  intro s r o e c n list begun anew
  have six {t : State} (ht : t.channels.length = e.channels.length) (h : s.channels.length = 6) : t.channels.length = 6 :=
    ht.trans ((elapse_length r s).trans h)
  have listed {t : State} (h : CommandsSent c t) (ht : t.channels.length = e.channels.length) : list t :=
    ⟨h.sent, h.body, h.ref, h.mod, fun k hk he h6 => h.carried (six ht h6) k hk he⟩
  constructor
  · intro hp ho
    refine ⟨periodExpired o e, ?_, fun hc => ?_, fun hc hd => ?_, fun hc hd => ?_⟩
    · show Host.Outcome.next (onExpiry s.chain.period (periodExpired o) s) = _
      rw [hp]
      rfl
    · rw [periodExpired_idle ho, if_neg (by simpa [ChainRec.configured] using hc)]
      exact ⟨rfl, same_startPeriod e⟩
    · rw [periodExpired_idle ho, if_pos ((configured_iff _).mpr hc)]
      have hb : Begun (startPeriod e) (sessionStart false (startPeriod e)) := begun_sessionStart hd
      exact ⟨⟨hb.chain, listed hb.commands hb.six⟩, (same_startPeriod e).comp hb.frame (by decide) (by decide)⟩
    · rw [periodExpired_idle ho, if_pos ((configured_iff _).mpr hc)]
      have hb : BegunAnew (startPeriod e) (sessionStart false (startPeriod e)) := begunAnew_sessionStart (.inr hd)
      have hl := listed hb.commands hb.six
      refine ⟨?_, (same_startPeriod e).comp hb.frame (by decide) (by decide)⟩
      generalize sessionStart false (startPeriod e) = t at hb hl
      have hchain := hb.chain
      exact ⟨congrArg Chain.bound hchain, congrArg Chain.period hchain, congrArg Chain.session hchain,
        congrArg Chain.outstanding hchain, congrArg Chain.health hchain, congrArg Chain.nodes hchain,
        congrArg Chain.failCount hchain, congrArg Chain.goodCount hchain, hb.wheel, hl⟩
  · intro hs
    refine ⟨settleExpired e, ?_, ?_, fun h => ?_, fun hr hc hd => ?_, fun hr hc hd => ?_⟩
    · show Host.Outcome.next (onExpiry s.power.settle settleExpired s) = _
      rw [hs]
      rfl
    · by_cases h : e.power.state ≠ .run ∨ c.count = 0
      · rw [settleExpired_idle h]
        rfl
      · obtain ⟨hr, hc⟩ := not_or.mp h
        rw [settleExpired_configured (not_not.mp hr) hc]
        cases hd : chainDiffers e with
        | false => exact (begun_sessionStart (v := e.updPower fun p => { p with settle := none }) hd).frame.at .power (by decide)
        | true =>
          exact (begunAnew_sessionStart (v := e.updPower fun p => { p with settle := none }) (.inr hd)).frame.at .power
            (by decide)
    · rw [settleExpired_idle h]
      exact same_updPower _ e
    · rw [settleExpired_configured hr hc]
      have hb : Begun (e.updPower fun p => { p with settle := none })
          (sessionStart false (e.updPower fun p => { p with settle := none })) := begun_sessionStart hd
      have hl := listed (CommandsSent.startPeriod hb.commands) hb.six
      have hf := ((same_updPower _ e).comp (N := [.chain, .channels, .power]) hb.frame (by decide) (by decide)).comp
        (N := [.chain, .channels, .power]) (same_startPeriod _) (by decide) (by decide)
      have hactive : (sessionStart false (e.updPower fun p => { p with settle := none })).active = e.active :=
        hb.frame.at .active (by decide)
      refine ⟨⟨?_, hl⟩, hf⟩
      generalize sessionStart false (e.updPower fun p => { p with settle := none }) = t at hb hactive
      have hchain := hb.chain
      rw [startPeriod_chain, hactive, hchain]
      rfl
    · rw [settleExpired_configured hr hc]
      have hb : BegunAnew (e.updPower fun p => { p with settle := none })
          (sessionStart false (e.updPower fun p => { p with settle := none })) := begunAnew_sessionStart (.inr hd)
      have hl := listed (CommandsSent.startPeriod hb.commands) hb.six
      have hf := ((same_updPower _ e).comp (N := [.incidents, .portA, .chain, .wheel, .channels, .load, .composer, .stability,
        .power]) hb.frame (by decide) (by decide)).comp
        (N := [.incidents, .portA, .chain, .wheel, .channels, .load, .composer, .stability, .power]) (same_startPeriod _)
        (by decide) (by decide)
      have hactive : (sessionStart false (e.updPower fun p => { p with settle := none })).active = e.active :=
        hb.frame.at .active (by decide)
      refine ⟨?_, hf⟩
      generalize sessionStart false (e.updPower fun p => { p with settle := none }) = t at hb hl hactive
      have hchain := hb.chain
      exact ⟨congrArg Chain.bound hchain, congrArg (fun i : Image => some i.chain.period) hactive,
        congrArg Chain.session hchain, congrArg Chain.outstanding hchain, congrArg Chain.health hchain,
        congrArg Chain.nodes hchain, congrArg Chain.failCount hchain, congrArg Chain.goodCount hchain, hb.wheel, hl⟩

/-! ### A session fails -/

theorem moveFailed_chain (s : State) : (moveFailed s).chain = { s.chain with
    health := if s.chain.health ≠ .faulted ∧ 3 ≤ s.chain.failCount then .faulted else s.chain.health } := by
  unfold moveFailed
  by_cases h : s.chain.health ≠ .faulted ∧ 3 ≤ s.chain.failCount
  · rw [if_pos (by simpa using h), if_pos h, openIncident_chain]
    rfl
  · rw [if_neg (by simpa using h), if_neg h]

/-- With no record fresh a completion reaches no power controller (R177). -/
theorem powerWork_stale (s : State) : powerWork [] s = s := by
  unfold powerWork
  split
  · rfl
  · refine if_neg ?_
    unfold refFresh
    split <;> simp

/-- All that the blocks' work at the completion of a failed session may change. -/
theorem same_complete_stale (b o) (s : State) :
    SameBut [.incidents, .portA, .wheel, .channels, .load, .composer, .stability, .tyre, .mgmt] s (complete [] b o s) := by
  unfold complete
  refine same_foldl _ (fun v k => ?_) _ s
  cases k with
  | wheel => exact (same_wheelWork [] b v).mono (by decide)
  | load => exact (same_loadWork [] v).mono (by decide)
  | composer => exact (same_composerWork [] v).mono (by decide)
  | stability => exact (same_stabilityWork _ v).mono (by decide)
  | power =>
    show SameBut _ v (powerWork [] v)
    rw [powerWork_stale]
    exact .refl _ v

/-- A failed session before its completion: counted, the chain FAULTED at the third, the commands following (R52, R53). -/
def failedSession (x : FailReason) (s : State) : State := recompose (moveFailed (countFailed x s))

theorem failSession_eq (x : FailReason) (o : List Block) (s : State) :
    failSession x o s = complete [] (followers s) o (failedSession x s) := rfl

/-- What a failed session makes of the chain (R52, R53). -/
def Chain.failed (k : Chain) (x : FailReason) : Chain :=
  { k with
    outstanding := none, failCount := satSucc 255 k.failCount, goodCount := 0, failTotal := satSucc 65535 k.failTotal,
    lastFailure := x
    health := if k.health ≠ .faulted ∧ 3 ≤ satSucc 255 k.failCount then .faulted else k.health }

theorem failedSession_chain (x : FailReason) (s : State) : (failedSession x s).chain = s.chain.failed x :=
  moveFailed_chain (countFailed x s)

theorem failSession_chain (x : FailReason) (o : List Block) (s : State) : (failSession x o s).chain = s.chain.failed x :=
  ((same_complete_stale (followers s) o (failedSession x s)).at .chain (by decide)).trans (failedSession_chain x s)

theorem same_failSession (x : FailReason) (o : List Block) (s : State) : SameBut
    [.incidents, .portA, .chain, .wheel, .channels, .load, .composer, .stability, .tyre, .mgmt] s (failSession x o s) :=
  (same_failSession_chain x s).comp (same_complete_stale _ o _) (by decide) (by decide)

/-- The period timer's expiry with a session outstanding: it fails, and the next one starts (R44, R52). -/
theorem periodExpired_outstanding (h : s.chain.outstanding ≠ none) (o : List Block) :
    periodExpired o s = if s.active.chain.configured then sessionStart false (failSession .noResponse o (startPeriod s))
      else failSession .noResponse o (startPeriod s) := by
  have ho : (startPeriod s).chain.outstanding.isSome = true := Option.isSome_iff_ne_none.mpr h
  have hactive : (failSession .noResponse o (startPeriod s)).active = s.active :=
    (same_failSession _ o _).at .active (by decide)
  unfold periodExpired
  dsimp only
  rw [if_pos ho, hactive]

/-- Settles O26: the failed session leaves the binding as it is, so the next session starts without a reinitialisation. -/
theorem periodExpiryFailsTheSession : Obligations.PeriodExpiryFailsTheSession := by
  unfold Obligations.PeriodExpiryFailsTheSession
  intro s r o e hp ho hd
  have hf := (same_startPeriod e).comp (N := [.incidents, .portA, .chain, .wheel, .channels, .load, .composer, .stability,
    .tyre, .mgmt]) (same_failSession .noResponse o (startPeriod e)) (by decide) (by decide)
  have hk := failSession_chain .noResponse o (startPeriod e)
  have heq := periodExpired_outstanding (s := e) ho o
  refine ⟨periodExpired o e, ?_, ?_⟩
  · show Host.Outcome.next (onExpiry s.chain.period (periodExpired o) s) = _
    rw [hp]
    rfl
  rw [heq]
  generalize failSession .noResponse o (startPeriod e) = f at hf hk
  by_cases hc : e.active.chain.count = 0
  · rw [if_neg (by simpa [ChainRec.configured] using hc), if_pos hc, hk]
    exact ⟨rfl, rfl, rfl, rfl, rfl, rfl, rfl, rfl, rfl, hf⟩
  · have hactive : f.active = e.active := hf.at .active (by decide)
    have hdf : chainDiffers f = false := by
      unfold chainDiffers at hd ⊢
      rw [hk, hactive]
      exact hd
    have hb := begun_sessionStart hdf
    rw [if_pos ((configured_iff _).mpr hc), if_neg hc, hb.chain, hk]
    exact ⟨rfl, rfl, rfl, rfl, rfl, rfl, rfl, rfl, rfl, hf.comp hb.frame (by decide) (by decide)⟩

end Sys2Proof.Machine
end

section
/-! PROOFS. The lists that the valve chain returns: their checks and the session a failing one ends (O27), and what a good one
makes of the nodes and the chain (O28). -/

namespace Sys2Proof.Machine

variable {s t u : State} {c : ChainRec}

/-! ### Responses (section 11.3, R186) -/

/-- A response whose kind byte gives its length. -/
def WellFormedResponse (r : List Byte) : Prop := (byteAt r 0 = 1 ∧ r.length = 10) ∨ (byteAt r 0 = 2 ∧ r.length = 12)

theorem responseWidth_cases (k : Byte) :
    (k = 1 ∧ responseWidth k = 10) ∨ (k = 2 ∧ responseWidth k = 12) ∨ responseWidth k = 0 := by
  unfold responseWidth
  by_cases h1 : k = 1#8
  · exact .inl ⟨h1, if_pos h1⟩
  · by_cases h2 : k = 2#8
    · exact .inr (.inl ⟨h2, by rw [if_neg h1, if_pos h2]⟩)
    · exact .inr (.inr (by rw [if_neg h1, if_neg h2]))

theorem WellFormedResponse.width {r : List Byte} (h : WellFormedResponse r) :
    responseWidth (byteAt r 0) = r.length ∧ 10 ≤ r.length := by
  rcases h with ⟨h0, hl⟩ | ⟨h0, hl⟩ <;> rw [h0, hl] <;> decide

theorem byteAt_append {r x : List Byte} (h : 0 < r.length) : byteAt (r ++ x) 0 = byteAt r 0 := by
  unfold byteAt
  rw [List.getD_append _ _ _ _ h]

/-- Well-formed responses before two bytes are found again. -/
theorem splitResponses_flatten {tail : List Byte} (ht : tail.length = 2) :
    ∀ (rs : List (List Byte)) (fuel : Nat), rs.length < fuel → (∀ r ∈ rs, WellFormedResponse r) →
      splitResponses fuel (rs.flatten ++ tail) = some (rs, tail) := by
  intro rs
  induction rs with
  | nil =>
    intro fuel hf _
    obtain ⟨n, rfl⟩ : ∃ n, fuel = n + 1 := ⟨fuel - 1, by simp at hf; omega⟩
    unfold splitResponses
    simp [ht]
  | cons r rs ih =>
    intro fuel hf hwf
    obtain ⟨n, rfl⟩ : ∃ n, fuel = n + 1 := ⟨fuel - 1, by simp at hf; omega⟩
    obtain ⟨hr, hrs⟩ := List.forall_mem_cons.mp hwf
    obtain ⟨hwidth, hten⟩ := hr.width
    have hsplit : (r :: rs).flatten ++ tail = r ++ (rs.flatten ++ tail) := by simp
    have hfirst : byteAt (r ++ (rs.flatten ++ tail)) 0 = byteAt r 0 := byteAt_append (by omega)
    have hlength : (r ++ (rs.flatten ++ tail)).length = r.length + (rs.flatten ++ tail).length := List.length_append
    have htail : 2 ≤ (rs.flatten ++ tail).length := by simp [ht]
    rw [hsplit]
    unfold splitResponses
    dsimp only
    have hlong : ¬ (decide (r.length = 0) || decide ((r ++ (rs.flatten ++ tail)).length < r.length + 2)) = true := by
      simp only [Bool.or_eq_true, decide_eq_true_eq]
      omega
    rw [if_neg (by omega), hfirst, hwidth, if_neg hlong, List.drop_left, List.take_left, ih n (by simpa using hf) hrs]
    rfl

/-- What the split finds is what stands there. -/
theorem of_splitResponses : ∀ (fuel : Nat) (l : List Byte) (rs : List (List Byte)) (tail : List Byte),
    splitResponses fuel l = some (rs, tail) →
      l = rs.flatten ++ tail ∧ tail.length = 2 ∧ ∀ r ∈ rs, WellFormedResponse r := by
  intro fuel
  induction fuel with
  | zero =>
    intro l rs tail h
    exact absurd h (by simp [splitResponses])
  | succ n ih =>
    intro l rs tail h
    unfold splitResponses at h
    dsimp only at h
    split at h
    · next hl =>
      obtain ⟨rfl, rfl⟩ := Prod.mk.inj (Option.some.inj h)
      exact ⟨rfl, hl, fun _ hr => (List.not_mem_nil hr).elim⟩
    · split at h
      · exact absurd h (Option.some_ne_none _).symm
      · next hw =>
        obtain ⟨⟨rs', tail'⟩, hr, he⟩ := Option.map_eq_some_iff.mp h
        obtain ⟨rfl, rfl⟩ := Prod.mk.inj he
        obtain ⟨hflat, htwo, hwf⟩ := ih _ _ _ hr
        simp only [Bool.or_eq_true, decide_eq_true_eq, not_or] at hw
        refine ⟨?_, htwo, List.forall_mem_cons.mpr ⟨?_, hwf⟩⟩
        · rw [List.flatten_cons, List.append_assoc, ← hflat, List.take_append_drop]
        · have hlen : (l.take (responseWidth (byteAt l 0))).length = responseWidth (byteAt l 0) :=
            List.length_take_of_le (by omega)
          have hfirst : byteAt (l.take (responseWidth (byteAt l 0))) 0 = byteAt l 0 := by
            have := byteAt_append (r := l.take (responseWidth (byteAt l 0))) (x := l.drop (responseWidth (byteAt l 0)))
              (by omega)
            rw [← this, List.take_append_drop]
          unfold WellFormedResponse
          rw [hlen, hfirst]
          rcases responseWidth_cases (byteAt l 0) with h1 | h2 | h0
          · exact .inl h1
          · exact .inr h2
          · exact absurd h0 hw.1

theorem flatten_length {rs : List (List Byte)} (h : ∀ r ∈ rs, WellFormedResponse r) : rs.length ≤ rs.flatten.length := by
  induction rs with
  | nil => exact Nat.le_refl _
  | cons r rs ih =>
    obtain ⟨hr, hrs⟩ := List.forall_mem_cons.mp h
    have := ih hrs
    have := hr.width
    simp only [List.length_cons, List.flatten_cons, List.length_append]
    omega

/-! ### The checks of a list (R47) -/

/-- The kinds of a list's responses are those of the positions N down to 1 (R47). -/
def KindsAgree (c : ChainRec) (rs : List (List Byte)) : Prop :=
  ∀ n, 1 ≤ n → n ≤ c.count → (byteAt (rs.getD (c.count - n) []) 0).toNat = (c.kind n).code

theorem mem_positions {n : Nat} : n ∈ c.positions ↔ 1 ≤ n ∧ n ≤ c.count := by
  unfold ChainRec.positions
  simp only [List.mem_map, List.mem_range]
  constructor
  · rintro ⟨a, ha, rfl⟩
    omega
  · exact fun ⟨h1, hn⟩ => ⟨n - 1, by omega, by omega⟩

theorem kindsAgree_iff (rs : List (List Byte)) : KindsAgree c rs ↔
    c.positions.any (fun n => (byteAt (responseAt c.count n rs) 0).toNat ≠ (c.kind n).code) = false := by
  simp only [KindsAgree, List.any_eq_false, mem_positions, decide_not, Bool.not_eq_true', decide_eq_false_iff_not, not_not,
    and_imp]
  rfl

theorem beNat_two (x y : Byte) : beNat [x, y] = x.toNat * 256 + y.toNat := by simp [beNat]

/-- The checks of a list of well-formed responses, in their order (R47). -/
theorem checkList_eq (c : ChainRec) (h x y : Byte) {rs : List (List Byte)} (hwf : ∀ r ∈ rs, WellFormedResponse r) :
    checkList c (h :: rs.flatten ++ [x, y]) =
      if rs.length ≠ c.count then (.count, [])
      else if c.positions.any (fun n => (byteAt (responseAt c.count n rs) 0).toNat ≠ (c.kind n).code) then (.kind, [])
      else if (crc16 (h :: rs.flatten)).toNat ≠ x.toNat * 256 + y.toNat then (.crc, [])
      else (.none, rs) := by
  have hsplit : splitResponses ((h :: rs.flatten ++ [x, y]).length + 1) ((h :: rs.flatten ++ [x, y]).drop 1) =
      some (rs, [x, y]) := by
    have hl := flatten_length hwf
    refine splitResponses_flatten rfl rs _ ?_ hwf
    simp only [List.length_append, List.length_cons]
    omega
  have htake : (h :: rs.flatten ++ [x, y]).take ((h :: rs.flatten ++ [x, y]).length - 2) = h :: rs.flatten :=
    List.take_left' (by simp)
  unfold checkList
  rw [hsplit, htake]
  dsimp only
  rw [beNat_two]

/-- A list that holds another number of responses, or is of another form, fails COUNT (R47). -/
theorem of_checkList_ne_count {l : List Byte} (h : (checkList c l).1 ≠ .count) : ∃ b x y rs,
    l = b :: (rs : List (List Byte)).flatten ++ [x, y] ∧ rs.length = c.count ∧ ∀ r ∈ rs, WellFormedResponse r := by
  unfold checkList at h
  split at h
  · exact absurd rfl h
  · next rs tail hs =>
    obtain ⟨hflat, htwo, hwf⟩ := of_splitResponses _ _ _ _ hs
    obtain ⟨x, y, rfl⟩ := List.length_eq_two.mp htwo
    split at h
    · exact absurd rfl h
    · next hc =>
      cases l with
      | nil => exact absurd (congrArg List.length hflat) (by simp)
      | cons b l => exact ⟨b, x, y, rs, congrArg (b :: ·) hflat, not_not.mp hc, hwf⟩

/-! ### A list is taken (R46) -/

theorem answers_iff (s : State) (l : List Byte) : answers s l = true ↔
    l ≠ [] ∧ (byteAt l 0).toNat / 16 = 0xA ∧ s.chain.outstanding = some ((byteAt l 0).toNat % 16) := by
  unfold answers
  cases ho : s.chain.outstanding with
  | none => simp
  | some n =>
    cases l with
    | nil => simp
    | cons b l =>
      simp only [Bool.and_eq_true, decide_eq_true_eq, byteAt, List.getD_cons_zero, Option.some.injEq, ne_eq,
        List.cons_ne_nil, not_false_eq_true, true_and]
      exact and_congr_right fun _ => eq_comm

theorem listReturned_of_not_answers {l : List Byte} (h : ¬ answers s l = true) (o : List Block) :
    listReturned l o s = s := if_neg h

theorem listReturned_of_failed {l : List Byte} (h : answers s l = true) (hc : (checkList (inUse s) l).1 ≠ .none)
    (o : List Block) : listReturned l o s = failSession (checkList (inUse s) l).1 o s := by
  unfold listReturned
  rw [if_pos h]
  generalize checkList (inUse s) l = k at hc ⊢
  obtain ⟨reason, rs⟩ := k
  cases reason with
  | none => exact absurd rfl hc
  | noResponse | count | kind | crc => rfl

theorem listReturned_of_good {l : List Byte} (h : answers s l = true) (hc : (checkList (inUse s) l).1 = .none)
    (o : List Block) : listReturned l o s = goodSession (checkList (inUse s) l).2 o s := by
  unfold listReturned
  rw [if_pos h]
  generalize checkList (inUse s) l = k at hc ⊢
  obtain ⟨reason, rs⟩ := k
  obtain rfl : reason = .none := hc
  rfl

/-- Settles O27: the checks by the split of the list, the session by the failed session's own lemmas. -/
theorem failedListFailsTheSession : Obligations.FailedListFailsTheSession := by
  unfold Obligations.FailedListFailsTheSession
  refine ⟨?_, fun c l h => of_checkList_ne_count h, fun s l o => ⟨fun h => ?_, fun hl hA hout hc => ?_⟩⟩
  · intro c h x y rs l kindsAgree crcAgrees hwf
    have hk : kindsAgree ↔ _ := kindsAgree_iff rs
    have heq : checkList c l = _ := checkList_eq c h x y hwf
    rw [heq]
    refine ⟨fun hn => ?_, fun hn hnk => ?_, fun hn hka hnc => ?_, fun hn hka hca => ?_⟩
    · rw [if_pos hn]
    · rw [if_neg (not_not.mpr hn), if_pos (by simpa using mt hk.mpr hnk)]
    · rw [if_neg (not_not.mpr hn), if_neg (Bool.eq_false_iff.mp (hk.mp hka)), if_pos hnc]
    · rw [if_neg (not_not.mpr hn), if_neg (Bool.eq_false_iff.mp (hk.mp hka)), if_neg (not_not.mpr hca)]
  · have hn : ¬ answers s l = true := by
      rw [answers_iff]
      rintro ⟨hl, hA, hout⟩
      rcases h with h | h | h | h
      · exact absurd (h.symm.trans hout) (Option.some_ne_none _).symm
      · exact hl h
      · exact h hA
      · exact h hout
    exact congrArg Host.Outcome.next (listReturned_of_not_answers hn o)
  · have ha : answers s l = true := (answers_iff s l).mpr ⟨hl, hA, hout⟩
    refine ⟨_, congrArg Host.Outcome.next (listReturned_of_failed ha hc o), failSession_chain _ o s, ?_, same_failSession _ o s⟩
    refine ⟨failedSession (checkList (inUse s) l).1 s, same_failSession_chain _ s, ?_, rfl⟩
    exact (failedSession_chain _ s).trans (failSession_chain _ o s).symm

/-! ### The order of the blocks (R56) -/

theorem eraseDups_nodup {α : Type} [BEq α] [LawfulBEq α] : ∀ (n : Nat) (l : List α), l.length ≤ n → l.eraseDups.Nodup := by
  intro n
  induction n with
  | zero =>
    intro l hl
    rw [List.length_eq_zero_iff.mp (Nat.le_zero.mp hl)]
    exact List.nodup_nil
  | succ n ih =>
    intro l hl
    cases l with
    | nil => exact List.nodup_nil
    | cons a l =>
      rw [List.eraseDups_cons]
      refine List.nodup_cons.mpr ⟨by simp [List.mem_eraseDups], ih _ ?_⟩
      exact (List.length_filter_le _ _).trans (Nat.succ_le_succ_iff.mp hl)

theorem eraseDups_of_nodup {α : Type} [BEq α] [LawfulBEq α] {l : List α} (h : l.Nodup) : l.eraseDups = l := by
  induction l with
  | nil => rfl
  | cons a l ih =>
    obtain ⟨ha, hl⟩ := List.nodup_cons.mp h
    have hf : l.filter (fun b => !b == a) = l :=
      List.filter_eq_self.mpr fun b hb => by simpa using fun e : b = a => ha (e ▸ hb)
    rw [List.eraseDups_cons, hf, ih hl]

theorem mem_blockOrder (o : List Block) (b : Block) : b ∈ blockOrder o := by
  unfold blockOrder
  rw [List.mem_eraseDups]
  refine List.mem_append_right _ ?_
  cases b <;> decide

theorem blockOrder_nodup (o : List Block) : (blockOrder o).Nodup := eraseDups_nodup _ _ (Nat.le_refl _)

/-- A well-formed order is the order of the blocks (R56). -/
theorem blockOrder_of_wf {o : List Block} (h : orderWf o = true) : blockOrder o = o := by
  simp only [orderWf, Bool.and_eq_true, decide_eq_true_eq, List.all_eq_true] at h
  obtain ⟨hlength, hall⟩ := h
  have hsub : [Block.wheel, .load, .composer, .stability, .power] ⊆ o := fun b hb => hall b hb
  have hperm : ([Block.wheel, .load, .composer, .stability, .power] : List Block).Perm o :=
    (List.subperm_of_subset (by decide) hsub).perm_of_length_le (by rw [hlength]; rfl)
  have hrest : [Block.wheel, .load, .composer, .stability, .power].removeAll o = [] := by
    refine List.filter_eq_nil_iff.mpr fun b hb => ?_
    simpa using hall b hb
  unfold blockOrder
  rw [List.eraseDups_append, hrest, eraseDups_of_nodup (hperm.nodup_iff.mp (by decide))]
  exact List.append_nil o

/-! ### The nodes at a good list (R48 to R51) -/

theorem node_congr (h : t.chain = s.chain) (n : Nat) : t.node n = s.node n := by
  unfold State.node
  rw [h]

theorem nodeIncident_chain (n : Nat) (a b : Bool) (s : State) : (nodeIncident n a b s).chain = s.chain :=
  (same_nodeIncident n a b s).at .chain (by decide)

/-- A node rewritten at a position in use, of which there are no more than four. -/
theorem updNode_node_of_four (h : s.chain.nodes.length = 4) {p n : Nat} (hp : 1 ≤ p) (hn : 1 ≤ n) (hn4 : n ≤ 4)
    (f : Node → Node) : (updNode p f s).node n = if n = p then f (s.node n) else s.node n := by
  by_cases hp4 : p ≤ 4
  · exact updNode_node p n f s hp (by omega) hn
  · have hm : s.chain.nodes.modify (p - 1) f = s.chain.nodes := List.modify_eq_self (by omega)
    rw [if_neg (by omega)]
    show (s.chain.nodes.modify (p - 1) f).getD (n - 1) .start = _
    rw [hm]
    rfl

theorem applyResponse_chain (p : Nat) (r : Response) (s : State) : (applyResponse p r s).chain = { s.chain with
    nodes := s.chain.nodes.modify (p - 1) fun _ => nextNode s.time r (s.node p) } :=
  nodeIncident_chain _ _ _ _

theorem applyResponse_time (p : Nat) (r : Response) (s : State) : (applyResponse p r s).time = s.time :=
  (same_nodeIncident _ _ _ _).at .time (by decide)

theorem applyResponse_node (h : s.chain.nodes.length = 4) {p n : Nat} (hp : 1 ≤ p) (hn : 1 ≤ n) (hn4 : n ≤ 4)
    (r : Response) : (applyResponse p r s).node n = if n = p then nextNode s.time r (s.node n) else s.node n := by
  have hu : (applyResponse p r s).node n = (updNode p (fun _ => nextNode s.time r (s.node p)) s).node n :=
    node_congr (nodeIncident_chain _ _ _ _) n
  rw [hu, updNode_node_of_four h hp hn hn4]
  by_cases e : n = p
  · rw [if_pos e, if_pos e, e]
  · rw [if_neg e, if_neg e]

/-- From s to t the nodes at some positions have taken their responses, and nothing else of the chain has changed (R48). -/
structure TookResponses (resp : Nat → Response) (l : List Nat) (s t : State) : Prop where
  chain : t.chain = { s.chain with nodes := t.chain.nodes }
  four  : t.chain.nodes.length = 4
  nodes : ∀ n, 1 ≤ n → n ≤ 4 → t.node n = if n ∈ l then nextNode s.time (resp n) (s.node n) else s.node n

theorem tookResponses_foldl (resp : Nat → Response) : ∀ (l : List Nat) (s : State), l.Nodup → (∀ p ∈ l, 1 ≤ p) →
    s.chain.nodes.length = 4 → TookResponses resp l s (l.foldl (fun t p => applyResponse p (resp p) t) s) := by
  intro l
  induction l with
  | nil => exact fun s _ _ h => ⟨rfl, h, fun _ _ _ => rfl⟩
  | cons p l ih =>
    intro s hnodup hpos h
    obtain ⟨hp, hl⟩ := List.nodup_cons.mp hnodup
    obtain ⟨hp1, hl1⟩ := List.forall_mem_cons.mp hpos
    have hfour : (applyResponse p (resp p) s).chain.nodes.length = 4 := by
      rw [applyResponse_chain]
      exact (List.length_modify _ _ _).trans h
    have hrest := ih (applyResponse p (resp p) s) hl hl1 hfour
    refine ⟨?_, hrest.four, fun n hn hn4 => ?_⟩
    · have hc := hrest.chain
      rw [applyResponse_chain] at hc
      exact hc
    · rw [List.foldl_cons, hrest.nodes n hn hn4, applyResponse_time, applyResponse_node h hp1 hn hn4]
      by_cases e : n = p
      · subst e
        rw [if_neg hp, if_pos rfl, if_pos (List.mem_cons_self ..)]
      · simp [e]

theorem moveGood_chain (s : State) : (moveGood s).chain = { s.chain with
    health := if s.chain.health = .faulted ∧ s.chain.goodCount < 10 then .faulted else .running } := by
  unfold moveGood
  cases h : s.chain.health with
  | starting => simp
  | running =>
    simp only [reduceCtorEq, false_and, if_false]
    rw [← h]
  | faulted =>
    simp only [true_and]
    by_cases hg : 10 ≤ s.chain.goodCount
    · rw [if_pos hg, if_neg (by omega)]
      rfl
    · rw [if_neg hg, if_pos (by omega), ← h]

/-- A good session before its completion: the nodes, the counts, the chain state, the commands following (R48, R53). -/
def passedSession (rs : List (List Byte)) (s : State) : State := recompose (moveGood (countGood (applyResponses rs s)))

theorem goodSession_eq (rs : List (List Byte)) (o : List Block) (s : State) :
    goodSession rs o s = complete (freshPositions (inUse s) rs) (followers s) o (passedSession rs s) := rfl

theorem tookResponses_applyResponses (h : s.chain.nodes.length = 4) (rs : List (List Byte)) :
    TookResponses (responseFor (inUse s) rs) (inUse s).positions s (applyResponses rs s) :=
  tookResponses_foldl _ _ s (positions_nodup _) (fun _ hp => (mem_positions.mp hp).1) h

theorem passedSession_chain (h : s.chain.nodes.length = 4) (rs : List (List Byte)) :
    (passedSession rs s).chain = { s.chain with
      outstanding := none, failCount := 0, goodCount := satSucc 255 s.chain.goodCount,
      goodTotal := satSucc 65535 s.chain.goodTotal, nodes := (applyResponses rs s).chain.nodes,
      health := if s.chain.health = .faulted ∧ satSucc 255 s.chain.goodCount < 10 then .faulted else .running } := by
  have hcounted : (countGood (applyResponses rs s)).chain = { (applyResponses rs s).chain with
      outstanding := none, failCount := 0, goodCount := satSucc 255 (applyResponses rs s).chain.goodCount,
      goodTotal := satSucc 65535 (applyResponses rs s).chain.goodTotal } := rfl
  refine (moveGood_chain (countGood (applyResponses rs s))).trans ?_
  rw [hcounted, (tookResponses_applyResponses h rs).chain]

theorem passedSession_node (h : s.chain.nodes.length = 4) (rs : List (List Byte)) {n : Nat} (hn : 1 ≤ n) (hn4 : n ≤ 4) :
    (passedSession rs s).node n =
      if n ≤ (inUse s).count then nextNode s.time (responseFor (inUse s) rs n) (s.node n) else s.node n := by
  have hnode : (passedSession rs s).node n = (applyResponses rs s).node n := by
    unfold State.node
    rw [passedSession_chain h]
  rw [hnode, (tookResponses_applyResponses h rs).nodes n hn hn4]
  simp only [mem_positions, hn, true_and]

/-- A response without stale and fault flags restores its node (R49). -/
theorem nextNode_of_updates {r : Response} (now : Time) (n : Node) (h1 : r.stale = false) (h2 : r.solenoid = false)
    (h3 : r.sensor = false) : nextNode now r n =
      { degraded := false, stale := 0, solenoid := false, sensor := false,
        record := some { values := r.values, time := now } } := by
  simp [nextNode, Response.updates, Response.faulted, h1, h2, h3]

/-- Any other response holds the record, and degrades its node at a fault or at the fifth stale one (R50, R51). -/
theorem nextNode_of_held {r : Response} (now : Time) (n : Node) (h : r.stale = true ∨ r.solenoid = true ∨ r.sensor = true) :
    nextNode now r n =
      { degraded := n.degraded || r.solenoid || r.sensor || decide (5 ≤ if r.stale then satSucc 255 n.stale else 0),
        stale := if r.stale then satSucc 255 n.stale else 0,
        solenoid := r.solenoid, sensor := r.sensor, record := n.record } := by
  have hu : r.updates = false := by
    unfold Response.updates Response.faulted
    rcases h with h | h | h <;> simp [h]
  unfold nextNode
  simp [hu, Response.faulted, Bool.or_assoc]

theorem freshPositions_eq (c : ChainRec) (rs : List (List Byte)) : freshPositions c rs =
    ((List.range c.count).map (· + 1)).filter fun n =>
      !(responseFor c rs n).stale && !(responseFor c rs n).solenoid && !(responseFor c rs n).sensor := by
  refine List.filter_congr fun n _ => ?_
  unfold Response.updates Response.faulted
  rw [Bool.not_or, Bool.and_assoc]

/-- Settles O28: the nodes position by position, the chain by the session's own lemmas, and then the completion. -/
theorem goodListUpdatesTheNodes : Obligations.GoodListUpdatesTheNodes := by
  unfold Obligations.GoodListUpdatesTheNodes
  intro s l o rs fresh
  refine ⟨mem_blockOrder o, blockOrder_nodup o, blockOrder_of_wf, fun hl hA hout hc h4 => ?_⟩
  have ha : answers s l = true := (answers_iff s l).mpr ⟨hl, hA, hout⟩
  have hk : (goodSession rs o s).chain = (passedSession rs s).chain :=
    (same_complete _ _ o _).at .chain (by decide)
  have hfresh : freshPositions (inUse s) rs = fresh := freshPositions_eq _ _
  refine ⟨_, congrArg Host.Outcome.next (listReturned_of_good ha hc o), ?_, fun n hn => ?_, ?_, ?_⟩
  · have hp := hk.trans (passedSession_chain h4 rs)
    have hnodes : (goodSession rs o s).chain.nodes = (applyResponses rs s).chain.nodes := by rw [hp]
    rw [← hnodes] at hp
    exact hp
  · have hn' : 1 ≤ n ∧ n ≤ 4 := by
      simp only [List.mem_cons, List.not_mem_nil, or_false] at hn
      omega
    have hnode : (goodSession rs o s).node n = _ := (node_congr hk n).trans (passedSession_node h4 rs hn'.1 hn'.2)
    refine ⟨fun h => ?_, fun h h1 h2 h3 => ?_, fun h hf => ?_⟩
    · exact hnode.trans (if_neg h)
    · exact hnode.trans ((if_pos h).trans (nextNode_of_updates _ _ h1 h2 h3))
    · exact hnode.trans ((if_pos h).trans (nextNode_of_held _ _ hf))
  · refine ⟨passedSession rs s, same_goodSession_chain rs s, hk.symm, ?_⟩
    rw [← hfresh]
    rfl
  · exact (same_goodSession_chain rs s).comp (same_complete _ _ o _) (by decide) (by decide)

end Sys2Proof.Machine
end

section
/-! PROOFS. A link-power-on event (O58). -/

namespace Sys2Proof.Machine

variable {s t u : State} {L : List Part}

/-- An emergency flag takes its value (R107). -/
theorem setEmergency_composer (b : Bool) (s : State) :
    (setEmergency b s).composer = { s.composer with emergency := b } := by
  unfold setEmergency
  split
  · next h => rw [← h]
  · cases b <;> simp

/-- The brake mode of a chain that is not RUNNING (R102). -/
theorem brakeMode_of_stopped (h : s.chain.health ≠ .running) : brakeMode s = .fallback := by
  unfold brakeMode chainRunning
  rw [if_pos (by simp [h])]

theorem reasonInRun_cases (r : FailReason) : reasonInRun r = .none ∨ reasonInRun r = r := by
  unfold reasonInRun
  cases r with
  | none => exact .inl rfl
  | noResponse | count | kind | crc =>
    dsimp only
    split
    · exact .inr rfl
    · exact .inl rfl

/-- The chain as RUN is entered (R59, R61). -/
def Chain.inRun (k : Chain) : Chain :=
  { k with
    health := .starting, session := 0, outstanding := none, failCount := 0, goodCount := 0,
    lastFailure := reasonInRun k.lastFailure, nodes := List.replicate 4 Node.start }

/-- The power controller as RUN is entered under an image (R182). -/
def Power.inRun (p : Power) (img : Image) : Power :=
  { p with
    state := .run, lockout := false, park := none, wake := none, listen := none, sample := some (p.sample.getD 1000),
    settle := some img.tuning.settle }

/-- Entering RUN with no swap waiting: the power controller, the chain and the composer; the tyre unit stays (R59, R182). -/
theorem enterRun_effects (h : s.unapplied = none) :
    (enterRun s).power = s.power.inRun s.active ∧ (enterRun s).chain = s.chain.inRun ∧
      (enterRun s).composer.mode = .fallback ∧ (enterRun s).composer.emergency = false ∧
      SameBut [.incidents, .portA, .chain, .channels, .load, .composer, .stability, .power] s (enterRun s) := by
  have he : enterRun s = reestablish (setEmergency false (chainEntersRun (runPower s))) := by
    unfold enterRun
    rw [applyHeld_none s h]
  have hk : (setEmergency false (chainEntersRun (runPower s))).chain = s.chain.inRun :=
    (same_setEmergency false _).at .chain (by decide)
  have hc := reestablish_composer (setEmergency false (chainEntersRun (runPower s)))
  have hp : SameBut [.chain, .power] s (chainEntersRun (runPower s)) :=
    (same_updPower _ s).comp ((same_chainReset _).trans (same_updChain _ _)) (by decide) (by decide)
  have hs : SameBut [.incidents, .channels, .chain, .load, .composer, .power] s
      (setEmergency false (chainEntersRun (runPower s))) := hp.comp (same_setEmergency false _) (by decide) (by decide)
  rw [he]
  refine ⟨?_, ?_, ?_, ?_, hs.comp (same_reestablish _) (by decide) (by decide)⟩
  · exact ((same_reestablish _).at .power (by decide)).trans ((same_setEmergency false _).at .power (by decide))
  · exact ((same_reestablish _).at .chain (by decide)).trans hk
  · rw [hc]
    exact brakeMode_of_stopped (by rw [hk]; exact ChainHealth.noConfusion)
  · rw [hc, setEmergency_composer]

theorem powerOn_of_run (h : s.power.state = .run) : powerOn s = s.updPower fun p => { p with linkPower := true } := by
  unfold powerOn
  dsimp only
  exact if_pos (by simp [State.inRun, h])

/-- The state in which RUN is entered at a link-power-on event. -/
def relinked (s : State) : State := s.updPower fun p => { p with linkPower := true }

theorem powerOn_of_parkWatch (h : s.power.state = .parkWatch) : powerOn s = enterRun (relinked s) := by
  unfold powerOn
  dsimp only
  rw [if_neg (by simp [State.inRun, h]), if_neg (by simp [h])]
  rfl

theorem powerOn_of_sleep (h : s.power.state = .sleep) : powerOn s = tyreWake (enterRun (relinked s)) := by
  unfold powerOn
  dsimp only
  rw [if_neg (by simp [State.inRun, h]), if_pos (by simp [h])]
  rfl

/-- On leaving SLEEP the missing timer of every assigned position that is not MISSING starts (R152). -/
theorem tyreWake_missing {i : Nat} (hi : i < s.tyre.positions.length) (ha : (s.active.tyre i).assigned = true)
    (hm : (s.position i).state ≠ .missing) :
    ((tyreWake s).position i).missing = some (s.active.tuning.missing * 60000) := by
  have hpositions : (tyreWake s).tyre.positions = s.tyre.positions.mapIdx fun i q =>
      if (s.active.tyre i).assigned && q.state ≠ .missing then { q with missing := some (missingTimeout s.active) } else q := by
    unfold tyreWake driveLamp
    dsimp only
    split <;> rfl
  unfold State.position at hm ⊢
  rw [List.getD_eq_getElem _ _ hi] at hm
  rw [hpositions, List.getD_eq_getElem _ _ (by simpa using hi), List.getElem_mapIdx, if_pos (by simp [ha, hm])]
  rfl

/-- What a link-power-on event out of RUN has made of the part before the tyre unit wakes (R59, R182). -/
structure PoweredOn (s t : State) : Prop where
  power     : t.power = (relinked s).power.inRun s.active
  chain     : t.chain = s.chain.inRun
  mode      : t.composer.mode = .fallback
  emergency : t.composer.emergency = false

theorem poweredOn_enterRun (h : s.unapplied = none) : PoweredOn s (enterRun (relinked s)) := by
  obtain ⟨hp, hk, hm, he, _⟩ := enterRun_effects (s := relinked s) h
  exact ⟨hp, hk, hm, he⟩

theorem same_enterRun_relinked (h : s.unapplied = none) :
    SameBut [.incidents, .portA, .chain, .channels, .load, .composer, .stability, .power] s (enterRun (relinked s)) := by
  obtain ⟨_, _, _, _, hs⟩ := enterRun_effects (s := relinked s) h
  exact (same_updPower _ s).comp hs (by decide) (by decide)

theorem PoweredOn.tyreWake (h : PoweredOn s t) : PoweredOn s (tyreWake t) := by
  have g := same_tyreWake t
  have hc := g.at .composer (by decide)
  exact ⟨(g.at .power (by decide)).trans h.power, (g.at .chain (by decide)).trans h.chain,
    (congrArg Composer.mode hc).trans h.mode, (congrArg Composer.emergency hc).trans h.emergency⟩

/-- Out of RUN the event enters RUN, and from SLEEP the tyre unit wakes after it (R152, R182). -/
theorem powerOn_effects (hr : s.power.state ≠ .run) (hu : s.unapplied = none) : PoweredOn s (powerOn s) ∧
    (s.power.state = .sleep → s.tyre.positions.length = 16 → ∀ i ∈ List.range 16, (s.active.tyre i).assigned = true →
      (s.position i).state ≠ .missing → ((powerOn s).position i).missing = some (s.active.tuning.missing * 60000)) ∧
    (s.power.state = .parkWatch → (powerOn s).tyre = s.tyre) ∧
    SameBut [.incidents, .portA, .chain, .channels, .load, .composer, .stability, .tyre, .power] s (powerOn s) := by
  have hrun := poweredOn_enterRun hu
  have hsame := same_enterRun_relinked hu
  have htyre : (enterRun (relinked s)).tyre = s.tyre := hsame.at .tyre (by decide)
  have hactive : (enterRun (relinked s)).active = s.active := hsame.at .active (by decide)
  cases hs : s.power.state with
  | run => exact absurd hs hr
  | parkWatch =>
    rw [powerOn_of_parkWatch hs]
    exact ⟨hrun, fun h => PowerState.noConfusion h, fun _ => htyre, hsame.mono (by decide)⟩
  | sleep =>
    rw [powerOn_of_sleep hs]
    refine ⟨hrun.tyreWake, fun _ h16 i hi ha hm => ?_, fun h => PowerState.noConfusion h,
      hsame.comp (same_tyreWake _) (by decide) (by decide)⟩
    have hi' : i < (enterRun (relinked s)).tyre.positions.length := by
      rw [htyre, h16]
      exact List.mem_range.mp hi
    have hm' : ((enterRun (relinked s)).position i).state ≠ .missing := by rwa [position_congr htyre]
    rw [tyreWake_missing hi' (by rwa [hactive]) hm', hactive]

/-- Settles O58: in RUN the event is recorded, and out of RUN RUN is entered. -/
theorem linkPowerOnEntersRun : Obligations.LinkPowerOnEntersRun := by
  unfold Obligations.LinkPowerOnEntersRun
  intro s
  refine ⟨fun hr => ⟨_, congrArg Host.Outcome.next (powerOn_of_run hr), rfl, same_updPower _ s⟩, fun hr hu => ?_⟩
  obtain ⟨⟨hp, hk, hmode, hemergency⟩, htimers, hpark, hframe⟩ := powerOn_effects hr hu
  exact ⟨powerOn s, rfl, congrArg Power.state hp, congrArg Power.linkPower hp, congrArg Power.lockout hp,
    congrArg Power.settle hp, congrArg Power.park hp, congrArg Power.wake hp, congrArg Power.listen hp,
    congrArg Power.sample hp, (congrArg Power.voltage hp).trans rfl, (congrArg Power.low hp).trans rfl, congrArg Chain.health hk,
    congrArg Chain.session hk, congrArg Chain.outstanding hk, congrArg Chain.nodes hk, (congrArg Chain.goodTotal hk).trans rfl,
    (congrArg Chain.failTotal hk).trans rfl, hk ▸ reasonInRun_cases _, hmode, hemergency, htimers, hpark, hframe⟩

end Sys2Proof.Machine
end

section
/-! PROOFS. What a recomposition leaves in the load unit and a re-establishment in the composer (R86 to R91, R101, R102), and
what keeps it so. -/

namespace Sys2Proof.Machine

variable {s t u : State} {L : List Part}

/-! ### The load unit -/

theorem characteristic_of_zero {r : GroupRec} {lam d : Nat} (h : d = 0 ∨ min 1000 d < r.d0) :
    characteristic r lam d = 0 := by
  unfold characteristic
  dsimp only
  refine if_pos ?_
  simp only [Bool.or_eq_true, decide_eq_true_eq]
  exact h.imp (fun h0 => by rw [h0]; rfl) id

theorem characteristic_of_demand {r : GroupRec} {lam d : Nat} (h0 : d ≠ 0) (hd : r.d0 ≤ min 1000 d) :
    characteristic r lam d = min r.pMax
      (emptyPressure r d + (lam * (ladenPressure r d - emptyPressure r d) + 512) / 1024) := by
  unfold characteristic
  dsimp only
  refine if_neg ?_
  simp only [Bool.or_eq_true, decide_eq_true_eq, not_or]
  omega

/-- A group that is computed from its inputs follows them (R86 to R90). -/
theorem groupFollows_of_now {g : Nat} (h : t.group g = groupNow s g) (he : groupExists s g = true)
    (hactive : t.active = s.active) (heffective : t.composer.effective = s.composer.effective) : GroupFollows t g := by
  have hg : t.group g = {
      pf := (s.group g).pf, lam := loadRatio (s.active.group g) (s.group g).pf
      load := groupLoad (s.active.group g) (loadRatio (s.active.group g) (s.group g).pf)
      target := characteristic (s.active.group g) (loadRatio (s.active.group g) (s.group g).pf) s.composer.effective } :=
    h.trans (if_pos he)
  constructor
  case absent =>
    rw [hg]
    exact fun (hp : (s.group g).pf = none) => by rw [hp]; rfl
  case empty =>
    rw [hg, hactive]
    intro p (hp : (s.group g).pf = some p) hle
    rw [hp]
    exact if_pos hle
  case ratio =>
    rw [hg, hactive]
    intro p (hp : (s.group g).pf = some p) hlt
    rw [hp]
    exact if_neg (by omega)
  case load =>
    rw [hg, hactive]
    rfl
  case none =>
    rw [hg, hactive, heffective]
    exact characteristic_of_zero
  case target =>
    rw [hg, hactive, heffective]
    exact characteristic_of_demand

theorem GroupFollows.of_inputs {g : Nat} (h : GroupFollows s g) (hg : t.group g = s.group g) (hactive : t.active = s.active)
    (heffective : t.composer.effective = s.composer.effective) : GroupFollows t g where
  absent := by rw [hg]; exact h.absent
  empty := by rw [hg, hactive]; exact h.empty
  ratio := by rw [hg, hactive]; exact h.ratio
  load := by rw [hg, hactive]; exact h.load
  none := by rw [hg, hactive, heffective]; exact h.none
  target := by rw [hg, hactive, heffective]; exact h.target

theorem channelCommands_driver (s : State) (c : Nat) (ch : Channel) :
    (channelCommands s c ch).driver = ch.driver ∧ (channelCommands s c ch).driverValue = ch.driverValue := by
  rw [channelCommands_eq]
  unfold channelTargeted
  dsimp only
  split <;> exact ⟨rfl, rfl⟩

/-- The load unit's values follow their inputs after a recomposition (R86 to R91). -/
theorem loadFollows_recompose (h : s.channels.length = 6) : LoadFollows (recompose s) where
  three := by simp [recompose, loadNow]
  six := (recompose_length s).trans h
  groups _ g hg he := by
    have hg' : 1 ≤ g ∧ g ≤ 3 := by
      simp only [List.mem_cons, List.not_mem_nil, or_false] at hg
      omega
    exact groupFollows_of_now (recompose_group s hg'.1 hg'.2) he rfl rfl
  absent _ g hg he := by
    have hg' : 1 ≤ g ∧ g ≤ 3 := by
      simp only [List.mem_cons, List.not_mem_nil, or_false] at hg
      omega
    have he' : groupExists s g = false := he
    rw [recompose_group s hg'.1 hg'.2]
    exact if_neg (by simp [he'])
  total := by
    rw [recompose_group s (g := 1) (by decide) (by decide), recompose_group s (g := 2) (by decide) (by decide),
      recompose_group s (g := 3) (by decide) (by decide)]
    show min 65535 (((List.range 3).map fun i => groupNow s (i + 1)).map (·.load)).sum = _
    simp [List.range_succ, Nat.add_assoc]
  driver _ c hc he := by
    have hlive : channelExists (s.updLoad fun _ => loadNow s) c = true := he
    have hch := recompose_channel_of_six h hc
    unfold channelNow at hch
    rw [if_pos hlive] at hch
    obtain ⟨hdriver, hvalue⟩ := channelCommands_driver (s.updLoad fun _ => loadNow s) c
      (channelValues (s.updLoad fun _ => loadNow s) c (s.channel c))
    rw [← hch] at hdriver hvalue
    exact ⟨hvalue, by rw [hdriver, hvalue]; rfl⟩

/-- What leaves the load unit's values and their inputs alone keeps them following. -/
theorem LoadFollows.of_inputs (h : LoadFollows s) (hload : t.load = s.load) (hactive : t.active = s.active)
    (heffective : t.composer.effective = s.composer.effective) (htyre : t.tyre = s.tyre) (hswap : t.unapplied = s.unapplied)
    (live : ∀ g, groupExists t g = groupExists s g) (six : t.channels.length = s.channels.length)
    (driver : ∀ c, (t.channel c).driver = (s.channel c).driver ∧ (t.channel c).driverValue = (s.channel c).driverValue) :
    LoadFollows t := by
  have hgroup : ∀ g, t.group g = s.group g := group_congr hload
  have hseverity : ∀ c, channelSeverity t c = channelSeverity s c := by
    intro c
    unfold channelSeverity worstOf judged mapsTo State.position
    rw [hactive, htyre]
  constructor
  case three => rw [hload]; exact h.three
  case six => exact six.trans h.six
  case groups =>
    intro hu g hg he
    exact (h.groups (hswap ▸ hu) g hg ((live g).symm.trans he)).of_inputs (hgroup g) hactive heffective
  case absent =>
    intro hu g hg he
    rw [hgroup]
    exact h.absent (hswap ▸ hu) g hg ((live g).symm.trans he)
  case total => rw [hload, hgroup, hgroup, hgroup]; exact h.total
  case driver =>
    intro hu c hc he
    obtain ⟨hvalue, hrequest⟩ := h.driver (hswap ▸ hu) c hc ((live _).symm.trans he)
    obtain ⟨hd, hv⟩ := driver c
    exact ⟨by rw [hv, hgroup, hactive, hseverity]; exact hvalue, by rw [hd, hv]; exact hrequest⟩

theorem groupExists_congr (ha : t.active = s.active) (hc : t.chain = s.chain) (g : Nat) : groupExists t g = groupExists s g := by
  unfold groupExists groupCount
  rw [inUse_congr ha hc]

/-! ### The brake mode -/

theorem brakeMode_congr (hpower : t.power = s.power) (hchain : t.chain = s.chain) (hactive : t.active = s.active)
    (hinvalid : t.configInvalid = s.configInvalid) (htimer : t.composer.timer = s.composer.timer) :
    brakeMode t = brakeMode s := by
  have hnode : t.node = s.node := funext fun n => node_congr hchain n
  have hu := inUse_congr hactive hchain
  unfold brakeMode refNormal refRecord refNode State.inRun chainRunning demandFresh
  rw [hpower, hchain, hinvalid, htimer, hnode, hu]

theorem effectiveDemand_congr (hchain : t.chain = s.chain) (hactive : t.active = s.active)
    (hdemand : t.composer.demand = s.composer.demand) (htimer : t.composer.timer = s.composer.timer) :
    effectiveDemand t = effectiveDemand s := by
  unfold effectiveDemand electronicDemand demandFresh
  rw [controlDemand_congr hactive hchain, hdemand, htimer]

theorem braking_iff (s : State) : braking s ↔ (s.inRun && chainRunning s && !s.configInvalid) = true := by
  simp [braking, State.inRun, chainRunning, and_assoc]

theorem refServes_iff (s : State) : refServes s ↔ (refNormal s && (refRecord s).isSome) = true := by simp [refServes]

/-- The composer holds what R101 and R102 give. -/
structure Established (t : State) : Prop where
  mode      : t.composer.mode = brakeMode t
  effective : t.composer.effective = effectiveDemand t

/-- The mode and the effective demand that the rules give follow their inputs (R101, R102). -/
theorem Established.modeFollows (h : Established t) : ModeFollows t where
  electronic _ := by
    rw [h.mode, braking_iff, brakeMode, demandFresh]
    cases (t.inRun && chainRunning t && !t.configInvalid) <;> cases t.composer.timer <;>
      cases (refNormal t && (refRecord t).isSome) <;> simp
  backup _ := by
    rw [h.mode, braking_iff, refServes_iff, brakeMode, demandFresh]
    cases (t.inRun && chainRunning t && !t.configInvalid) <;> cases t.composer.timer <;>
      cases (refNormal t && (refRecord t).isSome) <;> simp
  effective _ := h.effective

/-- The parts that the composer's mode and demand are functions of. -/
def modeParts : List Part := [.power, .chain, .active, .configInvalid, .composer]

theorem Established.frame (h : Established s) (g : SameBut L s t) (d : ∀ p ∈ modeParts, p ∉ L) : Established t := by
  have hp := g.at .power (d _ (by decide))
  have hk := g.at .chain (d _ (by decide))
  have ha := g.at .active (d _ (by decide))
  have hi := g.at .configInvalid (d _ (by decide))
  have hc : t.composer = s.composer := g.at .composer (d _ (by decide))
  constructor
  · rw [brakeMode_congr hp hk ha hi (by rw [hc]), hc]
    exact h.mode
  · rw [effectiveDemand_congr hk ha (by rw [hc]) (by rw [hc]), hc]
    exact h.effective

theorem established_reestablish (s : State) : Established (reestablish s) := by
  have g := same_reestablish s
  have hp := g.at .power (by decide)
  have hk := g.at .chain (by decide)
  have ha := g.at .active (by decide)
  have hi := g.at .configInvalid (by decide)
  have hc := reestablish_composer s
  constructor
  · rw [brakeMode_congr hp hk ha hi (by rw [hc]), hc]
  · rw [effectiveDemand_congr hk ha (by rw [hc]) (by rw [hc]), hc]

/-! ### All that follows -/

/-- Channels, loads and brake mode follow their inputs. -/
structure BlocksFollow (t : State) : Prop where
  channels : ChannelsFollow t
  load     : LoadFollows t
  mode     : Established t

/-- The parts that what follows is a function of. -/
def followParts : List Part :=
  [.power, .chain, .active, .configInvalid, .composer, .channels, .load, .tyre, .unapplied]

theorem LoadFollows.frame (h : LoadFollows s) (g : SameBut L s t) (d : ∀ p ∈ followParts, p ∉ L) : LoadFollows t := by
  have hc : t.composer = s.composer := g.at .composer (d _ (by decide))
  have hch : t.channels = s.channels := g.at .channels (d _ (by decide))
  refine h.of_inputs (g.at .load (d _ (by decide))) (g.at .active (d _ (by decide))) (by rw [hc])
    (g.at .tyre (d _ (by decide))) (g.at .unapplied (d _ (by decide))) (fun n => ?_) (by rw [hch]) fun c => ?_
  · exact groupExists_congr (g.at .active (d _ (by decide))) (g.at .chain (d _ (by decide))) n
  · rw [channel_congr hch]
    exact ⟨rfl, rfl⟩

theorem BlocksFollow.frame (h : BlocksFollow s) (g : SameBut L s t) (d : ∀ p ∈ followParts, p ∉ L) : BlocksFollow t where
  channels := h.channels.frame g fun p hp => d p ((by decide : commandParts ⊆ followParts) hp)
  load := h.load.frame g d
  mode := h.mode.frame g fun p hp => d p ((by decide : modeParts ⊆ followParts) hp)

/-- A recomposition of a state whose mode is established. -/
theorem blocksFollow_recompose (h : s.channels.length = 6) (hm : Established s) : BlocksFollow (recompose s) where
  channels := channelsFollow_recompose h
  load := loadFollows_recompose h
  mode := hm.frame (same_recompose s) (by decide)

theorem loadFollows_enterOff (h : LoadFollows s) : LoadFollows (enterOff s) := by
  unfold enterOff
  split
  · exact h
  · exact loadFollows_recompose (by simp [changeStab, originateStability, dropStabInt, dropStabTest, h.six])

/-- All follows after a re-establishment, whatever stood before. -/
theorem blocksFollow_reestablish (h : s.channels.length = 6) : BlocksFollow (reestablish s) where
  channels := channelsFollow_reestablish h
  load := by
    have hr : LoadFollows (remoded s) := by
      refine loadFollows_recompose (six_of_same (L := [.incidents, .composer]) h ?_ (by decide))
      exact (same_updComposer _ s).comp (same_demandLost _ _ _) (by decide) (by decide)
    rw [reestablish_eq]
    split
    · exact hr
    · unfold testOff
      split
      · exact loadFollows_enterOff hr
      · exact hr
  mode := established_reestablish s

theorem blocksFollow_tyreSettle (h : s.channels.length = 6) (hm : Established s) : BlocksFollow (tyreSettle s) :=
  blocksFollow_recompose (six_of_same h (same_driveLamp s) (by decide)) (hm.frame (same_driveLamp s) (by decide))

theorem blocksFollow_tyreSwap (b) (h : BlocksFollow s) : BlocksFollow (tyreSwap b s) := by
  have hf := same_foldl (fun v i => swapPosition b i v) (fun v i => same_swapPosition b i v) (List.range 16) s
  refine blocksFollow_tyreSettle ?_ (h.mode.frame hf (by decide))
  exact (channelsFollow_foldl (fun _ i ht => channelsFollow_swapPosition b i ht) _ h.channels).six

theorem blocksFollow_reinitialise (h : s.channels.length = 6) : BlocksFollow (reinitialise s) := by
  refine blocksFollow_reestablish ?_
  exact (setEmergency_length _ _).trans ((recompose_length _).trans ((mapChannels_length _ _).trans h))

theorem sendCommands_driver (u : State) (c : Nat) : ((sendCommands u).channel c).driver = (u.channel c).driver ∧
    ((sendCommands u).channel c).driverValue = (u.channel c).driverValue := by
  constructor
  · refine mapChannels_read Channel.driver _ (fun n ch => ?_) (u.updChain _) c
    split <;> rfl
  · refine mapChannels_read Channel.driverValue _ (fun n ch => ?_) (u.updChain _) c
    split <;> rfl

theorem blocksFollow_sendCommands (h : BlocksFollow s) : BlocksFollow (sendCommands (numberSession s)) where
  channels := channelsFollow_sendCommands h.channels
  load := h.load.of_inputs rfl rfl rfl rfl rfl (fun _ => rfl) (sendCommands_length _) (sendCommands_driver (numberSession s))
  mode := ⟨h.mode.mode, h.mode.effective⟩

theorem blocksFollow_startPeriod (h : BlocksFollow s) : BlocksFollow (startPeriod s) where
  channels := channelsFollow_startPeriod h.channels
  load := h.load.of_inputs rfl rfl rfl rfl rfl (fun _ => rfl) rfl (fun _ => ⟨rfl, rfl⟩)
  mode := ⟨h.mode.mode, h.mode.effective⟩

theorem blocksFollow_startAnew (h : BlocksFollow s) : BlocksFollow (startChain true s) := by
  unfold startChain
  split
  · exact blocksFollow_startPeriod (blocksFollow_sendCommands (blocksFollow_reinitialise h.channels.six))
  · exact h

end Sys2Proof.Machine
end

section
/-! PROOFS. The stability unit at a swap (R119, R121, R123): it is taken OFF or keeps what it has, and a test that goes on has
the pressure of the new record. -/

namespace Sys2Proof.Machine

variable {s t u : State} {L : List Part}

/-! ### OFF or as it was -/

/-- From s to t the stability unit was taken OFF, or it stands as it stood. -/
structure UnitKept (s t : State) : Prop where
  state     : t.stability.state = s.stability.state ∨ t.stability.state = .off
  tests     : t.stability.state = .test → t.stability.testChannels = s.stability.testChannels
  load      : t.stability.load = s.stability.load
  severity  : t.stability.severity = s.stability.severity
  threshold : t.stability.threshold = s.stability.threshold
  levels    : t.stability.watchLevel = s.stability.watchLevel ∧ t.stability.releaseLevel = s.stability.releaseLevel

/-- And if it stands as it stood, it has sent no frame. -/
structure OffOrKept (s t : State) : Prop extends UnitKept s t where
  portA : t.stability.state = s.stability.state → t.portA = s.portA

theorem UnitKept.of_eq (h : t.stability = s.stability) : UnitKept s t := by
  constructor <;> simp [h]

theorem OffOrKept.of_eq (hs : t.stability = s.stability) (hA : t.portA = s.portA) : OffOrKept s t :=
  ⟨.of_eq hs, fun _ => hA⟩

theorem OffOrKept.of_same (g : SameBut L s t) (d : ∀ p ∈ [Part.stability, .portA], p ∉ L) : OffOrKept s t :=
  .of_eq (g.at .stability (d _ (by decide))) (g.at .portA (d _ (by decide)))

/-- A unit that ends on was not taken OFF on the way. -/
theorem UnitKept.on (h : UnitKept s t) (hon : t.stability.state ≠ .off) : t.stability.state = s.stability.state :=
  h.state.resolve_right hon

theorem UnitKept.off (h : UnitKept s t) (hoff : s.stability.state = .off) : t.stability.state = .off :=
  h.state.elim (·.trans hoff) id

/-- A unit that ends in the state it began in had it in between. -/
theorem UnitKept.middle (h : UnitKept s t) (g : UnitKept t u) (e : u.stability.state = s.stability.state) :
    t.stability.state = s.stability.state := by
  rcases h.state with hs | ht
  · exact hs
  · exact ht.trans ((g.off ht).symm.trans e)

theorem UnitKept.trans (h : UnitKept s t) (g : UnitKept t u) : UnitKept s u where
  state := g.state.elim (fun e => h.state.imp e.trans e.trans) .inr
  tests e := (g.tests e).trans (h.tests ((g.on (by rw [e]; decide)).symm.trans e))
  load := g.load.trans h.load
  severity := g.severity.trans h.severity
  threshold := g.threshold.trans h.threshold
  levels := ⟨g.levels.1.trans h.levels.1, g.levels.2.trans h.levels.2⟩

theorem OffOrKept.trans (h : OffOrKept s t) (g : OffOrKept t u) : OffOrKept s u where
  toUnitKept := h.toUnitKept.trans g.toUnitKept
  portA e :=
    have hm := h.middle g.toUnitKept e
    (g.portA (e.trans hm.symm)).trans (h.portA hm)

theorem offOrKept_enterOff (s : State) : OffOrKept s (enterOff s) := by
  by_cases h : s.stability.state = .off
  · rw [enterOff_of_off h]
    exact .of_eq rfl rfl
  · have hs := enterOff_stability h
    have hoff := enterOff_state s
    constructor
    case portA => exact fun e => absurd (e.symm.trans hoff) h
    case toUnitKept =>
      refine ⟨.inr hoff, fun e => ?_, ?_, ?_, ?_, ?_⟩
      · rw [hoff] at e
        exact absurd e (by decide)
      all_goals rw [hs]
      exact ⟨rfl, rfl⟩

theorem offOrKept_testOff (s : State) : OffOrKept s (testOff s) := by
  unfold testOff
  split
  · exact offOrKept_enterOff s
  · exact .of_eq rfl rfl

theorem offOrKept_reestablish (s : State) : OffOrKept s (reestablish s) := by
  have hr : OffOrKept s (remoded s) := .of_same (same_remoded s) (by decide)
  rw [reestablish_eq]
  split
  · exact hr
  · exact hr.trans (offOrKept_testOff _)

theorem offOrKept_reinitialise (s : State) : OffOrKept s (reinitialise s) :=
  (OffOrKept.of_same (same_reinitialised s) (by decide)).trans (offOrKept_reestablish _)

theorem offOrKept_startAnew (s : State) : OffOrKept s (startChain true s) := by
  unfold startChain
  split
  · refine (offOrKept_reinitialise s).trans (.of_same (L := [.chain, .channels]) ?_ (by decide))
    exact (same_sendCommands _).comp (same_startPeriod _) (by decide) (by decide)
  · exact .of_eq rfl rfl

/-! ### OFF in FALLBACK -/

/-- In FALLBACK the stability unit is OFF (R122). -/
def FallbackOff (s : State) : Prop := s.composer.mode = .fallback → s.stability.state = .off

theorem offCondition_of_fallback (h : s.composer.mode = .fallback) : offCondition s = true := by simp [offCondition, h]

theorem offCondition_of_disabled (h : s.active.stab.enable = false) : offCondition s = true := by simp [offCondition, h]

theorem testOff_of_condition (h : offCondition s = true) : (testOff s).stability.state = .off := by
  unfold testOff
  rw [if_pos h]
  exact enterOff_state s

theorem testOff_of_on (h : (testOff s).stability.state ≠ .off) : testOff s = s := by
  unfold testOff at h ⊢
  split
  · next hc =>
    rw [if_pos hc, enterOff_state] at h
    exact absurd rfl h
  · rfl

theorem fallbackOff_testOff (s : State) : FallbackOff (testOff s) := fun h =>
  testOff_of_condition (offCondition_of_fallback (((same_testOff s).at .composer (by decide) : _ = _) ▸ h))

theorem fallbackOff_reestablish (h : FallbackOff s) : FallbackOff (reestablish s) := by
  intro hm
  have hc := reestablish_composer s
  rw [reestablish_eq] at *
  split
  · next he =>
    rw [if_pos he, remoded_composer] at hm
    rw [(same_remoded s).at .stability (by decide)]
    exact h (he.trans hm)
  · exact testOff_of_condition (offCondition_of_fallback (by
      rw [if_neg (by assumption)] at hc hm
      rw [remoded_composer]
      rw [hc] at hm
      exact hm))

theorem reinitialised_chain (s : State) : (reinitialised s).chain = { s.chain with
    bound := some s.active.chain, health := .starting, session := 0, outstanding := none, failCount := 0, goodCount := 0,
    lastFailure := .none, nodes := List.replicate 4 Node.start } := (same_setEmergency false _).at .chain (by decide)

theorem reinitialised_mode (s : State) : (reinitialised s).composer.mode = s.composer.mode := by
  unfold reinitialised
  rw [setEmergency_composer]
  rfl

/-- A chain that starts finds the mode FALLBACK, and the stability unit OFF (R102, R122). -/
theorem reinitialise_off (h : FallbackOff s) : (reinitialise s).stability.state = .off := by
  have hr : (reinitialised s).stability = s.stability := (same_reinitialised s).at .stability (by decide)
  have hf : FallbackOff (reinitialised s) := fun hm =>
    (congrArg Stability.state hr).trans (h ((reinitialised_mode s).symm.trans hm))
  refine fallbackOff_reestablish hf ?_
  rw [reestablish_composer]
  refine brakeMode_of_stopped (s := reinitialised s) ?_
  rw [reinitialised_chain]
  exact ChainHealth.noConfusion

/-! ### The test that goes on -/

/-- The existing channels of a list have a STAB_TEST request of a pressure. -/
def TestedAt (l : List Nat) (p : Nat) (s : State) : Prop :=
  s.channels.length = 6 ∧ ∀ c ∈ channelNumbers, c ∈ l → channelExists s c = true → (s.channel c).stabTest = some p

theorem TestedAt.frame {l : List Nat} {p : Nat} (h : TestedAt l p s) (g : SameBut L s t)
    (d : ∀ q ∈ [Part.active, .chain, .channels], q ∉ L) : TestedAt l p t := by
  have hch : t.channels = s.channels := g.at .channels (d _ (by decide))
  refine ⟨by rw [hch]; exact h.1, fun c hc hl he => ?_⟩
  rw [channel_congr hch]
  refine h.2 c hc hl ?_
  rw [← he]
  exact (groupExists_congr (g.at .active (d _ (by decide))) (g.at .chain (d _ (by decide))) _).symm

theorem channelNow_stabTest {c : Nat} (h : channelExists s c = true) (ch : Channel) :
    (channelNow s c ch).stabTest = ch.stabTest := by
  unfold channelNow
  rw [if_pos h, channelCommands_eq]
  unfold channelTargeted
  dsimp only
  split <;> rfl

theorem testedAt_recompose {l : List Nat} {p : Nat} (h : TestedAt l p s) : TestedAt l p (recompose s) := by
  refine ⟨(recompose_length s).trans h.1, fun c hc hl he => ?_⟩
  rw [recompose_channel_of_six h.1 hc, channelNow_stabTest (s := s.updLoad fun _ => loadNow s) he]
  exact h.2 c hc hl he

theorem testedAt_reestablish {l : List Nat} {p : Nat} (h : TestedAt l p s)
    (hon : (reestablish s).stability.state ≠ .off) : TestedAt l p (reestablish s) := by
  have hr : TestedAt l p (remoded s) := by
    refine testedAt_recompose (h.frame (L := [.incidents, .composer]) ?_ (by decide))
    exact (same_updComposer _ s).comp (same_demandLost _ _ _) (by decide) (by decide)
  rw [reestablish_eq] at hon ⊢
  split
  · exact hr
  · next hne =>
    rw [if_neg hne] at hon
    rw [testOff_of_on hon]
    exact hr

/-! ### The swap reaches the unit -/

/-- The unit under the new record, before the OFF conditions are tested (R119, R121). -/
def stabilityRetuned (s : State) : State :=
  (rethreshold s).mapChannels fun c ch =>
    if c ∈ (rethreshold s).stability.testChannels then { ch with stabTest := some (rethreshold s).active.stab.pTest } else ch

theorem stabilitySwap_eq (s : State) : stabilitySwap s = testOff (stabilityRetuned s) := rfl

theorem stabilityRetuned_stability (s : State) : (stabilityRetuned s).stability = { s.stability with
    threshold := thresholdOf s.active.stab s.stability.load s.stability.severity
    watchLevel := thresholdOf s.active.stab s.stability.load s.stability.severity * s.active.stab.w / 256
    releaseLevel := thresholdOf s.active.stab s.stability.load s.stability.severity * s.active.stab.rr / 256 } := rfl

theorem testedAt_stabilityRetuned (h : s.channels.length = 6) :
    TestedAt s.stability.testChannels s.active.stab.pTest (stabilityRetuned s) := by
  refine ⟨(mapChannels_length _ _).trans h, fun c hc hl _ => ?_⟩
  have hl' : c ∈ (rethreshold s).stability.testChannels := hl
  unfold stabilityRetuned
  rw [mapChannels_channel_of_six (s := rethreshold s) h _ hc, if_pos hl']
  rfl

/-! ### What a swap's tyre work keeps -/

/-- What recompositions and the tyre unit's own changes keep is kept by the swap of a position. -/
theorem swapPosition_keeps {P : State → Prop} (quiet : ∀ u v, SameBut [.incidents, .portA, .tyre] u v → P u → P v)
    (composed : ∀ u, P u → P (recompose u)) (b i) (h : P s) : P (swapPosition b i s) := by
  have settled : ∀ u, P u → P (tyreSettle u) := fun u hu =>
    composed _ (quiet _ _ ((same_driveLamp u).mono (by decide)) hu)
  have he : P (endLearnAt i s) := by
    unfold endLearnAt
    split
    · exact h
    · split
      · unfold endLearn
        split
        · exact h
        · refine settled _ (quiet s _ ?_ h)
          exact (same_updTyre _ s).comp (same_setTyreState _ _ _) (by decide) (by decide)
      · exact h
  unfold swapPosition
  dsimp only
  split
  · exact quiet _ _ (same_clearAtSwap _ _ _ _) he
  · split
    · exact quiet _ _ (same_clearAtSwap _ _ _ s) h
    · split
      · exact quiet _ _ (same_clearAtSwap _ _ _ s) h
      · exact quiet _ _ (same_reevaluate i s) h

theorem testedAt_tyreSwap {l : List Nat} {p : Nat} (b) (h : TestedAt l p s) : TestedAt l p (tyreSwap b s) := by
  have hf : TestedAt l p ((List.range 16).foldl (fun v i => swapPosition b i v) s) :=
    List.foldlRecOn _ _ h fun v hv i _ => swapPosition_keeps (P := TestedAt l p) (fun _ _ g hu => hu.frame g (by decide))
      (fun _ hu => testedAt_recompose hu) b i hv
  exact testedAt_recompose (hf.frame (same_driveLamp _) (by decide))

end Sys2Proof.Machine
end

section
/-! PROOFS. The tyre positions at a swap (R145, R154, R158, R159): what the swap makes of each, and that the others' turns
spare it. -/

namespace Sys2Proof.Machine

variable {s t u : State} {L : List Part} {i j : Nat} {l : Learn} {st : TyreState}

/-! ### Incidents that stay closed -/

/-- The incidents of a tyre position (R154). -/
def tyreKinds : List IncidentKind := [.tyreCritical, .tyreLeak, .tyreMissing]

/-- From s to t no incident of position i has opened. -/
def Unopened (i : Nat) (s t : State) : Prop := ∀ k ∈ tyreKinds, HasOpen k i t → HasOpen k i s

theorem Unopened.trans (h : Unopened i s t) (g : Unopened i t u) : Unopened i s u := fun k hk ho => h k hk (g k hk ho)

theorem hasOpen_congr (h : t.incidents = s.incidents) (k d) : HasOpen k d t ↔ HasOpen k d s := by
  unfold HasOpen
  rw [h]

theorem unopened_of_eq (h : t.incidents = s.incidents) : Unopened i s t := fun k _ => (hasOpen_congr h k i).mp

theorem unopened_of_same (g : SameBut L s t) (d : Part.incidents ∉ L) : Unopened i s t := unopened_of_eq (g.at .incidents d)

theorem makeRoom_subset (l : List Incident) : makeRoom l ⊆ l := by
  unfold makeRoom
  split
  · exact fun _ h => h
  · split
    · exact fun _ h => List.mem_of_mem_eraseP h
    · exact fun _ h => List.mem_of_mem_tail h

/-- An opening opens nothing of another kind or detail (R173). -/
theorem hasOpen_of_openIncident {k k' : IncidentKind} {d d' : Nat} (hne : ¬ (k' = k ∧ d' = d))
    (h : HasOpen k d (openIncident k' d' s)) : HasOpen k d s := by
  obtain ⟨x, hx, hk, hd, hc⟩ := h
  unfold openIncident at hx
  split at hx
  · obtain ⟨y, hy, rfl⟩ := List.mem_map.mp hx
    refine ⟨y, hy, ?_⟩
    split at hk <;> split at hd <;> split at hc <;> simp_all
  · rcases List.mem_append.mp hx with hx | hx
    · exact ⟨x, makeRoom_subset _ hx, hk, hd, hc⟩
    · rw [List.mem_singleton.mp hx] at hk hd
      exact absurd ⟨hk, hd⟩ hne

theorem unopened_openIncident {k : IncidentKind} {d : Nat} (h : k ∉ tyreKinds ∨ d ≠ i) (s : State) :
    Unopened i s (openIncident k d s) := by
  intro k' hk' ho
  refine hasOpen_of_openIncident ?_ ho
  rintro ⟨rfl, rfl⟩
  exact h.elim (fun hn => hn hk') fun hn => hn rfl

theorem unopened_closeIncidents (w) (s : State) : Unopened i s (closeIncidents w s) := by
  rintro k _ ⟨x, hx, hk, hd, hc⟩
  obtain ⟨y, hy, rfl⟩ := List.mem_map.mp hx
  refine ⟨y, hy, ?_⟩
  split at hc
  · simp at hc
  · next hn =>
    rw [if_neg hn] at hk hd
    exact ⟨hk, hd, hc⟩

theorem unopened_closeIncident (k d) (s : State) : Unopened i s (closeIncident k d s) := unopened_closeIncidents _ s

theorem unopened_closeTyreIncidents (j) (s : State) : Unopened i s (closeTyreIncidents j s) :=
  ((unopened_closeIncident _ _ s).trans (unopened_closeIncident _ _ _)).trans (unopened_closeIncident _ _ _)

theorem unopened_ite {c : Prop} [Decidable c] (ht : Unopened i s t) (hu : Unopened i s u) :
    Unopened i s (if c then t else u) := by
  split
  · exact ht
  · exact hu

theorem unopened_tyreIncidents (h : j ≠ i) (a b) (s : State) : Unopened i s (tyreIncidents j a b s) := by
  have ho : ∀ k s, Unopened i s (openIncident k j s) := fun _ s => unopened_openIncident (.inr h) s
  have critical : Unopened i s
      (if b.level = .critical && a.level ≠ .critical then openIncident .tyreCritical j s
      else if a.level = .critical && b.level ≠ .critical then closeIncident .tyreCritical j s
      else s) :=
    unopened_ite (ho _ s) (unopened_ite (unopened_closeIncident _ _ s) (unopened_of_eq rfl))
  have leak : ∀ u, Unopened i u
      (if b.leak && !a.leak then openIncident .tyreLeak j u
      else if a.leak && !b.leak then closeIncident .tyreLeak j u
      else u) :=
    fun u => unopened_ite (ho _ u) (unopened_ite (unopened_closeIncident _ _ u) (unopened_of_eq rfl))
  exact critical.trans (leak _)

/-- After the three closings no incident of the position is open. -/
theorem not_hasOpen_closeTyreIncidents (i) (s : State) : ∀ k ∈ tyreKinds, ¬ HasOpen k i (closeTyreIncidents i s) := by
  simp only [tyreKinds, List.forall_mem_cons]
  refine ⟨fun h => ?_, fun h => ?_, not_hasOpen_closeIncident _ _ _, fun _ h => (List.not_mem_nil h).elim⟩
  · exact not_hasOpen_closeIncident _ _ _ (((unopened_closeIncident _ _ _).trans (unopened_closeIncident _ _ _)) _ (by decide) h)
  · exact not_hasOpen_closeIncident _ _ _ (unopened_closeIncident _ _ _ _ (by decide) h)

/-! ### What spares a position -/

/-- From s to t position i keeps its record, a learn on it goes on, none begins on it, and none of its incidents opens;
the FIFO stays. -/
structure Spared (i : Nat) (s t : State) : Prop where
  position : t.position i = s.position i
  count    : t.tyre.positions.length = s.tyre.positions.length
  fifo     : t.tyre.fifo = s.tyre.fifo
  learn    : t.tyre.learn = s.tyre.learn ∨ (s.tyre.learn ≠ none ∧ learnAway s i ∧ learnAway t i)
  unopened : Unopened i s t

theorem learnAway_congr (h : t.tyre.learn = s.tyre.learn) : learnAway t i ↔ learnAway s i := by
  unfold learnAway
  rw [h]

theorem learnAway_of_none (h : s.tyre.learn = none) : learnAway s i := fun l hl => by simp [h] at hl

theorem learnAway_of_pos (h : s.tyre.learn = some l) (hp : l.pos ≠ i) : learnAway s i := by
  intro m hm
  rw [h] at hm
  exact Option.some.inj hm ▸ hp

theorem not_learnAway (h : s.tyre.learn = some l) (hp : l.pos = i) : ¬ learnAway s i := fun ha => ha l h hp

theorem Spared.away (h : Spared i s t) : learnAway t i ↔ learnAway s i := by
  rcases h.learn with he | ⟨-, hs, ht⟩
  · exact learnAway_congr he
  · exact iff_of_true ht hs

theorem Spared.learning (h : Spared i s t) (hl : s.tyre.learn = some l) (hp : l.pos = i) : t.tyre.learn = some l := by
  rcases h.learn with he | ⟨-, hs, -⟩
  · exact he.trans hl
  · exact absurd hs (not_learnAway hl hp)

theorem Spared.idle (h : Spared i s t) (hl : s.tyre.learn = none) : t.tyre.learn = none :=
  h.learn.elim (·.trans hl) fun ⟨hn, _⟩ => absurd hl hn

theorem Spared.trans (h : Spared i s t) (g : Spared i t u) : Spared i s u where
  position := g.position.trans h.position
  count := g.count.trans h.count
  fifo := g.fifo.trans h.fifo
  learn := by
    rcases g.learn with he | ⟨hn, ht, hu⟩
    · exact h.learn.imp he.trans fun ⟨hn, hs, ht⟩ => ⟨hn, hs, (learnAway_congr he).mpr ht⟩
    · exact .inr ⟨fun hs => hn (h.idle hs), h.away.mp ht, hu⟩
  unopened := h.unopened.trans g.unopened

theorem Spared.of_tyre (ht : t.tyre = s.tyre) (h : Unopened i s t) : Spared i s t where
  position := position_congr ht i
  count := by rw [ht]
  fifo := by rw [ht]
  learn := .inl (by rw [ht])
  unopened := h

theorem Spared.of_same (g : SameBut L s t) (d : ∀ p ∈ [Part.tyre, .incidents], p ∉ L) : Spared i s t :=
  .of_tyre (g.at .tyre (d _ (by decide))) (unopened_of_same g (d _ (by decide)))

theorem updPosition_position_ne (h : j ≠ i) (f) (s : State) : (s.updPosition j f).position i = s.position i := by
  simp [State.position, State.updPosition, List.getD_eq_getElem?_getD, h]

theorem spared_updPosition (h : j ≠ i) (f) (s : State) : Spared i s (s.updPosition j f) where
  position := updPosition_position_ne h f s
  count := List.length_modify ..
  fifo := rfl
  learn := .inl rfl
  unopened := unopened_of_eq rfl

theorem spared_setTyreState (h : j ≠ i) (st) (s : State) : Spared i s (setTyreState j st s) := by
  unfold setTyreState
  dsimp only
  split
  · exact spared_updPosition h _ s
  · exact (spared_updPosition h _ s).trans (.of_same (same_originateTyre _ _) (by decide))

theorem tyreSettle_fifo (s : State) : (tyreSettle s).tyre.fifo = s.tyre.fifo := by
  show (driveLamp s).tyre.fifo = _
  unfold driveLamp
  dsimp only
  split <;> rfl

theorem spared_tyreSettle (i) (s : State) : Spared i s (tyreSettle s) where
  position := tyreSettle_position i s
  count := by rw [tyreSettle_positions]
  fifo := tyreSettle_fifo s
  learn := .inl (tyreSettle_learn s)
  unopened := unopened_of_same (same_tyreSettle s) (by decide)

theorem spared_withLearn {m : Option Learn} (hl : s.tyre.learn = some l) (hp : l.pos ≠ i)
    (hm : learnAway (withLearn m s) i) : Spared i s (withLearn m s) where
  position := rfl
  count := rfl
  fifo := rfl
  learn := .inr ⟨by simp [hl], learnAway_of_pos hl hp, hm⟩
  unopened := unopened_of_eq rfl

/-! ### A position takes a state at a swap -/

theorem setAtSwap_of_away (h : learnAway s i) (st) : setAtSwap i st s = setTyreState i st s := by
  unfold setAtSwap
  split
  · rfl
  · next l hl => rw [if_neg (by simp [h l hl])]

/-- A learn that stays has its saved state take the new one (R159). -/
theorem setAtSwap_of_learning (hl : s.tyre.learn = some l) (hp : l.pos = i) (hs : (s.position i).state = .learning) (st) :
    setAtSwap i st s = withLearn (some { l with saved := st }) s := by
  unfold setAtSwap
  rw [hl]
  dsimp only
  rw [if_pos (by simp [hp, hs])]
  rfl

theorem spared_setAtSwap (h : j ≠ i) (st) (s : State) : Spared i s (setAtSwap j st s) := by
  unfold setAtSwap
  split
  · exact spared_setTyreState h st s
  · next l hl =>
    split
    · next hc =>
      obtain ⟨rfl, -⟩ := by simpa using hc
      exact spared_withLearn hl h (learnAway_of_pos rfl h)
    · exact spared_setTyreState h st s

theorem spared_clearAtSwap (h : j ≠ i) (st tm) (s : State) : Spared i s (clearAtSwap j st tm s) := by
  have hc : Spared i s (closeTyreIncidents j (s.updPosition j fun q => Position.cleared q.state tm)) :=
    (spared_updPosition h _ s).trans (.of_tyre rfl (unopened_closeTyreIncidents j _))
  exact hc.trans (spared_setAtSwap h st _)

section
variable {tm : Timer} (hi : i < s.tyre.positions.length)
include hi

/-- A position's record cleared, its incidents closed: what clearAtSwap gives the new state to. -/
theorem cleared_position :
    (closeTyreIncidents i (s.updPosition i fun q => Position.cleared q.state tm)).position i =
      Position.cleared (s.position i).state tm :=
  (updPosition_position i i _ s hi).trans (if_pos rfl)

theorem clearAtSwap_of_away (h : learnAway s i) : (clearAtSwap i st tm s).position i = Position.cleared st tm := by
  unfold clearAtSwap
  dsimp only
  generalize hc : closeTyreIncidents i (s.updPosition i fun q => Position.cleared q.state tm) = c
  have hp : c.position i = Position.cleared (s.position i).state tm := hc ▸ cleared_position hi
  have hlen : i < c.tyre.positions.length := by
    rw [← hc]
    exact (List.length_modify ..).symm ▸ hi
  rw [setAtSwap_of_away (by rw [← hc]; exact h), setTyreState_position hlen, if_pos rfl, hp]
  rfl

theorem clearAtSwap_of_learning (hl : s.tyre.learn = some l) (hp : l.pos = i) (hs : (s.position i).state = .learning) :
    ((clearAtSwap i st tm s).position i).state = .learning ∧
      (clearAtSwap i st tm s).tyre.learn = some { l with saved := st } := by
  unfold clearAtSwap
  dsimp only
  generalize hc : closeTyreIncidents i (s.updPosition i fun q => Position.cleared q.state tm) = c
  have hpos : c.position i = Position.cleared (s.position i).state tm := hc ▸ cleared_position hi
  have hstate : (c.position i).state = .learning := by rw [hpos]; exact hs
  rw [setAtSwap_of_learning (l := l) (by rw [← hc]; exact hl) hp hstate]
  exact ⟨hstate, rfl⟩

end

theorem clearAtSwap_closed (i st tm) (s : State) : ∀ k ∈ tyreKinds, ¬ HasOpen k i (clearAtSwap i st tm s) := by
  intro k hk h
  exact not_hasOpen_closeTyreIncidents i _ k hk (unopened_of_same (same_setAtSwap _ _ _) (by decide) k hk h)

/-! ### A position that keeps its IDs is judged again -/

/-- A position takes a level and its incidents follow, its state as it was (R144, R154). -/
def releveled (i : Nat) (level : Level) (s : State) : State :=
  tyreIncidents i (s.position i) { s.position i with level := level } (s.updPosition i fun _ => { s.position i with level := level })

/-- The states that a re-evaluation leaves as they are (R159). -/
def restingStates : List TyreState := [.missing, .awaiting, .unused, .unassigned]

/-- A position takes a level, and the state that follows unless it rests (R159). -/
def rejudged (i : Nat) (level : Level) (s : State) : State :=
  if judged (releveled i level s) i ∈ restingStates then releveled i level s
  else setAtSwap i (deriveState (s.position i).leak level) (releveled i level s)

theorem reevaluate_of_none (h : (s.position i).lastP = none) : reevaluate i s = s := by
  unfold reevaluate
  dsimp only
  rw [h]

theorem rejudged_eq (i level) (s : State) : rejudged i level s =
    match judged (releveled i level s) i with
    | .missing => releveled i level s
    | .awaiting => releveled i level s
    | .unused => releveled i level s
    | .unassigned => releveled i level s
    | _ => setAtSwap i (deriveState (s.position i).leak level) (releveled i level s) := by
  unfold rejudged
  cases judged (releveled i level s) i <;> rfl

theorem reevaluate_eq (i) (s : State) : reevaluate i s =
    match (s.position i).lastP with
    | none => s
    | some p => rejudged i (nextLevel s.active.tuning (s.active.tyre i).nominal p (s.position i).level) s := by
  simp only [rejudged_eq]
  rfl

theorem reevaluate_of_some {p : Nat} (h : (s.position i).lastP = some p) :
    reevaluate i s = rejudged i (levelAtSwap s.active i (s.position i)) s := by
  unfold levelAtSwap
  rw [reevaluate_eq, h]

/-- The state that a level gives in place of a state (R159). -/
def rejudgedState (leak : Bool) (level : Level) (old : TyreState) : TyreState :=
  if old ∈ restingStates then old else deriveState leak level

theorem stateAtSwap_of_some {img : Image} {q : Position} {p : Nat} (h : q.lastP = some p) (old : TyreState) :
    stateAtSwap img i q old = rejudgedState q.leak (levelAtSwap img i q) old := by
  unfold stateAtSwap rejudgedState
  simp [h, restingStates]

theorem stateAtSwap_of_none {img : Image} {q : Position} (h : q.lastP = none) (old : TyreState) :
    stateAtSwap img i q old = old := if_pos (.inl h)

theorem judged_of_away (h : learnAway s i) : judged s i = (s.position i).state := by
  unfold judged
  split
  · rfl
  · next l hl => rw [if_neg (by simp [h l hl])]

theorem judged_of_learning (hl : s.tyre.learn = some l) (hp : l.pos = i) (hs : (s.position i).state = .learning) :
    judged s i = l.saved := by
  unfold judged
  rw [hl]
  dsimp only
  rw [if_pos (by simp [hp, hs])]

section
variable {level : Level}

theorem releveled_tyre (i level) (s : State) :
    (releveled i level s).tyre = (s.updPosition i fun _ => { s.position i with level := level }).tyre :=
  tyreIncidents_tyre _ _ _ _

theorem releveled_learn (i level) (s : State) : (releveled i level s).tyre.learn = s.tyre.learn :=
  (congrArg Tyre.learn (releveled_tyre i level s)).trans rfl

theorem releveled_count (i level) (s : State) :
    (releveled i level s).tyre.positions.length = s.tyre.positions.length :=
  (congrArg (·.positions.length) (releveled_tyre i level s)).trans (List.length_modify ..)

theorem releveled_position (hi : i < s.tyre.positions.length) :
    (releveled i level s).position i = { s.position i with level := level } :=
  ((position_congr (releveled_tyre i level s) i).trans (updPosition_position i i _ s hi)).trans (if_pos rfl)

theorem releveled_state (hi : i < s.tyre.positions.length) :
    ((releveled i level s).position i).state = (s.position i).state := by rw [releveled_position hi]

theorem spared_releveled (h : j ≠ i) (level) (s : State) : Spared i s (releveled j level s) :=
  (spared_updPosition h _ s).trans (.of_tyre (tyreIncidents_tyre _ _ _ _) (unopened_tyreIncidents h _ _ _))

theorem spared_rejudged (h : j ≠ i) (level) (s : State) : Spared i s (rejudged j level s) := by
  unfold rejudged
  split
  · exact spared_releveled h level s
  · exact (spared_releveled h level s).trans (spared_setAtSwap h _ _)

theorem rejudged_of_away (hi : i < s.tyre.positions.length) (h : learnAway s i) :
    (rejudged i level s).position i = { s.position i with
      level := level
      state := rejudgedState (s.position i).leak level (s.position i).state } := by
  have hr := releveled_position (level := level) hi
  have ha : learnAway (releveled i level s) i := (learnAway_congr (releveled_learn i level s)).mpr h
  unfold rejudged rejudgedState
  rw [judged_of_away ha, releveled_state hi]
  split
  · exact hr
  · rw [setAtSwap_of_away ha, setTyreState_position (by rw [releveled_count]; exact hi), if_pos rfl, hr]

theorem rejudged_of_learning (hi : i < s.tyre.positions.length) (hl : s.tyre.learn = some l) (hpos : l.pos = i)
    (hs : (s.position i).state = .learning) : ((rejudged i level s).position i).state = .learning ∧
      (rejudged i level s).tyre.learn = some { l with saved := rejudgedState (s.position i).leak level l.saved } := by
  have hr : ((releveled i level s).position i).state = .learning := (releveled_state hi).trans hs
  have hrl : (releveled i level s).tyre.learn = some l := (releveled_learn i level s).trans hl
  unfold rejudged rejudgedState
  rw [judged_of_learning hrl hpos hr]
  split
  · exact ⟨hr, hrl⟩
  · rw [setAtSwap_of_learning hrl hpos hr]
    exact ⟨hr, rfl⟩

end

theorem levelAtSwap_of_none {img : Image} {q : Position} (h : q.lastP = none) : levelAtSwap img i q = q.level := by
  unfold levelAtSwap
  rw [h]

theorem spared_reevaluate (h : j ≠ i) (s : State) : Spared i s (reevaluate j s) := by
  cases hp : (s.position j).lastP with
  | none =>
    rw [reevaluate_of_none hp]
    exact .of_tyre rfl (unopened_of_eq rfl)
  | some p =>
    rw [reevaluate_of_some hp]
    exact spared_rejudged h _ s

theorem reevaluate_of_away (hi : i < s.tyre.positions.length) (h : learnAway s i) :
    (reevaluate i s).position i = { s.position i with
      level := levelAtSwap s.active i (s.position i)
      state := stateAtSwap s.active i (s.position i) (s.position i).state } := by
  cases hp : (s.position i).lastP with
  | none => rw [reevaluate_of_none hp, levelAtSwap_of_none hp, stateAtSwap_of_none hp]
  | some p => rw [reevaluate_of_some hp, rejudged_of_away hi h, stateAtSwap_of_some hp]

theorem reevaluate_of_learning (hi : i < s.tyre.positions.length) (hl : s.tyre.learn = some l) (hpos : l.pos = i)
    (hs : (s.position i).state = .learning) : ((reevaluate i s).position i).state = .learning ∧
      (reevaluate i s).tyre.learn = some { l with saved := stateAtSwap s.active i (s.position i) l.saved } := by
  cases hp : (s.position i).lastP with
  | none =>
    rw [reevaluate_of_none hp, stateAtSwap_of_none hp]
    exact ⟨hs, hl⟩
  | some p =>
    rw [reevaluate_of_some hp, stateAtSwap_of_some hp]
    exact rejudged_of_learning hi hl hpos hs

/-! ### One position's turn -/

theorem spared_endLearnAt (h : j ≠ i) (s : State) : Spared i s (endLearnAt j s) := by
  unfold endLearnAt
  split
  · exact .of_tyre rfl (unopened_of_eq rfl)
  · next l hl =>
    split
    · next hp =>
      subst hp
      rw [endLearn_eq hl]
      exact ((spared_withLearn hl h (learnAway_of_none rfl)).trans (spared_setTyreState h _ _)).trans (spared_tyreSettle i _)
    · exact .of_tyre rfl (unopened_of_eq rfl)

theorem spared_swapPosition (h : j ≠ i) (b) (s : State) : Spared i s (swapPosition b j s) := by
  unfold swapPosition
  dsimp only
  split
  · exact (spared_endLearnAt h s).trans (spared_clearAtSwap h _ _ _)
  · split
    · exact spared_clearAtSwap h _ _ s
    · split
      · exact spared_clearAtSwap h _ _ s
      · exact spared_reevaluate h s

/-- After its turn's end no learn runs on a position (R158). -/
theorem endLearnAt_away (i) (s : State) : learnAway (endLearnAt i s) i := by
  unfold endLearnAt
  split
  · next hl => exact learnAway_of_none hl
  · next l hl =>
    split
    · exact learnAway_of_none (endLearn_learn s)
    · next hp => exact learnAway_of_pos hl hp

theorem endLearnAt_learn (h : ¬ learnAway s i) : (endLearnAt i s).tyre.learn = none := by
  unfold endLearnAt
  split
  · assumption
  · next l hl =>
    rw [if_pos (by_contra fun hp => h (learnAway_of_pos hl hp))]
    exact endLearn_learn s

theorem setTyreState_count (i st) (s : State) : (setTyreState i st s).tyre.positions.length = s.tyre.positions.length := by
  unfold setTyreState originateTyre
  dsimp only
  split
  · exact List.length_modify ..
  · rw [enqueue_tyre]
    exact List.length_modify ..

theorem endLearnAt_count (i) (s : State) : (endLearnAt i s).tyre.positions.length = s.tyre.positions.length := by
  unfold endLearnAt
  split
  · rfl
  · next l hl =>
    split
    · rw [endLearn_eq hl, tyreSettle_positions, setTyreState_count]
      rfl
    · rfl

theorem keepsIds_iff (a b : TyreRec) : keepsIds a b ↔ ¬ (!a.configured || !sameIds a b) = true := by
  unfold keepsIds TyreRec.idsAgree sameIds
  cases a.primary.present <;> cases a.alternate.present <;> simp [and_assoc, and_comm, and_left_comm]

section
variable {b : Image}

theorem swapPosition_unused (h : (s.active.tyre i).configured = false) :
    swapPosition b i s = clearAtSwap i .unused none (endLearnAt i s) := if_pos (by simp [h])

theorem swapPosition_unassigned (hc : (s.active.tyre i).configured = true) (ha : (s.active.tyre i).assigned = false) :
    swapPosition b i s = clearAtSwap i .unassigned none s := by
  unfold swapPosition
  dsimp only
  rw [if_neg (by simp [hc]), if_pos (by simp [ha])]

theorem configured_of_assigned {r : TyreRec} (h : r.assigned = true) : r.configured = true :=
  (Bool.and_eq_true_iff.mp h).1

theorem swapPosition_awaiting (ha : (s.active.tyre i).assigned = true) (hk : ¬ keepsIds (b.tyre i) (s.active.tyre i)) :
    swapPosition b i s = clearAtSwap i .awaiting (swapTimer s) s := by
  unfold swapPosition
  dsimp only
  rw [if_neg (by simp [configured_of_assigned ha]), if_neg (by simp [ha]),
    if_pos (not_not.mp (mt (keepsIds_iff _ _).mpr hk))]

theorem swapPosition_kept (ha : (s.active.tyre i).assigned = true) (hk : keepsIds (b.tyre i) (s.active.tyre i)) :
    swapPosition b i s = reevaluate i s := by
  unfold swapPosition
  dsimp only
  rw [if_neg (by simp [configured_of_assigned ha]), if_neg (by simp [ha]), if_neg ((keepsIds_iff _ _).mp hk)]

/-- A position's own turn is the table of R159. -/
theorem tookFields_swapPosition (b : Image) (hi : i < s.tyre.positions.length) :
    TookFields b (swapTimer s) s (swapPosition b i s) i := by
  have hactive : (swapPosition b i s).active = s.active := (same_swapPosition b i s).at .active (by decide)
  have closed {u st tm} (he : swapPosition b i s = clearAtSwap i st tm u) : ¬ HasOpen .tyreCritical i (swapPosition b i s) ∧
      ¬ HasOpen .tyreLeak i (swapPosition b i s) ∧ ¬ HasOpen .tyreMissing i (swapPosition b i s) := by
    rw [he]
    exact ⟨clearAtSwap_closed i st tm u _ (by decide), clearAtSwap_closed i st tm u _ (by decide),
      clearAtSwap_closed i st tm u _ (by decide)⟩
  constructor <;> rw [hactive]
  case unused =>
    intro hc
    rw [swapPosition_unused hc]
    refine ⟨clearAtSwap_of_away ((endLearnAt_count i s).symm ▸ hi) (endLearnAt_away i s), fun ha => ?_⟩
    exact clearAtSwap_learn (endLearnAt_learn ha) i _ _
  case unassigned =>
    intro hc ha hl
    rw [swapPosition_unassigned hc ha]
    exact clearAtSwap_of_away hi hl
  case awaiting =>
    intro ha hk hl
    rw [swapPosition_awaiting ha hk]
    exact clearAtSwap_of_away hi hl
  case kept =>
    intro ha hk hl
    rw [swapPosition_kept ha hk]
    exact reevaluate_of_away hi hl
  case closed =>
    intro h
    by_cases hc : (s.active.tyre i).configured = true
    · by_cases ha : (s.active.tyre i).assigned = true
      · exact closed (swapPosition_awaiting ha (h.resolve_left (by simp [ha])))
      · exact closed (swapPosition_unassigned hc (by simpa using ha))
    · exact closed (swapPosition_unused (by simpa using hc))
  case learning =>
    intro l hl hp hs hc
    by_cases ha : (s.active.tyre i).assigned = true
    · by_cases hk : keepsIds (b.tyre i) (s.active.tyre i)
      · rw [swapPosition_kept ha hk]
        obtain ⟨hstate, hlearn⟩ := reevaluate_of_learning hi hl hp hs
        exact ⟨hstate, _, hlearn, by simp [ha], fun _ hn => absurd hk hn, fun _ _ => rfl⟩
      · rw [swapPosition_awaiting ha hk]
        obtain ⟨hstate, hlearn⟩ := clearAtSwap_of_learning (st := .awaiting) (tm := swapTimer s) hi hl hp hs
        exact ⟨hstate, _, hlearn, by simp [ha], fun _ _ => rfl, fun _ hk' => absurd hk' hk⟩
    · rw [swapPosition_unassigned hc (by simpa using ha)]
      obtain ⟨hstate, hlearn⟩ := clearAtSwap_of_learning (st := .unassigned) (tm := none) hi hl hp hs
      exact ⟨hstate, _, hlearn, fun _ => rfl, fun h => absurd h ha, fun h => absurd h ha⟩

/-- What spares a position before and after its turn leaves the table of R159 true of it. -/
theorem TookFields.of_spared {v : State} {tm : Timer} (h : TookFields b tm t u i) (before : Spared i s t)
    (after : Spared i u v) (hactive : v.active = u.active) : TookFields b tm s v i := by
  have hpos := after.position
  constructor <;> rw [hactive]
  case unused =>
    intro hc
    obtain ⟨hp, hl⟩ := h.unused hc
    exact ⟨hpos.trans hp, fun ha => after.idle (hl (mt before.away.mp ha))⟩
  case unassigned => exact fun hc ha hl => hpos.trans (h.unassigned hc ha (before.away.mpr hl))
  case awaiting => exact fun ha hk hl => hpos.trans (h.awaiting ha hk (before.away.mpr hl))
  case kept =>
    intro ha hk hl
    rw [hpos, h.kept ha hk (before.away.mpr hl), before.position]
  case closed =>
    intro hc
    obtain ⟨h1, h2, h3⟩ := h.closed hc
    exact ⟨mt (after.unopened _ (by decide)) h1, mt (after.unopened _ (by decide)) h2,
      mt (after.unopened _ (by decide)) h3⟩
  case learning =>
    intro l hl hp hs hc
    have hst : (t.position i).state = .learning := by rw [before.position]; exact hs
    obtain ⟨hstate, st, hlearn, rest⟩ := h.learning l (before.learning hl hp) hp hst hc
    rw [before.position] at rest
    exact ⟨(congrArg Position.state hpos).trans hstate, st, after.learning hlearn hp, rest⟩

/-! ### All positions' turns -/

theorem spared_fold (b : Image) {l : List Nat} (h : i ∉ l) (s : State) :
    Spared i s (l.foldl (fun v j => swapPosition b j v) s) := by
  induction l generalizing s with
  | nil => exact .of_tyre rfl (unopened_of_eq rfl)
  | cons j l ih =>
    rw [List.mem_cons, not_or] at h
    exact (spared_swapPosition (Ne.symm h.1) b s).trans (ih h.2 _)

theorem same_swapFold (b : Image) (l : List Nat) (s : State) :
    SameBut [.incidents, .portA, .channels, .load, .tyre] s (l.foldl (fun v j => swapPosition b j v) s) :=
  same_foldl (fun v j => swapPosition b j v) (fun v j => same_swapPosition b j v) l s

theorem swapTimer_congr (hp : t.power = s.power) (ha : t.active = s.active) : swapTimer t = swapTimer s := by
  unfold swapTimer
  rw [hp, ha]

theorem tookFields_tyreSwap (b : Image) (h16 : s.tyre.positions.length = 16) (hi : i ∈ List.range 16) :
    TookFields b (swapTimer s) s (tyreSwap b s) i := by
  obtain ⟨l, r, hlr⟩ := List.append_of_mem hi
  have hnd : (l ++ i :: r).Nodup := hlr ▸ List.nodup_range
  obtain ⟨hir, hil⟩ : i ∉ r ∧ i ∉ l := by
    obtain ⟨-, hr, hd⟩ := List.nodup_append.mp hnd
    exact ⟨(List.nodup_cons.mp hr).1, fun hm => hd i hm i (List.mem_cons_self ..) rfl⟩
  have hlt : i < s.tyre.positions.length := by
    rw [h16]
    exact List.mem_range.mp hi
  unfold tyreSwap
  rw [hlr, List.foldl_append, List.foldl_cons]
  have before := spared_fold b hil s
  have gb := same_swapFold b l s
  generalize l.foldl (fun v j => swapPosition b j v) s = v at before gb ⊢
  have after := spared_fold b hir (swapPosition b i v)
  have ga := same_swapFold b r (swapPosition b i v)
  rw [← swapTimer_congr (gb.at .power (by decide)) (gb.at .active (by decide))]
  exact (tookFields_swapPosition b (before.count.symm ▸ hlt)).of_spared before (after.trans (spared_tyreSettle i _))
    ((ga.comp (N := [.incidents, .portA, .channels, .load, .tyre]) (same_tyreSettle _) (by decide) (by decide)).at .active
      (by decide))

/-! ### A swap that changes no state reports none -/

theorem clearAtSwap_portA {tm : Timer} (hi : i < s.tyre.positions.length) (hl : s.tyre.learn = none)
    (h : ((clearAtSwap i st tm s).position i).state = (s.position i).state) : (clearAtSwap i st tm s).portA = s.portA := by
  have hst : (s.position i).state = st := by
    rw [clearAtSwap_of_away hi (learnAway_of_none hl)] at h
    exact h.symm
  unfold clearAtSwap
  dsimp only
  rw [setAtSwap_of_none (by exact hl), setTyreState_portA_same]
  · rfl
  · rw [cleared_position hi]
    exact hst

theorem releveled_portA (i level) (s : State) : (releveled i level s).portA = s.portA :=
  (same_tyreIncidents _ _ _ _).at .portA (by decide)

theorem rejudged_portA {level : Level} (hi : i < s.tyre.positions.length) (hl : s.tyre.learn = none)
    (h : ((rejudged i level s).position i).state = (s.position i).state) : (rejudged i level s).portA = s.portA := by
  have hrl : (releveled i level s).tyre.learn = none := (releveled_learn i level s).trans hl
  unfold rejudged at h ⊢
  split at h
  · rw [if_pos (by assumption)]
    exact releveled_portA i level s
  · rw [setAtSwap_of_none hrl, setTyreState_position (by rw [releveled_count]; exact hi), if_pos rfl] at h
    rw [if_neg (by assumption), setAtSwap_of_none hrl, setTyreState_portA_same ((releveled_state hi).trans h.symm)]
    exact releveled_portA i level s

theorem reevaluate_portA (hi : i < s.tyre.positions.length) (hl : s.tyre.learn = none)
    (h : ((reevaluate i s).position i).state = (s.position i).state) : (reevaluate i s).portA = s.portA := by
  cases hp : (s.position i).lastP with
  | none => rw [reevaluate_of_none hp]
  | some p =>
    rw [reevaluate_of_some hp] at h ⊢
    exact rejudged_portA hi hl h

theorem endLearnAt_of_none (hl : s.tyre.learn = none) (i) : endLearnAt i s = s := by
  unfold endLearnAt
  rw [hl]

theorem swapPosition_portA (b : Image) (hi : i < s.tyre.positions.length) (hl : s.tyre.learn = none)
    (h : ((swapPosition b i s).position i).state = (s.position i).state) : (swapPosition b i s).portA = s.portA := by
  unfold swapPosition at h ⊢
  dsimp only at h ⊢
  rw [endLearnAt_of_none hl] at h ⊢
  split at h
  · rw [if_pos (by assumption)]
    exact clearAtSwap_portA hi hl h
  · rw [if_neg (by assumption)]
    split at h
    · rw [if_pos (by assumption)]
      exact clearAtSwap_portA hi hl h
    · rw [if_neg (by assumption)]
      split at h
      · rw [if_pos (by assumption)]
        exact clearAtSwap_portA hi hl h
      · rw [if_neg (by assumption)]
        exact reevaluate_portA hi hl h

theorem swapPosition_count (b : Image) (i) (s : State) :
    (swapPosition b i s).tyre.positions.length = s.tyre.positions.length :=
  (spared_swapPosition (i := i + 1) (by omega) b s).count

theorem swapFold_portA (b : Image) {l : List Nat} (hn : l.Nodup) (hb : ∀ i ∈ l, i < s.tyre.positions.length)
    (hl : s.tyre.learn = none)
    (h : ∀ i ∈ l, ((l.foldl (fun v j => swapPosition b j v) s).position i).state = (s.position i).state) :
    (l.foldl (fun v j => swapPosition b j v) s).portA = s.portA := by
  induction l generalizing s with
  | nil => rfl
  | cons i l ih =>
    obtain ⟨hil, hn⟩ := List.nodup_cons.mp hn
    simp only [List.forall_mem_cons] at h hb
    obtain ⟨hfirst, hrest⟩ := h
    rw [List.foldl_cons] at *
    rw [(spared_fold b hil _).position] at hfirst
    rw [ih hn (fun j hj => (swapPosition_count b i s).symm ▸ hb.2 j hj) (swapPosition_learn hl b i) fun j hj => ?_]
    · exact swapPosition_portA b hb.1 hl hfirst
    · rw [hrest j hj, (spared_swapPosition (show i ≠ j from fun e => hil (e ▸ hj)) b s).position]

/-- With no learn running a swap that leaves every position its state sends nothing (R18, R151). -/
theorem tyreSwap_portA (b : Image) (h16 : s.tyre.positions.length = 16) (hl : s.tyre.learn = none)
    (h : ∀ i ∈ List.range 16, ((tyreSwap b s).position i).state = (s.position i).state) :
    (tyreSwap b s).portA = s.portA := by
  unfold tyreSwap at h ⊢
  refine ((same_tyreSettle _).at .portA (by decide) : _ = _).trans (swapFold_portA b List.nodup_range ?_ hl fun i hi => ?_)
  · exact fun i hi => h16.symm ▸ List.mem_range.mp hi
  · rw [← h i hi, tyreSettle_position]

/-- A swap takes no telegram from the FIFO. -/
theorem tyreSwap_fifo (b : Image) (s : State) : (tyreSwap b s).tyre.fifo = s.tyre.fifo :=
  ((spared_fold (i := 16) b (by simp) s).trans (spared_tyreSettle 16 _)).fifo

end

end Sys2Proof.Machine
end

section
/-! PROOFS. A commit's report of success in RUN (R43, R88, R116, R119, R159, R162, R169): the parts of O55's first half. -/

namespace Sys2Proof.Machine

variable {s t u : State} {i : Nat} {w : Writing} {b : Image}

/-! ### A chain start opens no tyre incident -/

theorem unopened_demandLost (old new) (s : State) : Unopened i s (demandLost old new s) :=
  unopened_ite (unopened_openIncident (.inl (by decide)) s)
    (unopened_ite (unopened_closeIncident _ _ s) (unopened_of_eq rfl))

theorem unopened_enterOff (s : State) : Unopened i s (enterOff s) := by
  unfold enterOff
  split
  · exact unopened_of_eq rfl
  · refine Unopened.trans (unopened_closeIncident .stabilityIntervention 0 s) (unopened_of_eq ?_)
    simp [changeStab, originateStability, closeIncident, closeIncidents, dropStabInt, dropStabTest]

theorem unopened_reestablish (s : State) : Unopened i s (reestablish s) := by
  have hr : Unopened i s (remoded s) := (unopened_demandLost s.composer.mode (brakeMode s)
    (s.updComposer fun c => { c with effective := effectiveDemand s, mode := brakeMode s }) :)
  rw [reestablish_eq]
  refine unopened_ite hr (hr.trans ?_)
  unfold testOff
  exact unopened_ite (unopened_enterOff _) (unopened_of_eq rfl)

theorem unopened_endEmergency (s : State) : Unopened i s (setEmergency false s) := by
  unfold setEmergency
  refine unopened_ite (unopened_of_eq rfl) ?_
  exact (unopened_closeIncident .supplyEmergency 0 (s.updComposer fun c => { c with emergency := false }) :)

theorem unopened_reinitialise (s : State) : Unopened i s (reinitialise s) := by
  have hc : Unopened i s (closeKind .nodeDegraded (closeKind .chainFaulted (bindChain (chainReset s)))) :=
    (unopened_closeIncidents _ (bindChain (chainReset s))).trans (unopened_closeIncidents _ _)
  refine ((hc.trans ?_).trans (unopened_endEmergency _)).trans (unopened_reestablish _)
  exact unopened_of_same (L := [.wheel, .channels, .load])
    ((same_wheelReinit _).comp (same_recompose _) (by decide) (by decide)) (by decide)

theorem same_startAnew (s : State) : SameBut [.incidents, .portA, .chain, .wheel, .channels, .load, .composer, .stability] s
    (startChain true s) := by
  unfold startChain
  split
  · exact (begunAnew_sessionStart (.inl rfl)).frame.comp (same_startPeriod _) (by decide) (by decide)
  · exact .refl _ s

theorem unopened_startAnew (s : State) : Unopened i s (startChain true s) := by
  unfold startChain
  refine unopened_ite ?_ (unopened_of_eq rfl)
  refine (unopened_reinitialise s).trans (unopened_of_same (L := [.chain, .channels]) ?_ (by decide))
  exact (same_sendCommands _).comp (same_startPeriod _) (by decide) (by decide)

theorem spared_startAnew (i) (s : State) : Spared i s (startChain true s) :=
  .of_tyre ((same_startAnew s).at .tyre (by decide)) (unopened_startAnew s)

/-! ### The report itself -/

theorem same_followOn (s : State) : SameBut [.mgmt] s (followOn s) := by
  unfold followOn
  split
  · exact (same_updMgmt _ s).trans (same_updMgmt _ _)
  · exact .refl _ s

/-- The management unit's own effects at a commit's report of success, before the blocks apply the swap (R169). -/
def reported (w : Writing) (s : State) : State := answerCommit .done [] (endWrite (swapImage w (written w s)))

theorem same_answerCommit (res data) (s : State) : SameBut [.portA, .portB, .mgmt] s (answerCommit res data s) := by
  unfold answerCommit
  split
  · exact .refl _ s
  · next q _ =>
    have hq : ∀ p ∈ [portPart q.port], p ∈ [Part.portA, .portB, .mgmt] := by cases q.port <;> decide
    exact (same_respond _ _ _ _ s).comp (same_updMgmt _ _) hq (by decide)

theorem same_swapImage (w) (s : State) :
    SameBut [.active, .generation, .configInvalid, .hits, .mgmt, .incidents] s (swapImage w s) := by
  refine SameBut.comp (L := [.active, .generation, .configInvalid, .hits, .mgmt]) ?_ (same_closeKind _ _) (by decide)
    (by decide)
  intro p hp; cases p <;> simp at hp <;> rfl

theorem same_endWritten (w) (s : State) : SameBut [.active, .generation, .configInvalid, .store, .incidents, .hits, .mgmt] s
    (endWrite (swapImage w (written w s))) :=
  ((same_written w s).comp (N := [.active, .generation, .configInvalid, .store, .incidents, .hits, .mgmt])
    (same_swapImage w _) (by decide) (by decide)).comp (same_updMgmt _ _) (by decide) (by decide)

/-- The parts that the management unit's own effects may change. -/
def reportParts : List Part :=
  [.active, .generation, .configInvalid, .store, .incidents, .portA, .portB, .hits, .mgmt]

theorem same_reported (w) (s : State) : SameBut reportParts s (reported w s) :=
  (same_endWritten w s).comp (same_answerCommit _ _ _) (by decide) (by decide)

theorem reported_active (w) (s : State) : (reported w s).active = w.image :=
  (same_answerCommit _ _ _).at .active (by decide)

theorem answerCommit_of_none (h : s.mgmt.inProgress = none) (res data) : answerCommit res data s = s := by
  unfold answerCommit
  rw [h]

theorem reported_idle (h : s.mgmt.inProgress = none) : reported w s = endWrite (swapImage w (written w s)) :=
  answerCommit_of_none (s := endWrite (swapImage w (written w s))) h _ _

/-- The COMMIT in progress is answered DONE on its port (R162, R169). -/
theorem reported_port {q : InProgress} (h : s.mgmt.inProgress = some q) : (reported w s).port q.port =
    (s.port q.port).enqueue .general
      (answerTo s 6#8 { port := q.port, origin := q.origin, tag := q.tag, args := [] } .done []) := by
  have g := same_endWritten w s
  have hp : (endWrite (swapImage w (written w s))).port q.port = (s.port q.port) := by
    cases q.port
    · exact g.at .portA (by decide)
    · exact g.at .portB (by decide)
  unfold reported answerCommit
  rw [show (endWrite (swapImage w (written w s))).mgmt.inProgress = some q from h, ← hp]
  exact respond_port (r := { port := q.port, origin := q.origin, tag := q.tag, args := [] }) (g.at .relay (by decide))

theorem answerCommit_restartDue (res data) (s : State) : (answerCommit res data s).mgmt.restartDue = s.mgmt.restartDue := by
  unfold answerCommit
  split
  · rfl
  · next q _ =>
    have g := same_respond 6#8 { port := q.port, origin := q.origin, tag := q.tag, args := [] } res data s
    have hm : (respond 6#8 { port := q.port, origin := q.origin, tag := q.tag, args := [] } res data s).mgmt = s.mgmt :=
      g.at .mgmt (by show _ ∉ [portPart q.port]; cases q.port <;> decide)
    exact (congrArg Mgmt.restartDue hm :)

theorem same_applySwap (b) (s : State) : SameBut [.incidents, .portA, .channels, .load, .composer, .stability, .tyre] s
    (applySwap b (stabilitySwap s)) :=
  ((same_stabilitySwap s).comp (N := [.incidents, .portA, .channels, .load, .composer, .stability]) (same_reestablish _)
    (by decide) (by decide)).comp (same_tyreSwap b _) (by decide) (by decide)

theorem same_swapBlocks (b) (s : State) :
    SameBut [.incidents, .portA, .chain, .wheel, .channels, .load, .composer, .stability, .tyre] s (swapBlocks b s) := by
  unfold swapBlocks
  dsimp only
  split
  · exact (same_applySwap b s).comp (same_startAnew _) (by decide) (by decide)
  · exact (same_applySwap b s).mono (by decide)

theorem commitSucceeded_run (h : s.power.state = .run) (w) : commitSucceeded w s = swapBlocks s.active (reported w s) :=
  if_pos (by simp [State.inRun, h])

theorem commitSucceeded_out (h : s.power.state ≠ .run) (w) : commitSucceeded w s = holdSwap s.active (reported w s) :=
  if_neg (by simp [State.inRun, h])

theorem commitSucceeded_restartDue (w) (s : State) : (commitSucceeded w s).mgmt.restartDue = s.mgmt.restartDue := by
  have hr : (reported w s).mgmt.restartDue = s.mgmt.restartDue := answerCommit_restartDue _ _ _
  by_cases h : s.power.state = .run
  · have hm := (same_swapBlocks s.active (reported w s)).at .mgmt (by decide)
    rw [commitSucceeded_run h]
    exact (congrArg Mgmt.restartDue hm).trans hr
  · rw [commitSucceeded_out h]
    exact hr

/-- The report of a commit's success with no restart waiting (R169, R170). -/
theorem exec_commitSucceeded (hw : s.mgmt.writing = some w) (hc : w.commit = true) (hd : s.mgmt.restartDue = false) :
    exec .storeWriteSucceeded s = .next (followOn (commitSucceeded w s)) := by
  show Host.Outcome.next (writeSucceeded s) = _
  unfold writeSucceeded
  rw [hw]
  dsimp only
  rw [if_pos hc]
  unfold afterReport
  rw [if_neg (by simp [commitSucceeded_restartDue, hd])]

/-! ### The blocks in RUN -/

/-- What the blocks, and the follow-on write after them, may change at a swap in RUN. -/
def swapParts : List Part :=
  [.incidents, .portA, .chain, .wheel, .channels, .load, .composer, .stability, .tyre, .mgmt]

/-- The blocks have applied a swap from r to v (R88, R116, R119, R159). -/
structure Applied (b : Image) (r v : State) : Prop where
  follow    : BlocksFollow v
  took      : ∀ i ∈ List.range 16, TookFields b (swapTimer r) r v i
  kept      : UnitKept (stabilityRetuned r) v
  disabled  : r.active.stab.enable = false → v.stability.state = .off
  fallback  : FallbackOff v
  test      : v.stability.state = .test → TestedAt r.stability.testChannels r.active.stab.pTest v
  portA     : r.tyre.learn = none → v.stability.state = r.stability.state →
    (∀ i ∈ List.range 16, (v.position i).state = (r.position i).state) → v.portA = r.portA
  frame     : SameBut swapParts r v

/-- The table of R159 speaks of the tyre unit alone in the state before. -/
theorem TookFields.of_tyre {tm : Timer} (h : TookFields b tm t u i) (e : t.tyre = s.tyre) : TookFields b tm s u i := by
  have hp := position_congr e i
  have hl : t.tyre.learn = s.tyre.learn := congrArg Tyre.learn e
  have ha : learnAway t i ↔ learnAway s i := learnAway_congr hl
  obtain ⟨unused, unassigned, awaiting, kept, closed, learning⟩ := h
  rw [ha] at unused unassigned awaiting kept
  rw [hp] at kept learning
  rw [hl] at learning
  exact ⟨unused, unassigned, awaiting, kept, closed, learning⟩

theorem fallbackOff_of_same {L : List Part} (h : FallbackOff s) (g : SameBut L s t)
    (d : ∀ p ∈ [Part.composer, .stability], p ∉ L) : FallbackOff t := by
  have hc : t.composer = s.composer := g.at .composer (d _ (by decide))
  have hs : t.stability = s.stability := g.at .stability (d _ (by decide))
  unfold FallbackOff
  rw [hc, hs]
  exact h

/-- A unit that is on after a swap was not taken OFF by it. -/
theorem stabilitySwap_of_on (h : (stabilitySwap s).stability.state ≠ .off) : stabilitySwap s = stabilityRetuned s := by
  rw [stabilitySwap_eq] at *
  exact testOff_of_on h

theorem applied_applySwap (b : Image) (h6 : s.channels.length = 6) (h16 : s.tyre.positions.length = 16) :
    Applied b s (applySwap b (stabilitySwap s)) := by
  have g : SameBut [.incidents, .portA, .channels, .load, .composer, .stability] s (reestablish (stabilitySwap s)) :=
    (same_stabilitySwap s).comp (same_reestablish _) (by decide) (by decide)
  have gt := same_tyreSwap b (reestablish (stabilitySwap s))
  have htyre : (reestablish (stabilitySwap s)).tyre = s.tyre := g.at .tyre (by decide)
  have hlen : (stabilitySwap s).channels.length = 6 := (stabilitySwap_length s).trans h6
  have swapped : OffOrKept (stabilityRetuned s) (stabilitySwap s) := offOrKept_testOff _
  have kept : OffOrKept (stabilityRetuned s) (reestablish (stabilitySwap s)) := swapped.trans (offOrKept_reestablish _)
  have last : UnitKept (reestablish (stabilitySwap s)) (applySwap b (stabilitySwap s)) :=
    .of_eq (gt.at .stability (by decide))
  constructor
  case follow => exact blocksFollow_tyreSwap b (blocksFollow_reestablish hlen)
  case took =>
    intro i hi
    have ht := tookFields_tyreSwap b (htyre.symm ▸ h16) hi
    rw [swapTimer_congr (g.at .power (by decide)) (g.at .active (by decide))] at ht
    exact ht.of_tyre htyre
  case kept => exact kept.toUnitKept.trans last
  case disabled =>
    intro hd
    have hoff : (stabilitySwap s).stability.state = .off :=
      testOff_of_condition (s := stabilityRetuned s) (offCondition_of_disabled hd)
    exact ((offOrKept_reestablish _).toUnitKept.trans last).off hoff
  case fallback => exact fallbackOff_of_same (fallbackOff_reestablish (fallbackOff_testOff _)) gt (by decide)
  case test =>
    intro ht
    have hlast : (reestablish (stabilitySwap s)).stability.state ≠ .off := fun h =>
      absurd (ht.symm.trans (last.off h)) (by decide)
    have hfirst : (stabilitySwap s).stability.state ≠ .off := fun h => hlast ((offOrKept_reestablish _).off h)
    refine testedAt_tyreSwap b (testedAt_reestablish ?_ hlast)
    rw [stabilitySwap_of_on hfirst]
    exact testedAt_stabilityRetuned h6
  case portA =>
    intro hl hs hp
    have hm : (reestablish (stabilitySwap s)).stability.state = s.stability.state :=
      kept.middle (s := stabilityRetuned s) last hs
    refine (tyreSwap_portA b (htyre.symm ▸ h16) (htyre.symm ▸ hl) fun i hi => ?_).trans (kept.portA hm)
    exact (hp i hi).trans (congrArg Position.state (position_congr htyre i)).symm
  case frame => exact g.comp gt (by decide) (by decide)

/-- A chain start takes the stability unit OFF (R102, R122); a unit that is on has seen none. -/
theorem startAnew_of_on (hf : FallbackOff s) (h : (startChain true s).stability.state ≠ .off) : startChain true s = s := by
  unfold startChain at h ⊢
  split
  · next hc =>
    rw [if_pos hc] at h
    exact absurd (reinitialise_off hf) h
  · rfl

theorem Applied.started {r v : State} (h : Applied b r v) : Applied b r (startChain true v) := by
  have g := same_startAnew v
  have hk := offOrKept_startAnew v
  have hactive : (startChain true v).active = v.active := g.at .active (by decide)
  have on {x : StabState} (hx : x ≠ .off) (e : (startChain true v).stability.state = x) : startChain true v = v :=
    startAnew_of_on h.fallback (by rwa [e])
  constructor
  case follow => exact blocksFollow_startAnew h.follow
  case took => exact fun i hi => (h.took i hi).of_spared (.of_tyre rfl (unopened_of_eq rfl)) (spared_startAnew i v) hactive
  case kept => exact h.kept.trans hk.toUnitKept
  case disabled => exact fun hd => hk.off (h.disabled hd)
  case fallback =>
    intro hm
    by_contra hoff
    rw [on hoff rfl] at hm hoff
    exact hoff (h.fallback hm)
  case test =>
    intro ht
    have e := on (x := .test) (by decide) ht
    rw [e] at ht ⊢
    exact h.test ht
  case portA =>
    intro hl hs hp
    have hm : v.stability.state = r.stability.state := h.kept.middle (s := stabilityRetuned r) hk.toUnitKept hs
    refine (hk.portA (hs.trans hm.symm)).trans (h.portA hl hm fun i hi => ?_)
    rw [← hp i hi, (spared_startAnew i v).position]
  case frame => exact h.frame.comp g (by decide) (by decide)

theorem Applied.followed {r v : State} (h : Applied b r v) : Applied b r (followOn v) := by
  have g := same_followOn v
  have hs : (followOn v).stability = v.stability := g.at .stability (by decide)
  constructor
  case follow => exact h.follow.frame g (by decide)
  case took =>
    exact fun i hi => (h.took i hi).of_spared (.of_tyre rfl (unopened_of_eq rfl)) (.of_same g (by decide))
      (g.at .active (by decide))
  case kept => exact h.kept.trans (.of_eq hs)
  case disabled => exact fun hd => (congrArg Stability.state hs).trans (h.disabled hd)
  case fallback => exact fallbackOff_of_same h.fallback g (by decide)
  case test => exact fun ht => (h.test ((congrArg Stability.state hs).symm.trans ht)).frame g (by decide)
  case portA =>
    intro hl ht hp
    refine (g.at .portA (by decide) : _ = _).trans (h.portA hl ((congrArg Stability.state hs).symm.trans ht) fun i hi => ?_)
    rw [← hp i hi, position_congr (g.at .tyre (by decide))]
  case frame => exact h.frame.comp g (by decide) (by decide)

theorem applied_swapBlocks (b : Image) (h6 : s.channels.length = 6) (h16 : s.tyre.positions.length = 16) :
    Applied b s (swapBlocks b s) := by
  have h := applied_applySwap b h6 h16
  unfold swapBlocks
  dsimp only
  split
  · exact h.started
  · exact h

/-! ### The chain at a swap (R43) -/

theorem startsAtSwap_iff (s : State) :
    startsAtSwap s = true ↔ s.power.state = .run ∧ s.power.settle = none ∧ s.chain.period = none := by
  simp [startsAtSwap, State.inRun, and_assoc]

theorem startsAtSwap_congr (hp : t.power = s.power) (hc : t.chain = s.chain) : startsAtSwap t = startsAtSwap s := by
  unfold startsAtSwap State.inRun
  rw [hp, hc]

/-- An unconfigured chain starts at the swap with session number 1 (R43, log entry 11). -/
theorem swapBlocks_starts (hs : startsAtSwap s = true) (hc : s.active.chain.count ≠ 0) (b) :
    let c := (swapBlocks b s).chain
    c.bound = some s.active.chain ∧ c.health = .starting ∧ c.session = 1 ∧ c.outstanding = some 1 ∧
      c.period = some s.active.chain.period := by
  have g := same_applySwap b s
  have hstarts := startsAtSwap_congr (g.at .power (by decide)) (g.at .chain (by decide))
  have hactive : (applySwap b (stabilitySwap s)).active = s.active := g.at .active (by decide)
  unfold swapBlocks
  dsimp only
  rw [hstarts, if_pos hs]
  generalize applySwap b (stabilitySwap s) = v at g hactive
  have hrun : v.power.state = .run := by
    rw [show v.power = s.power from g.at .power (by decide)]
    exact ((startsAtSwap_iff s).mp hs).1
  have hb : BegunAnew v (sessionStart true v) := begunAnew_sessionStart (.inl rfl)
  unfold startChain
  rw [if_pos (by simp [State.inRun, hrun, hactive, ChainRec.configured, hc]), startPeriod_chain, hb.chain,
    show (sessionStart true v).active = v.active from hb.frame.at .active (by decide), hactive]
  exact ⟨rfl, rfl, rfl, rfl, rfl⟩

theorem swapBlocks_chain_kept (h : startsAtSwap s = false ∨ s.active.chain.count = 0) (b) :
    (swapBlocks b s).chain = s.chain := by
  have g := same_applySwap b s
  have hchain : (applySwap b (stabilitySwap s)).chain = s.chain := g.at .chain (by decide)
  have hstarts := startsAtSwap_congr (g.at .power (by decide)) hchain
  unfold swapBlocks
  dsimp only
  rw [hstarts]
  split
  · next hs =>
    unfold startChain
    rw [if_neg, hchain]
    rw [show (applySwap b (stabilitySwap s)).active = s.active from g.at .active (by decide)]
    simp [ChainRec.configured, h.resolve_left (by simp [hs])]
  · exact hchain

/-! ### The report in RUN and out of RUN -/

/-- Out of RUN the blocks keep what they hold (R176). -/
theorem swap_held (hrun : s.power.state ≠ .run) (w : Writing) :
    let t := followOn (commitSucceeded w s)
    t.unapplied = some (s.unapplied.getD s.active) ∧
      (s.mgmt.inProgress = none → t.portA = s.portA ∧ t.portB = s.portB) ∧
      SameBut [.active, .generation, .configInvalid, .store, .incidents, .portA, .portB, .hits, .mgmt, .unapplied] s t := by
  have gr := same_reported w s
  have gf := same_followOn (holdSwap s.active (reported w s))
  have gh := same_holdSwap s.active (reported w s)
  rw [commitSucceeded_out hrun]
  refine ⟨?_, fun hi => ?_, (gr.comp (N := reportParts ++ [.unapplied]) gh (by decide) (by decide)).comp gf (by decide)
    (by decide)⟩
  · refine (gf.at .unapplied (by decide) : _ = _).trans ?_
    show some ((reported w s).unapplied.getD s.active) = _
    rw [show (reported w s).unapplied = s.unapplied from gr.at .unapplied (by decide)]
  · have ge := same_endWritten w s
    rw [reported_idle hi] at gf gh ⊢
    exact ⟨(gf.at .portA (by decide) : _ = _).trans (ge.at .portA (by decide)),
      (gf.at .portB (by decide) : _ = _).trans (ge.at .portB (by decide))⟩

end Sys2Proof.Machine
end

section
/-! PROOFS. A swap that waits out of RUN (R176): the events that apply it are those of the state with it applied. -/

namespace Sys2Proof.Machine

variable {s t u : State} {i : Nat} {w : Writing} {b : Image}

/-! ### The swap in RUN -/

theorem swapTimer_of_run (h : s.power.state = .run) : swapTimer s = some (s.active.tuning.missing * 60000) := by
  unfold swapTimer
  rw [if_neg (by simp [h])]
  rfl

/-- At a commit's report of success in RUN the blocks apply the new image (R169). -/
theorem applied_commitSucceeded (hrun : s.power.state = .run) (h6 : s.channels.length = 6)
    (h16 : s.tyre.positions.length = 16) (w : Writing) :
    Applied s.active (reported w s) (followOn (commitSucceeded w s)) := by
  have gr := same_reported w s
  rw [commitSucceeded_run hrun]
  refine (applied_swapBlocks s.active ?_ ?_).followed
  · exact six_of_same h6 gr (by decide)
  · rw [show (reported w s).tyre = s.tyre from gr.at .tyre (by decide)]
    exact h16

theorem commitSucceeded_chain (hrun : s.power.state = .run) (w : Writing) :
    (followOn (commitSucceeded w s)).chain = (swapBlocks s.active (reported w s)).chain := by
  rw [commitSucceeded_run hrun]
  exact (same_followOn _).at .chain (by decide)

/-- In RUN the swap reaches every block (R43, R88, R116, R119, R159, R162). -/
theorem swap_applied (hrun : s.power.state = .run) (hu : s.unapplied = none) (h6 : s.channels.length = 6)
    (h16 : s.tyre.positions.length = 16) (w : Writing) :
    let t := followOn (commitSucceeded w s)
    t.unapplied = none ∧ ChannelsFollow t ∧ LoadFollows t ∧ ModeFollows t ∧
      (∀ i ∈ List.range 16, TookFields s.active (some (w.image.tuning.missing * 60000)) s t i) ∧
      (s.power.settle = none → s.chain.period = none → w.image.chain.count ≠ 0 →
        t.chain.bound = some w.image.chain ∧ t.chain.health = .starting ∧ t.chain.session = 1 ∧
        t.chain.outstanding = some 1 ∧ t.chain.period = some w.image.chain.period) ∧
      (s.power.settle ≠ none ∨ s.chain.period ≠ none ∨ w.image.chain.count = 0 → t.chain = s.chain) ∧
      (let n := thresholdOf w.image.stab s.stability.load s.stability.severity
       t.stability.load = s.stability.load ∧ t.stability.severity = s.stability.severity ∧ t.stability.threshold = n ∧
        t.stability.watchLevel = n * w.image.stab.w / 256 ∧ t.stability.releaseLevel = n * w.image.stab.rr / 256) ∧
      (w.image.stab.enable = false → t.stability.state = .off) ∧
      (t.stability.state = .test → t.stability.testChannels = s.stability.testChannels ∧
        ∀ c ∈ channelNumbers, c ∈ s.stability.testChannels → channelExists t c = true →
          (t.channel c).stabTest = some w.image.stab.pTest) ∧
      (∀ q, s.mgmt.inProgress = some q →
        let answer := answerTo s 6#8 { port := q.port, origin := q.origin, tag := q.tag, args := [] } .done []
        (q.port = .B → t.portB = s.portB.enqueue .general answer) ∧
        (q.port = .A → s.tyre.learn = none → t.stability.state = s.stability.state →
          (∀ i ∈ List.range 16, (t.position i).state = (s.position i).state) →
            t.portA = s.portA.enqueue .general answer)) := by
  have h := applied_commitSucceeded hrun h6 h16 w
  have hchain := commitSucceeded_chain hrun w
  have hport : ∀ q, s.mgmt.inProgress = some q → (reported w s).port q.port = (s.port q.port).enqueue .general
      (answerTo s 6#8 { port := q.port, origin := q.origin, tag := q.tag, args := [] } .done []) := fun q => reported_port
  have gr := same_reported w s
  have hactive := reported_active w s
  have hpower : (reported w s).power = s.power := gr.at .power (by decide)
  have hrchain : (reported w s).chain = s.chain := gr.at .chain (by decide)
  have htyre : (reported w s).tyre = s.tyre := gr.at .tyre (by decide)
  have hstab : (reported w s).stability = s.stability := gr.at .stability (by decide)
  have hheld : (reported w s).unapplied = none := (gr.at .unapplied (by decide) : _ = _).trans hu
  generalize reported w s = r at h hchain hport hactive hpower hrchain htyre hstab hheld
  generalize followOn (commitSucceeded w s) = t at h hchain
  have hstarts := startsAtSwap_iff r
  have hretuned := stabilityRetuned_stability r
  rw [hpower, hrchain] at hstarts
  rw [hstab, hactive] at hretuned
  have hk := h.kept
  refine ⟨(h.frame.at .unapplied (by decide)).trans hheld, h.follow.channels, h.follow.load, h.follow.mode.modeFollows,
    fun i hi => ?took, fun hsettle hperiod hc => ?starts, fun hn => ?keeps, ⟨?_, ?_, ?_, ?_, ?_⟩, ?off, fun ht => ?test,
    fun q hq => ⟨fun hB => ?portB, fun hA hl hs hp => ?portA⟩⟩
  case took =>
    have ht := (h.took i hi).of_tyre htyre
    rwa [swapTimer_of_run (by rw [hpower]; exact hrun), hactive] at ht
  case starts =>
    rw [hchain, ← hactive]
    exact swapBlocks_starts (hstarts.mpr ⟨hrun, hsettle, hperiod⟩) (by rw [hactive]; exact hc) _
  case keeps =>
    rw [hchain, ← hrchain]
    refine swapBlocks_chain_kept ?_ _
    rw [hactive, ← Bool.not_eq_true, hstarts]
    tauto
  case off => exact fun hd => h.disabled (by rw [hactive]; exact hd)
  case test =>
    obtain ⟨-, htest⟩ := h.test ht
    rw [hstab, hactive] at htest
    exact ⟨(hk.tests ht).trans (by rw [hretuned]), htest⟩
  case portB =>
    have hp := hport q hq
    rw [hB] at hp ⊢
    exact (h.frame.at .portB (by decide)).trans hp
  case portA =>
    have hp' := hport q hq
    rw [hA] at hp' ⊢
    refine (h.portA (by rw [htyre]; exact hl) (by rw [hstab]; exact hs) fun i hi => ?_).trans hp'
    rw [position_congr htyre]
    exact hp i hi
  · exact hk.load.trans (by rw [hretuned])
  · exact hk.severity.trans (by rw [hretuned])
  · exact hk.threshold.trans (by rw [hretuned])
  · exact hk.levels.1.trans (by rw [hretuned])
  · exact hk.levels.2.trans (by rw [hretuned])

end Sys2Proof.Machine
end

section
/-! PROOFS. The link-power flag is nothing to the blocks that apply a swap (R88, R116, R159, R182): recording link power and
applying the swap commute. -/

namespace Sys2Proof.Machine

variable {s : State}

/-- A choice between two states, link power recorded after it. -/
theorem relinked_ite {c : Prop} [Decidable c] (a b : State) :
    relinked (if c then a else b) = if c then relinked a else relinked b := apply_ite relinked c a b

/-! ### Incidents and loads -/

theorem openIncident_relinked (k d) (s : State) : openIncident k d (relinked s) = relinked (openIncident k d s) := by
  unfold openIncident
  rw [relinked_ite]
  rfl

theorem closeIncident_relinked (k d) (s : State) : closeIncident k d (relinked s) = relinked (closeIncident k d s) := rfl

theorem recompose_relinked (s : State) : recompose (relinked s) = relinked (recompose s) := rfl

/-! ### The composer and the stability unit -/

theorem demandLost_relinked (old new) (s : State) : demandLost old new (relinked s) = relinked (demandLost old new s) := by
  unfold demandLost
  rw [relinked_ite, relinked_ite, openIncident_relinked]
  rfl

theorem remoded_relinked (s : State) : remoded (relinked s) = relinked (remoded s) := by
  show recompose (demandLost s.composer.mode (brakeMode s) (relinked (s.updComposer fun c =>
    { c with effective := effectiveDemand s, mode := brakeMode s }))) = _
  rw [demandLost_relinked, recompose_relinked]
  rfl

theorem enterOff_relinked (s : State) : enterOff (relinked s) = relinked (enterOff s) := by
  unfold enterOff
  rw [relinked_ite]
  rfl

theorem testOff_relinked (s : State) : testOff (relinked s) = relinked (testOff s) := by
  unfold testOff
  rw [relinked_ite, enterOff_relinked]
  rfl

theorem reestablish_relinked (s : State) : reestablish (relinked s) = relinked (reestablish s) := by
  rw [reestablish_eq, reestablish_eq, relinked_ite, remoded_relinked, testOff_relinked]
  rfl

/-! ### The tyre unit -/

theorem driveLamp_relinked (s : State) : driveLamp (relinked s) = relinked (driveLamp s) := by
  unfold driveLamp
  dsimp only
  rw [relinked_ite]
  rfl

theorem tyreSettle_relinked (s : State) : tyreSettle (relinked s) = relinked (tyreSettle s) := by
  unfold tyreSettle
  rw [driveLamp_relinked, recompose_relinked]

theorem setTyreState_relinked (i st) (s : State) : setTyreState i st (relinked s) = relinked (setTyreState i st s) := by
  unfold setTyreState
  dsimp only
  rw [relinked_ite]
  rfl

theorem tyreIncidents_relinked (i a b) (s : State) :
    tyreIncidents i a b (relinked s) = relinked (tyreIncidents i a b s) := by
  unfold tyreIncidents
  simp only [relinked_ite, ← openIncident_relinked, ← closeIncident_relinked]

theorem releveled_relinked (i level) (s : State) : releveled i level (relinked s) = relinked (releveled i level s) :=
  tyreIncidents_relinked i (s.position i) { s.position i with level := level }
    (s.updPosition i fun _ => { s.position i with level := level })

theorem setAtSwap_relinked (i st) (s : State) : setAtSwap i st (relinked s) = relinked (setAtSwap i st s) := by
  have hl : (relinked s).tyre.learn = s.tyre.learn := rfl
  unfold setAtSwap
  rw [hl]
  cases s.tyre.learn with
  | none => exact setTyreState_relinked i st s
  | some l =>
    dsimp only
    rw [relinked_ite, setTyreState_relinked]
    rfl

theorem endLearnAt_relinked (i) (s : State) : endLearnAt i (relinked s) = relinked (endLearnAt i s) := by
  have hl : (relinked s).tyre.learn = s.tyre.learn := rfl
  cases h : s.tyre.learn with
  | none => rw [endLearnAt_of_none (hl.trans h), endLearnAt_of_none h]
  | some l =>
    unfold endLearnAt
    rw [hl, h]
    dsimp only
    rw [relinked_ite, endLearn_eq h, endLearn_eq (hl.trans h), ← tyreSettle_relinked, ← setTyreState_relinked]
    rfl

theorem clearAtSwap_relinked (i st tm) (s : State) : clearAtSwap i st tm (relinked s) = relinked (clearAtSwap i st tm s) :=
  setAtSwap_relinked i st (closeTyreIncidents i (s.updPosition i fun q => Position.cleared q.state tm))

theorem rejudged_relinked (i level) (s : State) : rejudged i level (relinked s) = relinked (rejudged i level s) := by
  unfold rejudged
  rw [relinked_ite, releveled_relinked, setAtSwap_relinked]
  rfl

theorem reevaluate_relinked (i) (s : State) : reevaluate i (relinked s) = relinked (reevaluate i s) := by
  have hp : (relinked s).position i = s.position i := rfl
  cases h : (s.position i).lastP with
  | none => rw [reevaluate_of_none h, reevaluate_of_none (s := relinked s) h]
  | some p =>
    rw [reevaluate_of_some h, reevaluate_of_some (s := relinked s) h, ← rejudged_relinked]
    rfl

theorem swapPosition_relinked (b i) (s : State) : swapPosition b i (relinked s) = relinked (swapPosition b i s) := by
  unfold swapPosition
  dsimp only
  rw [relinked_ite, relinked_ite, relinked_ite, ← clearAtSwap_relinked, ← clearAtSwap_relinked, ← clearAtSwap_relinked,
    ← reevaluate_relinked, ← endLearnAt_relinked]
  rfl

theorem tyreSwap_relinked (b) (s : State) : tyreSwap b (relinked s) = relinked (tyreSwap b s) := by
  unfold tyreSwap
  rw [List.foldl_hom relinked fun v i => swapPosition_relinked b i v, tyreSettle_relinked]

theorem applyHeld_relinked (s : State) : applyHeld (relinked s) = relinked (applyHeld s) := by
  have hu : (relinked s).unapplied = s.unapplied := rfl
  cases h : s.unapplied with
  | none => rw [applyHeld_none s h, applyHeld_none (relinked s) h]
  | some b =>
    rw [applyHeld_some h, applyHeld_some (s := relinked s) h, ← tyreSwap_relinked, ← reestablish_relinked]
    rfl

end Sys2Proof.Machine
end

section
/-! PROOFS. When a waiting swap is applied (R176): at every change of the power state it has been. -/

namespace Sys2Proof.Machine

variable {s t u : State} {L : List Part}

/-- Where the power state changes from s to t, no swap waits in t. -/
def SwapSettled (s t : State) : Prop := t.power.state ≠ s.power.state → t.unapplied = none

theorem settled_of_state (h : t.power.state = s.power.state) : SwapSettled s t := fun hn => absurd h hn

theorem settled_of_same (g : SameBut L s t) (d : Part.power ∉ L) : SwapSettled s t :=
  settled_of_state (by rw [show t.power = s.power from g.at .power d])

theorem settled_of_none (h : t.unapplied = none) : SwapSettled s t := fun _ => h

/-- A timer's run down changes no power state. -/
theorem settled_onExpiry {f : State → State} (hf : ∀ e, SwapSettled e (f e)) (x : Timer) (s : State) :
    SwapSettled s (onExpiry x f s) := by
  cases x with
  | none => exact settled_of_state rfl
  | some r => exact hf (elapse r s)

theorem settled_expiry {f : State → State} (hf : ∀ e, SameBut L e (f e)) (d : Part.power ∉ L) (x : Timer) (s : State) :
    SwapSettled s (onExpiry x f s) := settled_onExpiry (fun e => settled_of_same (hf e) d) x s

/-! ### The power controller -/

theorem enterSleep_unapplied (s : State) : (enterSleep s).unapplied = none :=
  ((same_tyreSleep _).at .unapplied (by decide) : _ = _).trans (applyHeld_unapplied s)

theorem startListening_unapplied (s : State) : (startListening s).unapplied = none :=
  ((same_tyreWake _).at .unapplied (by decide) : _ = _).trans (applyHeld_unapplied s)

theorem enterRun_unapplied (s : State) : (enterRun s).unapplied = none := by
  have hr : (enterRun s).unapplied = (setEmergency false (chainEntersRun (runPower (applyHeld s)))).unapplied :=
    (same_reestablish _).at .unapplied (by decide)
  have he : (setEmergency false (chainEntersRun (runPower (applyHeld s)))).unapplied = (applyHeld s).unapplied :=
    (same_setEmergency false _).at .unapplied (by decide)
  rw [hr, he, applyHeld_unapplied]

theorem powerOn_settled (s : State) : SwapSettled s (powerOn s) := by
  unfold powerOn
  dsimp only
  split
  · exact settled_of_state rfl
  · split
    · exact settled_of_none (((same_tyreWake _).at .unapplied (by decide) : _ = _).trans (enterRun_unapplied _))
    · exact settled_of_none (enterRun_unapplied _)

theorem coldStart_unapplied (v l) (s : State) : (coldStart v l s).unapplied = none := by
  rw [coldStart_eq]
  split
  · exact enterRun_unapplied _
  · exact enterSleep_unapplied _

theorem powerOff_unapplied (hrun : s.inRun = true) (hu : s.unapplied = none) (v) : (powerOff v s).unapplied = none := by
  have ht : (turnedOff v s).unapplied = none := by
    have hl : (turnedOff v s).unapplied = (updateVoltage (min 400 v) (unpowered s)).unapplied :=
      (same_leaveRun _).at .unapplied (by decide)
    have hv : (updateVoltage (min 400 v) (unpowered s)).unapplied = (unpowered s).unapplied :=
      (same_updateVoltage _ (unpowered s) hrun).at .unapplied (by decide)
    exact (hl.trans hv).trans hu
  rw [powerOff_eq]
  split
  · exact ht
  · exact enterSleep_unapplied _

theorem parkExpired_settled (s : State) : SwapSettled s (parkExpired s) := by
  unfold parkExpired
  split
  · exact settled_of_state rfl
  · split
    · exact settled_of_state rfl
    · exact settled_of_none (enterSleep_unapplied _)

theorem listenExpired_settled (s : State) : SwapSettled s (listenExpired s) := by
  unfold listenExpired
  split
  · exact settled_of_state rfl
  · split
    · exact settled_of_state rfl
    · exact settled_of_none (enterSleep_unapplied _)

theorem wakeExpired_settled (s : State) : SwapSettled s (wakeExpired s) := by
  unfold wakeExpired
  split
  · exact settled_of_none (startListening_unapplied _)
  · exact settled_of_state rfl

theorem wakeLine_settled (s : State) : SwapSettled s (wakeLine s) := by
  unfold wakeLine
  split
  · exact settled_of_none (startListening_unapplied _)
  · exact settled_of_state rfl

theorem sampleExpired_settled (v) (s : State) : SwapSettled s (sampleExpired v s) := by
  unfold sampleExpired
  dsimp only
  split
  · unfold updateVoltage
    dsimp only
    split
    · split
      · exact settled_of_state rfl
      · exact settled_of_none (enterSleep_unapplied _)
    · exact settled_of_state rfl
  · exact settled_of_state rfl

/-! ### The tyre unit -/

/-- The parts that a waiting swap may change when it is applied. -/
def heldParts : List Part := [.incidents, .portA, .channels, .load, .composer, .stability, .tyre, .unapplied]

theorem deliver_settled (b) (s : State) : SwapSettled s (deliver b s) := by
  unfold deliver
  split
  · exact settled_of_state rfl
  · have g : ∀ f, SameBut heldParts s ((applyHeld s).updTyre f) := fun f =>
      (same_applyHeld s).comp (same_updTyre f _) (by decide) (by decide)
    dsimp only
    split
    · exact settled_of_same (g _) (by decide)
    · exact settled_of_same (g _) (by decide)

theorem missingExpired_settled (i) (s : State) : SwapSettled s (missingExpired i s) := by
  unfold missingExpired
  dsimp only
  split
  · exact settled_of_same (L := heldParts) ((same_applyHeld s).comp (same_fallSilent i _) (by decide) (by decide)) (by decide)
  · exact settled_of_same (same_applyHeld s) (by decide)

theorem same_handleTelegram_idle (x) (h : s.tyre.learn = none) :
    SameBut [.incidents, .portA, .channels, .load, .tyre] s (handleTelegram x s) := by
  unfold handleTelegram offerLearn
  rw [h]
  split
  · exact .refl _ s
  · split
    · exact .refl _ s
    · split
      · exact .refl _ s
      · exact same_acceptTelegram _ _ _ s

/-- With no learn running a telegram taken changes no power state (R146). -/
theorem takeTelegram_settled (h : s.tyre.learn = none) : SwapSettled s (takeTelegram s) := by
  unfold takeTelegram
  split
  · exact settled_of_state rfl
  · next x rest _ =>
    have hl : ((applyHeld s).updTyre fun u => { u with fifo := rest }).tyre.learn = none := applyHeld_learn h
    have hu := (same_applyHeld s).comp (N := heldParts) (same_updTyre (fun u => { u with fifo := rest }) _) (by decide)
      (by decide)
    exact settled_of_same (L := heldParts) (hu.comp (same_handleTelegram_idle x hl) (by decide) (by decide)) (by decide)

/-! ### The store's reports out of RUN -/

theorem afterReport_settled (hd : t.mgmt.restartDue = false) (h : SwapSettled s t) : SwapSettled s (afterReport t) := by
  have g := same_followOn t
  unfold afterReport
  rw [if_neg (by simp [hd])]
  unfold SwapSettled
  rw [show (followOn t).power = t.power from g.at .power (by decide),
    show (followOn t).unapplied = t.unapplied from g.at .unapplied (by decide)]
  exact h

theorem same_commitSucceeded_out (hrun : s.power.state ≠ .run) (w) :
    SameBut (reportParts ++ [.unapplied]) s (commitSucceeded w s) := by
  rw [commitSucceeded_out hrun]
  exact (same_reported w s).comp (same_holdSwap _ _) (by decide) (by decide)

theorem writeSucceeded_settled (hrun : s.power.state ≠ .run) (hd : s.mgmt.restartDue = false) :
    SwapSettled s (writeSucceeded s) := by
  unfold writeSucceeded
  split
  · exact settled_of_state rfl
  · next w _ =>
    split
    · exact afterReport_settled ((commitSucceeded_restartDue w s).trans hd)
        (settled_of_same (same_commitSucceeded_out hrun w) (by decide))
    · exact afterReport_settled hd (settled_of_state rfl)

theorem same_commitFailed (res data) (s : State) : SameBut [.store, .incidents, .portA, .portB, .mgmt] s
    (openIncident .storeWriteFailed 1 (answerCommit res data (endWrite (spoilStore s)))) := by
  have he := (same_spoilStore s).comp (N := [.store, .mgmt]) (same_updMgmt (fun m => { m with writing := none }) _) (by decide)
    (by decide)
  exact (he.comp (N := [.store, .portA, .portB, .mgmt]) (same_answerCommit _ _ _) (by decide) (by decide)).comp
    (same_openIncident _ _ _) (by decide) (by decide)

theorem writeFailed_settled (hd : s.mgmt.restartDue = false) : SwapSettled s (writeFailed s) := by
  unfold writeFailed
  split
  · exact settled_of_state rfl
  · dsimp only
    split
    · refine afterReport_settled ?_ (settled_of_same (same_commitFailed _ _ s) (by decide))
      rw [openIncident_mgmt, answerCommit_restartDue]
      exact hd
    · refine afterReport_settled ?_ (settled_of_state ?_)
      · rw [openIncident_mgmt]
        exact hd
      · rw [openIncident_power]
        rfl

/-! ### Every command -/

/-- A command that keeps a running part running, and that out of RUN is disregarded. -/
theorem settled_of_running_or_same {c : Instr} (h : PowerWf s) (run : Running s → ∃ t, exec c s = .next t ∧ Running t)
    (rest : Resting s → exec c s = .next s) : ∃ t, exec c s = .next t ∧ SwapSettled s t :=
  h.cases.elim (fun hr => (run hr).imp fun _ ht => ⟨ht.1, settled_of_none ht.2.swap⟩)
    fun hr => ⟨s, rest hr, settled_of_state rfl⟩

/-- The same of a timer that runs in RUN alone. -/
theorem settled_of_timer {c : Instr} {x : Timer} {f : State → State} (h : PowerWf s) (e : exec c s = .next (onExpiry x f s))
    (run : ∀ e, Running e → Running (f e)) (rest : Resting s → x = none) : ∃ t, exec c s = .next t ∧ SwapSettled s t :=
  settled_of_running_or_same h (fun hr => ⟨_, e, running_onExpiry hr x run⟩) fun hr => by rw [e, rest hr]; rfl

/-- A command that either keeps a running part running or finds the part at rest. -/
theorem settled_of_cases (h : PowerWf s) (run : Running s → Running t) (rest : Resting s → SwapSettled s t) :
    SwapSettled s t := h.cases.elim (fun hr => settled_of_none (run hr).swap) rest

theorem settled_exec (h : PowerWf s) (i : Instr) : ∃ t, exec i s = .next t ∧ SwapSettled s t := by
  have request : ∀ r, ∀ p ∈ requestsOf r, ∃ t, exec p.2 s = .next t ∧ SwapSettled s t := fun r p hp =>
    settled_of_running_or_same h (fun hr => running_request hr r p hp) fun hr => request_of_out hr.inRun r p hp
  cases i with
  | frameReceived p f o =>
    exact settled_of_running_or_same h (fun hr => ⟨_, rfl, running_receiveFrame p f o hr⟩) fun hr =>
      frameReceived_of_out hr.inRun p f o
  | presenceTimerExpiry p => exact settled_of_timer h rfl (fun _ he => running_presenceExpired p he) (·.rests.presence p)
  | linkReportTransmitted p r =>
    refine ⟨_, rfl, ?_⟩
    split
    · refine settled_of_cases h (running_reportTransmitted p) fun hr => ?_
      unfold reportTransmitted
      dsimp only
      rw [triggerRestart_of_none ((same_updPort p _ s).at .mgmt (by cases p <;> decide) ▸ hr.rests.restart.1)]
      exact settled_of_same (L := [portPart p]) (by split <;> exact same_updPort p _ s) (by cases p <;> decide)
    · exact settled_of_state rfl
  | linkReportNotSent p r =>
    refine ⟨_, rfl, ?_⟩
    split
    · exact settled_of_same (same_updPort p _ s) (by cases p <;> decide)
    · exact settled_of_state rfl
  | discoveryTimerExpiry => exact ⟨_, rfl, settled_expiry same_discoveryExpired (by decide) _ s⟩
  | warnTimerExpiry => exact ⟨_, rfl, settled_expiry same_warnExpired (by decide) _ s⟩
  | statusTimerExpiry => exact ⟨_, rfl, settled_expiry same_statusExpired (by decide) _ s⟩
  | tyreTimerExpiry => exact ⟨_, rfl, settled_expiry same_tyreExpired (by decide) _ s⟩
  | periodTimerExpiry o => exact settled_of_timer h rfl (fun _ he => running_periodExpired o he) (·.rests.chain.1)
  | responseListReturn l o =>
    exact settled_of_running_or_same h (fun hr => ⟨_, rfl, running_listReturned l o hr⟩) fun hr =>
      congrArg _ (listReturned_of_none hr.rests.chain.2.1 l o)
  | stationaryTimerExpiry => exact ⟨_, rfl, settled_expiry (same_updWheel _) (by decide) _ s⟩
  | demandTimerExpiry =>
    exact ⟨_, rfl, settled_expiry (L := [.incidents, .portA, .channels, .load, .composer, .stability])
      (fun e => (same_updComposer _ e).comp (same_reestablish _) (by decide) (by decide)) (by decide) _ s⟩
  | testWindowExpiry =>
    refine ⟨_, rfl, settled_onExpiry (fun e => ?_) _ s⟩
    split
    · exact settled_of_same (same_abandonTest e) (by decide)
    · exact settled_of_state rfl
  | spacingTimerExpiry => exact ⟨_, rfl, settled_expiry (same_updStab _) (by decide) _ s⟩
  | recoverTimerExpiry => exact settled_of_timer h rfl (fun _ he => running_recovered he) (·.recover)
  | telegramDelivered b => exact ⟨_, rfl, deliver_settled b s⟩
  | telegramTaken => exact ⟨_, rfl, settled_of_cases h running_takeTelegram fun hr => takeTelegram_settled hr.rests.learn⟩
  | missingTimerExpiry i =>
    refine ⟨_, rfl, ?_⟩
    split
    · exact settled_onExpiry (missingExpired_settled i) _ s
    · exact settled_of_state rfl
  | learnTimerExpiry => exact ⟨_, rfl, settled_expiry same_endLearn (by decide) _ s⟩
  | lampBlinkToggle => exact ⟨_, rfl, settled_expiry (same_updTyre _) (by decide) _ s⟩
  | identify r => exact request r (1#8, _) (by simp [requestsOf])
  | read r => exact request r (2#8, _) (by simp [requestsOf])
  | enterService r => exact request r (3#8, _) (by simp [requestsOf])
  | leaveService r => exact request r (4#8, _) (by simp [requestsOf])
  | stage r => exact request r (5#8, _) (by simp [requestsOf])
  | commit r => exact request r (6#8, _) (by simp [requestsOf])
  | discard r => exact request r (7#8, _) (by simp [requestsOf])
  | clearIncidents r => exact request r (11#8, _) (by simp [requestsOf])
  | learnTyre r => exact request r (8#8, _) (by simp [requestsOf])
  | cancelLearn r => exact request r (9#8, _) (by simp [requestsOf])
  | serviceTest r => exact request r (10#8, _) (by simp [requestsOf])
  | restart r => exact request r (12#8, _) (by simp [requestsOf])
  | unknownRequest c r =>
    exact settled_of_running_or_same h (fun hr => ⟨_, rfl, running_doUnknown c r hr⟩) fun hr => unknown_of_out hr.inRun c r
  | serviceIdleTimerExpiry => exact ⟨_, rfl, settled_expiry same_endService (by decide) _ s⟩
  | restartDelayExpiry =>
    refine ⟨_, rfl, settled_of_cases h (fun hr => running_onExpiry hr _ fun _ he => running_triggerRestart he) fun hr => ?_⟩
    cases s.mgmt.restartTimer with
    | none => exact settled_of_state rfl
    | some r =>
      unfold onExpiry
      dsimp only
      rw [triggerRestart_of_none (s := elapse r s) hr.rests.restart.1]
      exact settled_of_state rfl
  | storeWriteSucceeded =>
    exact ⟨_, rfl, settled_of_cases h running_writeSucceeded fun hr => writeSucceeded_settled hr.out hr.rests.restart.2⟩
  | storeWriteFailed =>
    exact ⟨_, rfl, settled_of_cases h running_writeFailed fun hr => writeFailed_settled hr.rests.restart.2⟩
  | coldStart v l => exact ⟨_, rfl, settled_of_none (coldStart_unapplied v l s)⟩
  | linkPowerOff v =>
    refine ⟨_, rfl, ?_⟩
    split
    · next hrun =>
      exact settled_of_none (powerOff_unapplied hrun (h.running (of_decide_eq_true hrun)).swap v)
    · exact settled_of_state rfl
  | linkPowerOn => exact ⟨_, rfl, powerOn_settled s⟩
  | settleTimerExpiry => exact settled_of_timer h rfl (fun _ he => running_settleExpired he) (·.settle)
  | parkTimerExpiry => exact ⟨_, rfl, settled_onExpiry parkExpired_settled _ s⟩
  | wakeTimerExpiry => exact ⟨_, rfl, settled_onExpiry wakeExpired_settled _ s⟩
  | wakeLineAsserted => exact ⟨_, rfl, wakeLine_settled s⟩
  | listenTimerExpiry => exact ⟨_, rfl, settled_onExpiry listenExpired_settled _ s⟩
  | batterySampleTimerExpiry v => exact ⟨_, rfl, settled_onExpiry (sampleExpired_settled v) _ s⟩
  | serviceTestTimerExpiry c =>
    refine ⟨_, rfl, ?_⟩
    split
    · exact settled_expiry (same_endTest c) (by decide) _ s
    · exact settled_of_state rfl

end Sys2Proof.Machine
end

section
/-! PROOFS. A waiting swap and the events that apply it (R176), and the statement of O55. -/

namespace Sys2Proof.Machine

variable {s t : State} {i : Nat} {b : Image}

/-! ### No time passes -/

theorem runDown_zero (x : Timer) : runDown 0 x = x := by cases x <;> rfl

theorem elapse_zero (s : State) : elapse 0 s = s := by
  unfold elapse
  simp [runDown_zero]

/-! ### A swap is applied once -/

theorem applyHeld_applied (s : State) : applyHeld (applyHeld s) = applyHeld s :=
  applyHeld_none _ (applyHeld_unapplied s)

theorem applyHeld_power (s : State) : (applyHeld s).power = s.power := (same_applyHeld s).at .power (by decide)

theorem applyHeld_fifo (s : State) : (applyHeld s).tyre.fifo = s.tyre.fifo := by
  cases h : s.unapplied with
  | none => rw [applyHeld_none s h]
  | some b =>
    rw [applyHeld_some h, tyreSwap_fifo]
    exact congrArg Tyre.fifo ((same_reestablish s.unheld).at .tyre (by decide))

theorem deliver_applied (h : s.power.state ≠ .sleep) (b : List Byte) : deliver b (applyHeld s) = deliver b s := by
  unfold deliver
  rw [if_neg h, if_neg (by rwa [applyHeld_power]), applyHeld_applied]

theorem takeTelegram_applied (h : s.tyre.fifo ≠ []) : takeTelegram (applyHeld s) = takeTelegram s := by
  unfold takeTelegram
  rw [applyHeld_fifo, applyHeld_applied]
  cases e : s.tyre.fifo with
  | nil => exact absurd e h
  | cons x rest => rfl

theorem wakeLine_applied (hs : s.power.state = .sleep) (hl : s.power.lockout = false) :
    wakeLine (applyHeld s) = wakeLine s := by
  unfold wakeLine startListening
  rw [applyHeld_power, applyHeld_applied, if_pos (by simp [hs, hl]), if_pos (by simp [hs, hl])]

theorem enterRun_applied (s : State) : enterRun (relinked (applyHeld s)) = enterRun (relinked s) := by
  unfold enterRun
  rw [applyHeld_relinked, applyHeld_relinked, applyHeld_applied]

theorem powerOn_applied (h : s.power.state ≠ .run) : powerOn (applyHeld s) = powerOn s := by
  have hp : (applyHeld s).power.state = s.power.state := congrArg Power.state (applyHeld_power s)
  cases e : s.power.state with
  | run => exact absurd e h
  | parkWatch => rw [powerOn_of_parkWatch e, powerOn_of_parkWatch (hp.trans e), enterRun_applied]
  | sleep => rw [powerOn_of_sleep e, powerOn_of_sleep (hp.trans e), enterRun_applied]

/-- A missing timer's expiry applies a waiting swap first, and occurs if the timer still stands at its end (R176). -/
theorem exec_missingTimerExpiry {r : Nat} (hi : i < 16) (h : (s.position i).missing = some r) :
    exec (.missingTimerExpiry i) s = .next (missingExpired i (elapse r s)) := by
  show Host.Outcome.next (if i < 16 then onExpiry (s.position i).missing (missingExpired i) s else s) = _
  rw [if_pos hi, h]
  rfl

theorem missingExpired_unapplied (i) (s : State) : (missingExpired i s).unapplied = none := by
  unfold missingExpired
  dsimp only
  split
  · exact ((same_fallSilent i _).at .unapplied (by decide) : _ = _).trans (applyHeld_unapplied s)
  · exact applyHeld_unapplied s

theorem missingExpired_stopped (h : ((applyHeld s).position i).missing ≠ some 0) : missingExpired i s = applyHeld s := if_neg h

theorem missingExpired_applied (i) (s : State) : missingExpired i (applyHeld s) = missingExpired i s := by
  unfold missingExpired
  rw [applyHeld_applied]

/-- What the blocks hold once a waiting swap is applied (R88, R116, R159). -/
theorem applyHeld_follows (h : s.unapplied = some b) (h6 : s.channels.length = 6) : BlocksFollow (applyHeld s) := by
  rw [applyHeld_some h]
  exact blocksFollow_tyreSwap b (blocksFollow_reestablish (s := s.unheld) h6)

theorem applyHeld_took (h : s.unapplied = some b) (h16 : s.tyre.positions.length = 16) (hi : i ∈ List.range 16) :
    TookFields b (swapTimer s) s (applyHeld s) i := by
  have g := same_reestablish s.unheld
  have htyre : (reestablish s.unheld).tyre = s.tyre := g.at .tyre (by decide)
  have ht := tookFields_tyreSwap b (htyre.symm ▸ h16) hi
  rw [swapTimer_congr (s := s) (g.at .power (by decide)) (g.at .active (by decide))] at ht
  rw [applyHeld_some h]
  exact ht.of_tyre htyre

/-- Settles O55: in RUN the report's own swap, out of RUN the swap that waits, through what the composer and the tyre unit
make of either. -/
theorem swapReachesTheBlocks : Obligations.SwapReachesTheBlocks := by
  unfold Obligations.SwapReachesTheBlocks
  refine ⟨fun s w hw hc hd h6 h16 => ?_, fun s => ⟨fun b hs => ?_, fun hf => ?_, fun hs hl => ?_, fun hs => ?_,
    fun i hi r hr => ?_, applyHeld_none s, fun b hb h6 h16 => ?_⟩, fun s t c h e hn => ?_⟩
  · exact ⟨_, exec_commitSucceeded hw hc hd, fun hout => swap_held hout w, fun hrun hu => swap_applied hrun hu h6 h16 w⟩
  · exact congrArg Host.Outcome.next (deliver_applied hs b).symm
  · exact congrArg Host.Outcome.next (takeTelegram_applied hf).symm
  · exact congrArg Host.Outcome.next (wakeLine_applied hs hl).symm
  · exact congrArg Host.Outcome.next (powerOn_applied hs).symm
  · refine ⟨_, exec_missingTimerExpiry hi hr, missingExpired_unapplied _ _, missingExpired_stopped, fun h0 => ?_⟩
    rw [exec_missingTimerExpiry hi h0, elapse_zero, missingExpired_applied]
  · have hf := applyHeld_follows hb h6
    exact ⟨applyHeld_unapplied s, hf.channels, hf.load, hf.mode.modeFollows, fun i hi => applyHeld_took hb h16 hi,
      same_applyHeld s⟩
  · obtain ⟨u, hu, hsettled⟩ := settled_exec h c
    rw [hu] at e
    exact (Host.Outcome.next.inj e) ▸ hsettled (by rwa [Host.Outcome.next.inj e])

end Sys2Proof.Machine
end

section
/-! PROOFS. The timers whose expiry changes their own block alone, and the end of a service test (O31). -/

namespace Sys2Proof.Machine

variable {s t u : State} {c : Nat}

/-! ### The end of a service test (R115) -/

/-- An existing channel follows its inputs after a recomposition, a swap waiting or not (R57, R71, R76, R104, R108). -/
theorem channelFollows_recompose (h : s.channels.length = 6) (hc : c ∈ channelNumbers) (he : channelExists s c = true) :
    ChannelFollows (recompose s) c := by
  have hch := recompose_channel_of_six h hc
  unfold channelNow at hch
  rw [if_pos (show channelExists (s.updLoad fun _ => loadNow s) c = true from he)] at hch
  exact channelFollows_of_commands (sameInputs_recompose s) hch

/-- A channel without its service test (R115). -/
def Channel.untested (ch : Channel) : Channel := { ch with serviceTest := none, testTimer := none }

theorem endTest_eq (c : Nat) (s : State) : endTest c s = recompose (s.updChannel c Channel.untested) := rfl

theorem updChannel_length (c : Nat) (f : Channel → Channel) (s : State) :
    (s.updChannel c f).channels.length = s.channels.length := mapChannels_length _ s

theorem updChannel_channel (h : s.channels.length = 6) (f : Channel → Channel) {k : Nat} (hk : k ∈ channelNumbers) :
    (s.updChannel c f).channel k = if k = c then f (s.channel k) else s.channel k := mapChannels_channel_of_six h _ hk

theorem endTest_channel (h : s.channels.length = 6) {k : Nat} (hk : k ∈ channelNumbers) :
    (endTest c s).channel k =
      channelNow ((s.updChannel c Channel.untested).updLoad fun _ => loadNow (s.updChannel c Channel.untested)) k
        (if k = c then (s.channel k).untested else s.channel k) := by
  rw [endTest_eq, recompose_channel_of_six ((updChannel_length c _ s).trans h) hk, updChannel_channel h _ hk]

/-- The channel whose test ends holds no test, whether it exists or not (R115). -/
theorem endTest_ended (h : s.channels.length = 6) (hc : c ∈ channelNumbers) :
    ((endTest c s).channel c).serviceTest = none ∧ ((endTest c s).channel c).testTimer = none := by
  rw [endTest_channel h hc, if_pos rfl]
  generalize ((s.updChannel c Channel.untested).updLoad _) = v
  by_cases he : channelExists v c = true
  · exact channelNow_test he _
  · unfold channelNow
    rw [if_neg he]
    exact ⟨rfl, rfl⟩

/-- The tests of the other channels go on (R115). -/
theorem endTest_others (h : s.channels.length = 6) {k : Nat} (hk : k ∈ channelNumbers) (hne : k ≠ c)
    (he : channelExists s k = true) : ((endTest c s).channel k).serviceTest = (s.channel k).serviceTest ∧
      ((endTest c s).channel k).testTimer = (s.channel k).testTimer := by
  rw [endTest_channel h hk, if_neg hne]
  exact channelNow_test (s := (s.updChannel c Channel.untested).updLoad _) he _

theorem endTest_target (h : s.channels.length = 6) (hc : c ∈ channelNumbers) (he : channelExists s c = true) :
    ((endTest c s).channel c).target = targetOf (endTest c s) c ((endTest c s).channel c) :=
  (channelFollows_recompose (s := s.updChannel c Channel.untested) ((updChannel_length c _ s).trans h) hc he).target

/-! ### The expiries -/

theorem onExpiry_of_running {timer : Timer} {r : Nat} (h : timer = some r) (effect : State → State) (s : State) :
    onExpiry timer effect s = effect (elapse r s) := by
  rw [h, onExpiry_some]

theorem exec_serviceTestTimerExpiry {r : Nat} (hc : c ∈ channelNumbers) (h : (s.channel c).testTimer = some r) :
    exec (.serviceTestTimerExpiry c) s = .next (endTest c (elapse r s)) := by
  have hw : within 1 6 c = true := by simpa [within] using mem_channelNumbers.mp hc
  show Host.Outcome.next (if within 1 6 c then onExpiry (s.channel c).testTimer (endTest c) s else s) = _
  rw [if_pos hw, onExpiry_of_running h]

/-- Settles O31: each expiry is the elapse of the rest and the timer's effect. -/
theorem plainTimersExpire : Obligations.PlainTimersExpire := by
  unfold Obligations.PlainTimersExpire
  intro s r e
  refine ⟨fun h => ⟨_, congrArg Host.Outcome.next (onExpiry_of_running h _ s), rfl, same_updWheel _ e⟩,
    fun h => ⟨_, congrArg Host.Outcome.next (onExpiry_of_running h _ s), rfl, same_updStab _ e⟩,
    fun h => ⟨_, congrArg Host.Outcome.next (onExpiry_of_running h _ s), rfl, same_updTyre _ e⟩, fun c hc h h6 => ?_⟩
  have h6e : e.channels.length = 6 := (elapse_length r s).trans h6
  obtain ⟨htest, htimer⟩ := endTest_ended h6e hc
  exact ⟨endTest c e, exec_serviceTestTimerExpiry hc h, htest, htimer, endTest_target h6e hc,
    fun k hk hne he => endTest_others h6e hk hne he, same_endTest c e⟩

end Sys2Proof.Machine
end

section
/-! PROOFS. What the blocks but the wheel and slip unit can make of a channel's slip control and its service test (R71
to R77, R115): slip control stays or returns to FOLLOW, and no test begins. -/

namespace Sys2Proof.Machine

variable {s t u : State} {L : List Part} {c : Nat}

/-! ### A condition that requests and recompositions keep -/

/-- No service test begins (R114). -/
def Channel.TestKept (a b : Channel) : Prop := a.serviceTest = none → b.serviceTest = none

/-- Two channels that differ in requests, test holds and the test timer alone, the second with no new service test. -/
structure Channel.Rerequested (a b : Channel) : Prop where
  rest : b = { a with
    testHold := b.testHold, serviceTest := b.serviceTest, stabTest := b.stabTest, stabInt := b.stabInt,
    testTimer := b.testTimer }
  test : a.TestKept b

theorem Channel.Rerequested.refl (a : Channel) : a.Rerequested a := ⟨rfl, id⟩

/-- A channel whose requests by the stability unit and test hold are others. -/
theorem Channel.rerequested_by_stability (a : Channel) (hold : Bool) (test int : Option Nat) :
    a.Rerequested { a with testHold := hold, stabTest := test, stabInt := int } := ⟨rfl, id⟩

theorem Channel.Rerequested.ite {a b : Channel} (h : a.Rerequested b) (p : Prop) [Decidable p] :
    a.Rerequested (if p then b else a) := by
  split
  · exact h
  · exact .refl a

/-- The parts that the blocks but the wheel and slip unit rewrite at a completion, beside the channels. -/
def blockParts : List Part := [.incidents, .portA, .load, .composer, .stability, .power]

/-- A condition that a change outside the channels, a change of requests and a recomposition keep. -/
structure KeptByRequests (P : State → Prop) : Prop where
  quiet    : ∀ {u v}, SameBut blockParts u v → P u → P v
  requests : ∀ {u f}, (∀ c (ch : Channel), ch.Rerequested (f c ch)) → P u → P (u.mapChannels f)
  composed : ∀ {u}, P u → P (recompose u)

section
variable {P : State → Prop} (k : KeptByRequests P)
include k

theorem KeptByRequests.frame (g : SameBut L s t) (d : ∀ p ∈ L, p ∈ blockParts) (h : P s) : P t := k.quiet (g.mono d) h

theorem KeptByRequests.changeStab (st) (h : P s) : P (changeStab st s) := k.frame (same_changeStab st s) (by decide) h

theorem KeptByRequests.enterOff (h : P s) : P (enterOff s) := by
  unfold Machine.enterOff
  split
  · exact h
  · have hd : P (dropStabInt (dropStabTest s)) :=
      k.requests (fun _ _ => ⟨rfl, id⟩) (k.requests (fun _ _ => ⟨rfl, id⟩) h)
    exact k.composed (k.changeStab _ (k.frame (same_closeIncident _ _ _) (by decide)
      (k.frame (same_updStab _ _) (by decide) hd)))

theorem KeptByRequests.testOff (h : P s) : P (testOff s) := by
  unfold Machine.testOff
  split
  · exact k.enterOff h
  · exact h

theorem KeptByRequests.endTestPulse (h : P s) : P (endTestPulse s) :=
  k.frame (same_updStab _ _) (by decide) (k.requests (fun _ ch => (ch.rerequested_by_stability _ _ _).ite _) h)

theorem KeptByRequests.acknowledgeTest (side) (h : P s) : P (acknowledgeTest side s) :=
  k.composed (k.changeStab _ (k.frame (same_updStab _ _) (by decide)
    (k.requests (fun _ ch => (ch.rerequested_by_stability _ _ _).ite _) h)))

theorem KeptByRequests.abandonTest (h : P s) : P (abandonTest s) :=
  k.composed (k.changeStab _ (k.frame (same_updStab _ _) (by decide) (k.endTestPulse h)))

theorem KeptByRequests.intervene (side) (h : P s) : P (intervene side s) :=
  k.composed (k.changeStab _ (k.frame (same_openIncident _ _ _) (by decide)
    (k.frame (same_updStab _ _) (by decide) (k.requests (fun _ ch => (ch.rerequested_by_stability _ _ _).ite _) h))))

theorem KeptByRequests.enterRecover (h : P s) : P (enterRecover s) :=
  k.composed (k.changeStab _ (k.frame (same_updStab _ _) (by decide)
    (k.requests (fun _ _ => ⟨rfl, id⟩) h)))

theorem KeptByRequests.moveTo (st) (h : P s) : P (moveTo st s) := k.frame (same_moveTo st s) (by decide) h

theorem KeptByRequests.considerTest (ay) (h : P s) : P (considerTest ay s) := by
  unfold Machine.considerTest Machine.offerTest
  dsimp only
  split
  · exact k.frame (same_updStab _ s) (by decide) h
  · split
    · split
      · exact k.acknowledgeTest _ h
      · exact k.frame (same_updStab _ s) (by decide) h
    · exact h

theorem KeptByRequests.evaluate (h : P s) : P (evaluate s) := by
  unfold Machine.evaluate
  dsimp only
  split
  · exact k.enterOff h
  · split
    case h_1 => exact k.moveTo _ h
    case h_2 =>
      split
      · exact k.intervene _ h
      · split
        · exact k.moveTo _ h
        · exact h
    case h_3 =>
      split
      · exact k.intervene _ h
      · split
        · exact k.moveTo _ h
        · exact k.considerTest _ h
    case h_4 =>
      split
      · exact k.intervene _ (k.endTestPulse h)
      · split
        · exact k.abandonTest h
        · exact h
    case h_5 =>
      split
      · exact h
      · exact k.enterRecover h
    case h_6 =>
      split
      · exact k.intervene _ h
      · exact h

theorem KeptByRequests.removeDegraded (h : P s) : P (removeDegraded s) :=
  k.composed (k.frame (same_updStab _ _) (by decide)
    (k.requests (fun _ ch => (ch.rerequested_by_stability _ _ _).ite _) h))

theorem KeptByRequests.workTest (h : P s) : P (workTest s) := by
  have hr := k.removeDegraded h
  unfold Machine.workTest
  dsimp only
  split
  · exact k.abandonTest hr
  · split
    · exact k.intervene _ (k.frame (same_updStab _ _) (by decide) (k.endTestPulse hr))
    · exact hr

theorem KeptByRequests.workWatch (h : P s) : P (workWatch s) := by
  unfold Machine.workWatch
  dsimp only
  split
  · exact h
  · split
    · exact k.frame (same_updStab _ s) (by decide) h
    · split
      · exact k.acknowledgeTest _ h
      · exact h

theorem KeptByRequests.workInState (h : P s) : P (workInState s) := by
  unfold Machine.workInState
  split
  case h_1 => exact k.workTest h
  case h_2 => exact k.workWatch h
  all_goals exact h

theorem KeptByRequests.stabilityWork (b) (h : P s) : P (stabilityWork b s) := by
  have hd : P (if b then Machine.evaluate (takeThreshold s) else Machine.testOff s) := by
    split
    · exact k.evaluate (k.frame (same_takeThreshold s) (by decide) h)
    · exact k.testOff h
  unfold Machine.stabilityWork
  dsimp only
  generalize (if b then Machine.evaluate (takeThreshold s) else Machine.testOff s) = v at hd
  split
  · exact k.workInState hd
  · exact hd

theorem KeptByRequests.reestablish (h : P s) : P (reestablish s) := by
  have hr : P (remoded s) :=
    k.composed (k.frame (same_demandLost _ _ _) (by decide) (k.frame (same_updComposer _ s) (by decide) h))
  rw [reestablish_eq]
  split
  · exact hr
  · exact k.testOff hr

theorem KeptByRequests.setEmergency (b) (h : P s) : P (setEmergency b s) := by
  unfold Machine.setEmergency
  split
  · exact h
  · have hc := k.frame (same_updComposer (fun c => { c with emergency := b }) s) (by decide) h
    refine k.composed ?_
    split
    · exact k.frame (same_openIncident _ _ _) (by decide) hc
    · exact k.frame (same_closeIncident _ _ _) (by decide) hc

theorem KeptByRequests.composerWork (fr) (h : P s) : P (composerWork fr s) := by
  refine k.reestablish ?_
  unfold judgeEmergency
  split
  · exact k.setEmergency _ h
  · split
    · exact h
    · split
      · exact k.setEmergency _ h
      · exact h

theorem KeptByRequests.loadWork (fr) (h : P s) : P (loadWork fr s) :=
  k.composed (k.frame (same_updLoad _ s) (by decide) h)

theorem KeptByRequests.powerWork (fr) (h : P s) : P (powerWork fr s) := by
  unfold Machine.powerWork
  split
  · exact h
  · split
    · next hrun =>
      simp only [Bool.and_eq_true] at hrun
      exact k.frame (same_updateVoltage _ s hrun.1) (by decide) h
    · exact h

/-- What requests and recompositions keep is kept by every block but the wheel and slip unit. -/
theorem KeptByRequests.blockWork (fr before) {b : Block} (hb : b ≠ .wheel) (h : P s) : P (blockWork fr before b s) := by
  cases b with
  | wheel => exact absurd rfl hb
  | load => exact k.loadWork fr h
  | composer => exact k.composerWork fr h
  | stability => exact k.stabilityWork _ h
  | power => exact k.powerWork fr h

end

/-! ### Channels read back -/

/-- One channel after every channel is rewritten, one beyond the list included. -/
theorem mapChannels_channel_or (f : Nat → Channel → Channel) (s : State) (hc : c ∈ channelNumbers) :
    (s.mapChannels f).channel c = f c (s.channel c) ∨
      (s.channel c = .start ∧ (s.mapChannels f).channel c = .start) := by
  obtain ⟨h1, -⟩ := mem_channelNumbers.mp hc
  rcases Nat.lt_or_ge s.channels.length c with h | h
  · have hbeyond : ∀ v : State, v.channels.length = s.channels.length → v.channel c = .start := fun v hv =>
      List.getD_eq_default _ _ (by omega)
    exact .inr ⟨hbeyond s rfl, hbeyond _ (mapChannels_length f s)⟩
  · exact .inl (mapChannels_channel s f h1 h)

/-- A relation of a channel and its rewriting holds once every channel is rewritten, for one beyond the list too. -/
theorem mapChannels_rel {R : Channel → Channel → Prop} {f : Nat → Channel → Channel} (s : State)
    (hc : c ∈ channelNumbers) (start : R .start .start) (h : R (s.channel c) (f c (s.channel c))) :
    R (s.channel c) ((s.mapChannels f).channel c) := by
  rcases mapChannels_channel_or f s hc with e | ⟨e, e'⟩
  · rwa [e]
  · rwa [e, e']

/-- An existing channel recomposed: its values, then its target and the return to FOLLOW, then its commands. -/
theorem channelNow_of_exists (he : channelExists s c = true) (ch : Channel) : channelNow s c ch =
    { channelTargeted s c (channelValues s c ch) with
      requested := requestedOf s (channelTargeted s c (channelValues s c ch))
      command := recordOf s c (requestedOf s (channelTargeted s c (channelValues s c ch))) } := by
  unfold channelNow
  rw [if_pos he, channelCommands_eq]

theorem channelNow_of_absent (he : channelExists s c = false) (ch : Channel) : channelNow s c ch = Channel.start :=
  if_neg (by simp [he])

/-! ### Slip control that stays or returns to FOLLOW -/

/-- The slip-control state stays or is FOLLOW again, and no cycle begins (R76, R77). -/
structure Channel.SlipKept (a b : Channel) : Prop where
  state  : b.slipState = a.slipState ∨ b.slipState = .follow
  cycles : b.cycles = a.cycles

theorem Channel.SlipKept.refl (a : Channel) : a.SlipKept a := ⟨.inl rfl, rfl⟩

theorem Channel.SlipKept.trans {a b d : Channel} (h : a.SlipKept b) (g : b.SlipKept d) : a.SlipKept d where
  state := g.state.elim (fun e => h.state.imp e.trans e.trans) .inr
  cycles := g.cycles.trans h.cycles

theorem channelTargeted_slipKept (s : State) (c : Nat) (ch : Channel) : ch.SlipKept (channelTargeted s c ch) := by
  unfold channelTargeted
  dsimp only
  split
  · exact ⟨.inr rfl, rfl⟩
  · exact ⟨.inl rfl, rfl⟩

theorem channelNow_slipKept (he : channelExists s c = true) (ch : Channel) : ch.SlipKept (channelNow s c ch) := by
  rw [channelNow_of_exists he]
  obtain ⟨hstate, hcycles⟩ := channelTargeted_slipKept s c (channelValues s c ch)
  exact ⟨hstate, hcycles⟩

theorem channelNow_testKept (s : State) (c : Nat) (ch : Channel) : ch.TestKept (channelNow s c ch) := by
  intro h
  cases he : channelExists s c with
  | true =>
    obtain ⟨htest, -⟩ := channelNow_test he ch
    exact htest.trans h
  | false =>
    rw [channelNow_of_absent he]
    rfl

/-- From s to t the same channels exist, slip control stays or returns to FOLLOW, and no service test begins. -/
structure Calm (s t : State) : Prop where
  live  : ∀ c, channelExists t c = channelExists s c
  slip  : ∀ c ∈ channelNumbers, channelExists s c = true → (s.channel c).SlipKept (t.channel c)
  tests : ∀ c ∈ channelNumbers, (s.channel c).TestKept (t.channel c)

theorem Calm.refl (s : State) : Calm s s := ⟨fun _ => rfl, fun _ _ _ => .refl _, fun _ _ h => h⟩

theorem Calm.trans (h : Calm s t) (g : Calm t u) : Calm s u where
  live c := (g.live c).trans (h.live c)
  slip c hc he := (h.slip c hc he).trans (g.slip c hc ((h.live c).trans he))
  tests c hc hn := g.tests c hc (h.tests c hc hn)

theorem channelExists_congr (h : inUse t = inUse s) (c : Nat) : channelExists t c = channelExists s c := by
  unfold channelExists groupExists groupCount
  rw [h]

theorem calm_of_channels (hc : t.channels = s.channels) (hu : inUse t = inUse s) : Calm s t where
  live := channelExists_congr hu
  slip c _ _ := by rw [channel_congr hc]; exact .refl _
  tests c _ h := by rwa [channel_congr hc]

theorem calm_of_same (g : SameBut L s t) (d : ∀ p ∈ [Part.active, .chain, .channels], p ∉ L) : Calm s t :=
  calm_of_channels (g.at .channels (d _ (by decide)))
    (inUse_congr (g.at .active (d _ (by decide))) (g.at .chain (d _ (by decide))))

theorem calm_mapChannels {f : Nat → Channel → Channel} (slip : ∀ c (ch : Channel), ch.SlipKept (f c ch))
    (tests : ∀ c (ch : Channel), ch.TestKept (f c ch)) (s : State) : Calm s (s.mapChannels f) where
  live _ := rfl
  slip _ hc _ := mapChannels_rel s hc (.refl _) (slip _ _)
  tests _ hc := mapChannels_rel (R := Channel.TestKept) s hc id (tests _ _)

theorem calm_recompose (s : State) : Calm s (recompose s) where
  live _ := rfl
  slip _ hc he := mapChannels_rel (s.updLoad fun _ => loadNow s) hc (.refl _)
    (channelNow_slipKept (s := s.updLoad fun _ => loadNow s) he _)
  tests _ hc := mapChannels_rel (R := Channel.TestKept) (s.updLoad fun _ => loadNow s) hc id (channelNow_testKept _ _ _)

theorem keptByRequests_calm (s : State) : KeptByRequests (Calm s) where
  quiet g h := h.trans (calm_of_same g (by decide))
  requests hf h := h.trans (calm_mapChannels
    (fun c ch => by rw [(hf c ch).rest]; exact ⟨.inl rfl, rfl⟩) (fun c ch => (hf c ch).test) _)
  composed h := h.trans (calm_recompose _)

/-! ### Service mode, a learn and motion -/

theorem calm_endTests (s : State) : Calm s (endTests s) := by
  have hu : Calm s (s.mapChannels fun _ ch => ch.untested) :=
    calm_mapChannels (f := fun _ ch => ch.untested) (fun _ _ => ⟨.inl rfl, rfl⟩) (fun _ _ _ => rfl) s
  exact hu.trans (calm_recompose _)

theorem calm_endService (s : State) : Calm s (endService s) := by
  unfold endService
  split
  · exact (calm_of_same (same_updMgmt _ s) (by decide)).trans (calm_endTests _)
  · exact .refl s

theorem calm_endLearn (s : State) : Calm s (endLearn s) := by
  cases h : s.tyre.learn with
  | none => rw [endLearn_of_none h]; exact .refl s
  | some l =>
    have hb := (same_updTyre (fun u => { u with learn := none }) s).comp (N := [.tyre, .portA])
      (same_setTyreState l.pos l.saved _) (by decide) (by decide)
    rw [endLearn_eq h]
    exact (calm_of_same (hb.comp (N := [.tyre, .portA]) (same_driveLamp _) (by decide) (by decide)) (by decide)).trans
      (calm_recompose _)

theorem calm_motionEvent (s : State) : Calm s (motionEvent s) :=
  ((calm_endService s).trans (calm_endLearn _)).trans (calm_endTests _)

/-- After the end of every service test no channel holds one (R115). -/
theorem endTests_serviceTest (s : State) (hc : c ∈ channelNumbers) : ((endTests s).channel c).serviceTest = none := by
  refine (calm_recompose _).tests c hc ?_
  exact mapChannels_rel (R := fun _ b => b.serviceTest = none) s hc rfl rfl

/-- A motion event ends service mode, a learn and every service test (R70). -/
theorem motionEvent_ends (s : State) : (motionEvent s).mgmt.shadow = none ∧ (motionEvent s).tyre.learn = none ∧
    ∀ c ∈ channelNumbers, ((motionEvent s).channel c).serviceTest = none := by
  have hmgmt : (motionEvent s).mgmt = (endService s).mgmt :=
    ((same_endLearn (endService s)).comp (N := [.portA, .channels, .load, .tyre]) (same_endTests _) (by decide)
      (by decide)).at .mgmt (by decide)
  have htyre : (motionEvent s).tyre = (endLearn (endService s)).tyre := (same_endTests _).at .tyre (by decide)
  refine ⟨?_, ?_, fun c hc => endTests_serviceTest _ hc⟩
  · rw [hmgmt]
    exact (leaveMgmt_mgmt s).1
  · rw [htyre]
    exact endLearn_learn _

end Sys2Proof.Machine
end

section
/-! PROOFS. The wheel and slip unit's work at a completion (R63 to R70): the reference speed and the stationary flag that
it leaves, and the completion of a returned list around it (O29). -/

namespace Sys2Proof.Machine

variable {s t u : State} {L : List Part} {c : Nat}

/-! ### The completion around the wheel and slip unit (R56) -/

/-- From s to t only blocks other than the wheel and slip unit have worked at a completion. -/
structure BesidesWheel (s t : State) : Prop where
  same : SameBut (.channels :: blockParts) s t
  calm : Calm s t

theorem besidesWheel_blockWork (fr before) {b : Block} (hb : b ≠ .wheel) (s : State) :
    BesidesWheel s (blockWork fr before b s) := by
  refine ⟨?_, (keptByRequests_calm s).blockWork fr before hb (.refl s)⟩
  refine KeptByRequests.blockWork (P := SameBut (.channels :: blockParts) s) ⟨?_, ?_, ?_⟩ fr before hb (.refl _ s)
  · exact fun g h => h.comp g (fun _ => id) (fun _ => List.mem_cons_of_mem _)
  · exact fun _ h => h.comp (same_mapChannels _ _) (fun _ => id) (by decide)
  · exact fun h => h.comp (same_recompose _) (fun _ => id) (by decide)

theorem besidesWheel_foldl (fr before) {l : List Block} (hl : .wheel ∉ l) (s : State) :
    BesidesWheel s (l.foldl (fun v b => blockWork fr before b v) s) := by
  refine List.foldlRecOn l _ ⟨.refl _ s, .refl s⟩ fun v hv b hb => ?_
  have hw := besidesWheel_blockWork fr before (b := b) (fun e => hl (e ▸ hb)) v
  exact ⟨hv.same.trans hw.same, hv.calm.trans hw.calm⟩

/-- The wheel and slip unit works once at a completion, between other blocks (R56). -/
theorem complete_around_wheel (fr before : List Nat) (o : List Block) (s : State) :
    ∃ u, BesidesWheel s u ∧ BesidesWheel (wheelWork fr before u) (complete fr before o s) := by
  obtain ⟨l, m, hsplit⟩ := List.append_of_mem (mem_blockOrder o .wheel)
  have hnodup := hsplit ▸ blockOrder_nodup o
  have hl : Block.wheel ∉ l := fun h => (List.disjoint_of_nodup_append hnodup) h (List.mem_cons_self ..)
  have hm : Block.wheel ∉ m := (List.nodup_cons.mp hnodup.of_append_right).1
  refine ⟨_, besidesWheel_foldl fr before hl s, ?_⟩
  have hw : complete fr before o s = m.foldl (fun v b => blockWork fr before b v)
      (wheelWork fr before (l.foldl (fun v b => blockWork fr before b v) s)) := by
    unfold complete
    rw [hsplit, List.foldl_append, List.foldl_cons]
    rfl
  rw [hw]
  exact besidesWheel_foldl fr before hm _

/-! ### A returned list up to the wheel and slip unit's work (R46, R56) -/

/-- From s to t a session has ended, and blocks other than the wheel and slip unit may have worked. -/
structure SessionEnded (s t : State) : Prop where
  same  : SameBut (.chain :: .channels :: blockParts) s t
  bound : t.chain.bound = s.chain.bound
  calm  : Calm s t

theorem inUse_of_bound (ha : t.active = s.active) (hb : t.chain.bound = s.chain.bound) : inUse t = inUse s := by
  unfold inUse
  rw [ha, hb]

theorem sessionEnded_recompose (g : SameBut [.incidents, .chain] s t) (hb : t.chain.bound = s.chain.bound) :
    SessionEnded s (recompose t) where
  same := g.comp (same_recompose t) (by decide) (by decide)
  bound := hb
  calm := (calm_of_channels (g.at .channels (by decide)) (inUse_of_bound (g.at .active (by decide)) hb)).trans
    (calm_recompose t)

theorem SessionEnded.besides (h : SessionEnded s t) (g : BesidesWheel t u) : SessionEnded s u where
  same := h.same.comp g.same (fun _ => id) (fun _ => List.mem_cons_of_mem _)
  bound := (congrArg Chain.bound (g.same.at .chain (by decide))).trans h.bound
  calm := h.calm.trans g.calm

theorem sessionEnded_failedSession (x : FailReason) (s : State) : SessionEnded s (failedSession x s) := by
  refine sessionEnded_recompose ((same_updChain _ s).comp (same_moveFailed _) (by decide) (by decide)) ?_
  rw [moveFailed_chain]
  rfl

theorem applyResponses_bound (rs : List (List Byte)) (s : State) :
    (applyResponses rs s).chain.bound = s.chain.bound :=
  List.foldlRecOn _ _ (motive := fun v : State => v.chain.bound = s.chain.bound) rfl fun v hv p _ => by
    rw [applyResponse_chain]
    exact hv

theorem sessionEnded_passedSession (rs : List (List Byte)) (s : State) : SessionEnded s (passedSession rs s) := by
  refine sessionEnded_recompose (((same_applyResponses rs s).comp (N := [.incidents, .chain]) (same_updChain _ _)
    (by decide) (by decide)).trans (same_moveGood _)) ?_
  rw [moveGood_chain]
  exact applyResponses_bound rs s

/-- A list that answers ends the session, and its completion has the wheel and slip unit work once (R46, R56). -/
theorem listReturned_around_wheel {l : List Byte} (h : answers s l = true) (o : List Block) :
    ∃ fr u, SessionEnded s u ∧ BesidesWheel (wheelWork fr (followers s) u) (listReturned l o s) := by
  by_cases hc : (checkList (inUse s) l).1 = .none
  · obtain ⟨u, hu, hw⟩ := complete_around_wheel (freshPositions (inUse s) (checkList (inUse s) l).2) (followers s) o
      (passedSession (checkList (inUse s) l).2 s)
    rw [listReturned_of_good h hc, goodSession_eq]
    exact ⟨_, u, (sessionEnded_passedSession _ s).besides hu, hw⟩
  · obtain ⟨u, hu, hw⟩ := complete_around_wheel [] (followers s) o (failedSession (checkList (inUse s) l).1 s)
    rw [listReturned_of_failed h hc, failSession_eq]
    exact ⟨_, u, (sessionEnded_failedSession _ s).besides hu, hw⟩

/-! ### The reference speed (R64, R65) -/

theorem nextReference_some (previous step v : Nat) :
    nextReference previous step (some v) = max v (previous - step) := by
  show (if previous ≤ v then v else max v (previous - step)) = _
  split <;> omega

theorem max?_eq_foldl {l : List Nat} (h : l ≠ []) : l.max? = some (l.foldl max 0) := by
  cases l with
  | nil => exact absurd rfl h
  | cons a l => rw [List.max?_cons', List.foldl_cons, Nat.zero_max]

/-- Eligibility reads the chain and the tables, and the channels only as they stood before the completion (R64). -/
theorem eligibleSpeed_congr (ha : t.active = s.active) (hc : t.chain = s.chain) (before : List Nat) :
    eligibleSpeed t before = eligibleSpeed s before := by
  have hu := inUse_congr ha hc
  have hnode : t.node = s.node := funext fun n => node_congr hc n
  funext c
  unfold eligibleSpeed channelNode modPosition chainRunning
  rw [channelExists_congr hu, hu, hnode, hc]

/-- The channels' readings as they are taken at a completion, before the transitions (R63 to R68). -/
def wheelRead (fr before : List Nat) (s : State) : State := stage3 (stage2 (stage1 s fr) before) fr

theorem wheelWork_eq (fr before : List Nat) (s : State) :
    wheelWork fr before s = stage5 (stage4 (wheelRead fr before s) fr) fr := rfl

theorem wheelRead_wheel (fr before : List Nat) (s : State) : (wheelRead fr before s).wheel = { s.wheel with
    reference := nextReference s.wheel.reference (decayStep s.active.tuning.decel (sessionPeriod s))
      (candidateSpeed s before) } := rfl

theorem stage4_wheel (fr : List Nat) (s : State) : (stage4 s fr).wheel = s.wheel := rfl

theorem motionEvent_wheel (s : State) : (motionEvent s).wheel = s.wheel := (same_motionEvent s).at .wheel (by decide)

theorem stage5_reference (fr : List Nat) (s : State) : (stage5 s fr).wheel.reference = s.wheel.reference := by
  unfold stage5
  dsimp only
  split
  · split
    · rw [motionEvent_wheel]
      rfl
    · rfl
  · split
    · split <;> rfl
    · rfl

theorem wheelWork_reference (fr before : List Nat) (s : State) : (wheelWork fr before s).wheel.reference =
    nextReference s.wheel.reference (decayStep s.active.tuning.decel (sessionPeriod s)) (candidateSpeed s before) := by
  rw [wheelWork_eq, stage5_reference, stage4_wheel, wheelRead_wheel]

/-! ### Motion (R69, R70) -/

/-- A completion that shows no motion leaves the stationary flag as it is. -/
theorem stage5_of_still {fr : List Nat} (h : motionSeen s fr = false) :
    (stage5 s fr).wheel.stationary = s.wheel.stationary := by
  unfold stage5
  dsimp only
  rw [if_neg (by simp [h])]
  split
  · split <;> rfl
  · rfl

/-- One that shows motion clears it. -/
theorem stage5_of_motion {fr : List Nat} (h : motionSeen s fr = true) : (stage5 s fr).wheel.stationary = false := by
  unfold stage5
  dsimp only
  rw [if_pos h]
  split
  · rw [motionEvent_wheel]
    rfl
  · rfl

theorem stage5_moving {fr : List Nat} (h : 0 < (stage5 s fr).wheel.reference) :
    (stage5 s fr).wheel.stationary = false := by
  rw [stage5_reference] at h
  exact stage5_of_motion (by simp [motionSeen, h])

/-- A stationary part that moves has a motion event (R70). -/
theorem stage5_motionEvent {fr : List Nat} (hs : s.wheel.stationary = true)
    (hm : (stage5 s fr).wheel.stationary = false) : ∃ v, stage5 s fr = motionEvent v := by
  cases h : motionSeen s fr with
  | false => exact absurd ((stage5_of_still h).symm.trans hm) (by simp [hs])
  | true =>
    refine ⟨s.updWheel fun w => { w with stationary := false, stationaryTimer := none }, ?_⟩
    unfold stage5
    dsimp only
    rw [if_pos h, if_pos hs]

/-- Settles O29: the reference and the motion are the wheel and slip unit's, and no other block's work at the completion
undoes them. -/
theorem referenceAndMotionFollowTheWheels : Obligations.ReferenceAndMotionFollowTheWheels := by
  unfold Obligations.ReferenceAndMotionFollowTheWheels
  intro s l o h
  obtain ⟨fr, u, hu, hw⟩ := listReturned_around_wheel h o
  refine ⟨listReturned l o s, rfl, ?_⟩
  generalize listReturned l o s = t at hw
  have hactive : u.active = s.active := hu.same.at .active (by decide)
  have hwheel : u.wheel = s.wheel := hu.same.at .wheel (by decide)
  have hchain : t.chain = u.chain :=
    (hw.same.at .chain (by decide)).trans ((same_wheelWork fr (followers s) u).at .chain (by decide))
  have htwheel : t.wheel = (wheelWork fr (followers s) u).wheel := hw.same.at .wheel (by decide)
  refine ⟨?_, fun hmove => ?_, fun hs hm => ?_⟩
  · intro step speeds
    have hstep : decayStep u.active.tuning.decel (sessionPeriod u) = step := by
      unfold decayStep sessionPeriod
      rw [inUse_of_bound hactive hu.bound, hactive]
    have hspeeds : candidateSpeed u (followers s) = speeds.max? := by
      unfold candidateSpeed
      rw [eligibleSpeed_congr (s := { s with chain := t.chain }) hactive hchain.symm]
      rfl
    rw [htwheel, wheelWork_reference, hstep, hspeeds, hwheel]
    refine ⟨fun hnone => ?_, fun hsome => ?_⟩
    · rw [hnone]
      rfl
    · rw [max?_eq_foldl hsome, nextReference_some]
  · rw [htwheel, wheelWork_eq] at hmove ⊢
    exact stage5_moving hmove
  · rw [htwheel, wheelWork_eq] at hm
    obtain ⟨v, hv⟩ := stage5_motionEvent (s := stage4 (wheelRead fr (followers s) u) fr)
      ((congrArg Wheel.stationary hwheel).trans hs) hm
    rw [wheelWork_eq, hv] at hw
    obtain ⟨hshadow, hlearn, htests⟩ := motionEvent_ends v
    refine ⟨?_, ?_, fun c hc => hw.calm.tests c hc (htests c hc)⟩
    · rw [hw.same.at .mgmt (by decide)]
      exact hshadow
    · rw [hw.same.at .tyre (by decide)]
      exact hlearn

end Sys2Proof.Machine
end

section
/-! PROOFS. Slip control at a completion (R63, R67, R68, R71 to R77): one arc of the state table at most over the whole
completion, and the wheel and slip unit's own work on a channel whose values follow (O30). -/

namespace Sys2Proof.Machine

variable {s t u : State} {c : Nat}

/-! ### The transitions (R72 to R76) -/

/-- A channel's slip-control state with its hold pressure, reapply level and cycle count. -/
def Channel.Slips (ch : Channel) (st : SlipState) (hold level : Option Nat) (cycles : Nat) : Prop :=
  ch.slipState = st ∧ ch.holdP = hold ∧ ch.level = level ∧ ch.cycles = cycles

theorem Channel.slips_self (ch : Channel) : ch.Slips ch.slipState ch.holdP ch.level ch.cycles := ⟨rfl, rfl, rfl, rfl⟩

theorem toFollow_slips (ch : Channel) : ch.toFollow.Slips .follow none none ch.cycles := ⟨rfl, rfl, rfl, rfl⟩

theorem enterRelease_slips (ch : Channel) : (enterRelease ch).Slips .release none none (satSucc 255 ch.cycles) :=
  ⟨rfl, rfl, rfl, rfl⟩

section
variable {k : TuningRec} {v p : Nat} {ch : Channel}

theorem releaseCondition_iff : releaseCondition k v ch = true ↔
    (k.sRel < ch.slip ∨ ch.accel < k.aRel) ∧ k.absMin ≤ v ∧ 0 < ch.target := by
  simp [releaseCondition, and_assoc]

theorem transition_follow (h : ch.slipState = .follow) : transition k v p ch =
    if releaseCondition k v ch = true ∧ ch.testHold = false then enterRelease ch else ch := by
  simp [transition, h]

theorem transition_release (h : ch.slipState = .release) : transition k v p ch =
    if 0 < ch.accel ∨ ch.slip < k.sHold then { ch with slipState := .hold, holdP := some p } else ch := by
  simp [transition, h]

theorem transition_hold (h : ch.slipState = .hold) : transition k v p ch =
    if releaseCondition k v ch = true then enterRelease ch
    else if ch.slip < k.sReapply then { ch with slipState := .reapply, level := ch.holdP }
    else ch := by
  simp [transition, h]

theorem transition_reapply (h : ch.slipState = .reapply) : transition k v p ch =
    if releaseCondition k v ch = true then enterRelease ch else reapplyRise k ch := by
  simp [transition, h]

theorem reapplyRise_of_reached (h : ch.target ≤ min 1000 (ch.level.getD 0 + k.reapplyStep)) :
    reapplyRise k ch = ch.toFollow := if_pos h

theorem reapplyRise_of_below (h : min 1000 (ch.level.getD 0 + k.reapplyStep) < ch.target) :
    reapplyRise k ch = { ch with level := some (min 1000 (ch.level.getD 0 + k.reapplyStep)) } :=
  if_neg (Nat.not_le.mpr h)

end

/-! ### What each state makes of a fresh reading (R72 to R75) -/

section
variable {k : TuningRec} {v p : Nat} {ch : Channel}

theorem transition_released (h : releaseCondition k v ch = true)
    (hst : (ch.slipState = .follow ∧ ch.testHold = false) ∨ ch.slipState = .hold ∨ ch.slipState = .reapply) :
    (transition k v p ch).Slips .release none none (satSucc 255 ch.cycles) := by
  rcases hst with ⟨hst, hhold⟩ | hst | hst
  · rw [transition_follow hst, if_pos ⟨h, hhold⟩]
    exact enterRelease_slips ch
  · rw [transition_hold hst, if_pos h]
    exact enterRelease_slips ch
  · rw [transition_reapply hst, if_pos h]
    exact enterRelease_slips ch

theorem transition_follow_stays (hst : ch.slipState = .follow)
    (h : ¬ releaseCondition k v ch = true ∨ ch.testHold = true) :
    (transition k v p ch).Slips ch.slipState ch.holdP ch.level ch.cycles := by
  rw [transition_follow hst, if_neg fun hr => h.elim (fun hn => hn hr.1) fun ht => by simp [ht] at hr]
  exact ch.slips_self

theorem transition_release_held (hst : ch.slipState = .release) (h : 0 < ch.accel ∨ ch.slip < k.sHold) :
    (transition k v p ch).Slips .hold (some p) ch.level ch.cycles := by
  rw [transition_release hst, if_pos h]
  exact ⟨rfl, rfl, rfl, rfl⟩

theorem transition_release_stays (hst : ch.slipState = .release) (ha : ch.accel ≤ 0) (hs : k.sHold ≤ ch.slip) :
    (transition k v p ch).Slips ch.slipState ch.holdP ch.level ch.cycles := by
  rw [transition_release hst, if_neg (by omega)]
  exact ch.slips_self

theorem transition_hold_reapplied (hst : ch.slipState = .hold) (h : ¬ releaseCondition k v ch = true)
    (hs : ch.slip < k.sReapply) : (transition k v p ch).Slips .reapply ch.holdP ch.holdP ch.cycles := by
  rw [transition_hold hst, if_neg h, if_pos hs]
  exact ⟨rfl, rfl, rfl, rfl⟩

theorem transition_hold_stays (hst : ch.slipState = .hold) (h : ¬ releaseCondition k v ch = true)
    (hs : k.sReapply ≤ ch.slip) : (transition k v p ch).Slips ch.slipState ch.holdP ch.level ch.cycles := by
  rw [transition_hold hst, if_neg h, if_neg (Nat.not_lt.mpr hs)]
  exact ch.slips_self

theorem transition_reapply_reached (hst : ch.slipState = .reapply) (h : ¬ releaseCondition k v ch = true)
    (ht : ch.target ≤ min 1000 (ch.level.getD 0 + k.reapplyStep)) :
    (transition k v p ch).Slips .follow none none ch.cycles := by
  rw [transition_reapply hst, if_neg h, reapplyRise_of_reached ht]
  exact toFollow_slips ch

theorem transition_reapply_rises (hst : ch.slipState = .reapply) (h : ¬ releaseCondition k v ch = true)
    (ht : min 1000 (ch.level.getD 0 + k.reapplyStep) < ch.target) : (transition k v p ch).Slips .reapply ch.holdP
      (some (min 1000 (ch.level.getD 0 + k.reapplyStep))) ch.cycles := by
  rw [transition_reapply hst, if_neg h, reapplyRise_of_below ht]
  exact ⟨hst, rfl, rfl, rfl⟩

end

/-! ### One arc of the state table -/

/-- What one completion can make of a channel's slip control: it stays or returns to FOLLOW; a release that begins counts
a cycle; a release is held; a hold is reapplied (R71 to R77). -/
inductive Channel.Arc (a b : Channel) : Prop where
  | kept (h : a.SlipKept b)
  | released (state : b.slipState = .release ∨ b.slipState = .follow) (cycles : b.cycles = satSucc 255 a.cycles)
  | held (before : a.slipState = .release) (state : b.slipState = .hold) (cycles : b.cycles = a.cycles)
  | reapplied (before : a.slipState = .hold) (state : b.slipState = .reapply) (cycles : b.cycles = a.cycles)

/-- Slip control that only stays or returns to FOLLOW before an arc makes no second one of it. -/
theorem Channel.Arc.after {a b d : Channel} (h : a.SlipKept b) (g : b.Arc d) : a.Arc d := by
  have before : ∀ st, st ≠ .follow → b.slipState = st → a.slipState = st := fun st hst e =>
    h.state.elim (fun hb => hb.symm.trans e) fun hb => absurd (e.symm.trans hb) hst
  cases g with
  | kept g => exact .kept (h.trans g)
  | released hs hc => exact .released hs (by rw [hc, h.cycles])
  | held hb hs hc => exact .held (before _ (by decide) hb) hs (hc.trans h.cycles)
  | reapplied hb hs hc => exact .reapplied (before _ (by decide) hb) hs (hc.trans h.cycles)

/-- Nor does it after one. -/
theorem Channel.Arc.before {a b d : Channel} (h : a.Arc b) (g : b.SlipKept d) : a.Arc d := by
  have followed : d.slipState = .follow → d.cycles = a.cycles → a.Arc d := fun e hc => .kept ⟨.inr e, hc⟩
  cases h with
  | kept h => exact .kept (h.trans g)
  | released hs hc => exact .released (g.state.elim (fun e => hs.imp e.trans e.trans) .inr) (g.cycles.trans hc)
  | held hb hs hc =>
    exact g.state.elim (fun e => .held hb (e.trans hs) (g.cycles.trans hc)) fun e => followed e (g.cycles.trans hc)
  | reapplied hb hs hc =>
    exact g.state.elim (fun e => .reapplied hb (e.trans hs) (g.cycles.trans hc)) fun e => followed e (g.cycles.trans hc)

theorem enterRelease_arc (ch : Channel) : ch.Arc (enterRelease ch) := .released (.inl rfl) rfl

theorem toFollow_arc (ch : Channel) : ch.Arc ch.toFollow := .kept ⟨.inr rfl, rfl⟩

theorem reapplyRise_arc (k : TuningRec) (ch : Channel) : ch.Arc (reapplyRise k ch) := by
  unfold reapplyRise
  dsimp only
  split
  · exact toFollow_arc ch
  · exact .kept ⟨.inl rfl, rfl⟩

theorem transition_arc (k : TuningRec) (v p : Nat) (ch : Channel) : ch.Arc (transition k v p ch) := by
  have stays : ch.Arc ch := .kept (.refl ch)
  cases h : ch.slipState with
  | follow =>
    rw [transition_follow h]
    split
    · exact enterRelease_arc ch
    · exact stays
  | release =>
    rw [transition_release h]
    split
    · exact .held h rfl rfl
    · exact stays
  | hold =>
    rw [transition_hold h]
    split
    · exact enterRelease_arc ch
    · split
      · exact .reapplied h rfl rfl
      · exact stays
  | reapply =>
    rw [transition_reapply h]
    split
    · exact enterRelease_arc ch
    · exact reapplyRise_arc k ch

/-- A channel's turn in stage 4: the returns of R76, then the transition at a fresh reading. -/
def slipStep (s : State) (fr : List Nat) (c : Nat) (ch : Channel) : Channel :=
  if returns s c ch then ch.toFollow
  else
    match freshReading s fr c with
    | some r => transition s.active.tuning s.wheel.reference (r.pressureOf c) ch
    | none => ch

theorem stage4_eq (s : State) (fr : List Nat) : stage4 s fr = recompose (s.mapChannels (slipStep s fr)) := rfl

theorem slipStep_arc (s : State) (fr : List Nat) (c : Nat) (ch : Channel) : ch.Arc (slipStep s fr c ch) := by
  unfold slipStep
  split
  · exact toFollow_arc ch
  · split
    · exact transition_arc _ _ _ ch
    · exact .kept (.refl ch)

/-- A channel's turn in stage 1: its acceleration and previous speed (R63, R67). -/
def speedTaken (s : State) (c : Nat) (ch : Channel) : Option Record → Channel
  | none => { ch with prevSpeed := none }
  | some r =>
    { ch with accel := wheelAccel ch.prevSpeed (r.speedOf c) (sessionPeriod s), prevSpeed := some (r.speedOf c) }

/-- A channel's turn in stage 3: its slip (R68). -/
def slipTaken (s : State) (c : Nat) (ch : Channel) : Option Record → Channel
  | none => ch
  | some r => { ch with slip := slipOf s.active.tuning.absMin s.wheel.reference (r.speedOf c) }

theorem stage1_eq (s : State) (fr : List Nat) :
    stage1 s fr = s.mapChannels fun c ch => speedTaken s c ch (freshReading s fr c) := by
  refine congrArg s.mapChannels (funext fun c => funext fun ch => ?_)
  cases freshReading s fr c <;> rfl

theorem stage3_eq (s : State) (fr : List Nat) :
    stage3 s fr = s.mapChannels fun c ch => slipTaken s c ch (freshReading s fr c) := by
  refine congrArg s.mapChannels (funext fun c => funext fun ch => ?_)
  cases freshReading s fr c <;> rfl

theorem calm_stage1 (fr : List Nat) (s : State) : Calm s (stage1 s fr) := by
  rw [stage1_eq]
  refine calm_mapChannels (fun c ch => ?_) (fun c ch h => ?_) s
  · cases freshReading s fr c <;> exact ⟨.inl rfl, rfl⟩
  · cases freshReading s fr c <;> exact h

theorem calm_stage3 (fr : List Nat) (s : State) : Calm s (stage3 s fr) := by
  rw [stage3_eq]
  refine calm_mapChannels (fun c ch => ?_) (fun c ch h => ?_) s
  · cases freshReading s fr c <;> exact ⟨.inl rfl, rfl⟩
  · cases freshReading s fr c <;> exact h

theorem calm_wheelRead (fr before : List Nat) (s : State) : Calm s (wheelRead fr before s) :=
  ((calm_stage1 fr s).trans (calm_of_same (same_stage2 before _) (by decide))).trans (calm_stage3 fr _)

theorem calm_stage5 (fr : List Nat) (s : State) : Calm s (stage5 s fr) := by
  have hwheel : ∀ f, Calm s (s.updWheel f) := fun f => calm_of_same (same_updWheel f s) (by decide)
  unfold stage5
  dsimp only
  split
  · split
    · exact (hwheel _).trans (calm_motionEvent _)
    · exact hwheel _
  · split
    · split
      · exact .refl s
      · exact hwheel _
    · exact hwheel _

theorem stage4_exists (fr : List Nat) (s : State) (c : Nat) : channelExists (stage4 s fr) c = channelExists s c :=
  channelExists_congr (inUse_congr rfl rfl) c

theorem stage4_arc (fr : List Nat) (s : State) (hc : c ∈ channelNumbers) (he : channelExists s c = true) :
    (s.channel c).Arc ((stage4 s fr).channel c) := by
  have hstep : (s.channel c).Arc ((s.mapChannels (slipStep s fr)).channel c) :=
    mapChannels_rel s hc (.kept (.refl _)) (slipStep_arc s fr c _)
  exact hstep.before ((calm_recompose (s.mapChannels (slipStep s fr))).slip c hc he)

/-- The wheel and slip unit takes an existing channel along one arc at most (R71). -/
theorem wheelWork_arc (fr before : List Nat) (s : State) (hc : c ∈ channelNumbers) (he : channelExists s c = true) :
    (s.channel c).Arc ((wheelWork fr before s).channel c) := by
  have hr := calm_wheelRead fr before s
  have he' : channelExists (wheelRead fr before s) c = true := (hr.live c).trans he
  have he4 : channelExists (stage4 (wheelRead fr before s) fr) c = true := (stage4_exists fr _ c).trans he'
  rw [wheelWork_eq]
  exact .after (hr.slip c hc he) ((stage4_arc fr _ hc he').before ((calm_stage5 fr _).slip c hc he4))

/-- A returned list takes an existing channel along one arc at most, whatever the order of the blocks (R56, R71). -/
theorem listReturned_arc {l : List Byte} (h : answers s l = true) (o : List Block) (hc : c ∈ channelNumbers)
    (he : channelExists s c = true) : (s.channel c).Arc ((listReturned l o s).channel c) := by
  obtain ⟨fr, u, hu, hw⟩ := listReturned_around_wheel h o
  have heu : channelExists u c = true := (hu.calm.live c).trans he
  have hew : channelExists (wheelWork fr (followers s) u) c = true :=
    (channelExists_congr (inUse_congr ((same_wheelWork _ _ u).at .active (by decide))
      ((same_wheelWork _ _ u).at .chain (by decide))) c).trans heu
  exact .after (hu.calm.slip c hc he) ((wheelWork_arc fr _ u hc heu).before (hw.calm.slip c hc hew))

/-! ### A channel whose values follow, at the wheel and slip unit's own work -/

/-- A state that a recomposition leaves as it is has its loads as they follow. -/
theorem loadNow_of_composed (h : recompose s = s) : (s.updLoad fun _ => loadNow s) = s := by
  have hl : loadNow s = s.load := congrArg State.load h
  rw [hl]
  rfl

/-- There a channel's target is composed of its requests as they follow (R108 to R110). -/
theorem target_of_composed (h : recompose s = s) (h6 : s.channels.length = 6) (hc : c ∈ channelNumbers)
    (he : channelExists s c = true) : (s.channel c).target = targetOf s c (channelValues s c (s.channel c)) := by
  have hch := recompose_channel_of_six h6 hc
  rw [h, loadNow_of_composed h] at hch
  exact (congrArg Channel.target hch).trans (channelNow_target he _)

/-- A channel's reading taken at a completion with a reference speed, or the lack of one (R63, R67, R68). -/
def readingTaken (s : State) (v c : Nat) (ch : Channel) : Option Record → Channel
  | none => { ch with prevSpeed := none }
  | some r => { ch with
      accel := wheelAccel ch.prevSpeed (r.speedOf c) (sessionPeriod s), prevSpeed := some (r.speedOf c)
      slip := slipOf s.active.tuning.absMin v (r.speedOf c) }

theorem stage1_length (fr : List Nat) (s : State) : (stage1 s fr).channels.length = s.channels.length :=
  mapChannels_length _ s

theorem stage2_channel (before : List Nat) (s : State) (c : Nat) : (stage2 s before).channel c = s.channel c := rfl

theorem wheelRead_channel (fr before : List Nat) (h6 : s.channels.length = 6) (hc : c ∈ channelNumbers) :
    (wheelRead fr before s).channel c =
      readingTaken s (wheelRead fr before s).wheel.reference c (s.channel c) (freshReading s fr c) := by
  have h2 : (stage2 (stage1 s fr) before).channels.length = 6 := (stage1_length fr s).trans h6
  have hch : (stage2 (stage1 s fr) before).channel c = speedTaken s c (s.channel c) (freshReading s fr c) := by
    rw [stage2_channel, stage1_eq, mapChannels_channel_of_six h6 _ hc]
  have hread : freshReading (stage2 (stage1 s fr) before) fr c = freshReading s fr c := rfl
  unfold wheelRead
  rw [stage3_eq, mapChannels_channel_of_six h2 _ hc, hread, hch]
  cases freshReading s fr c <;> rfl

theorem wheelRead_length (fr before : List Nat) (s : State) :
    (wheelRead fr before s).channels.length = s.channels.length :=
  (mapChannels_length _ (stage2 (stage1 s fr) before)).trans (stage1_length fr s)

/-- A part that does not stand keeps its channels in stage 5. -/
theorem stage5_channels {fr : List Nat} (h : s.wheel.stationary = false) : (stage5 s fr).channels = s.channels := by
  unfold stage5
  dsimp only
  rw [if_neg (by simp [h] : ¬ s.wheel.stationary = true)]
  split
  · rfl
  · split
    · split <;> rfl
    · rfl

/-- A channel that is in FOLLOW, or neither has the target 0 nor passes through, is recomposed as it is (R76). -/
theorem channelNow_slips {ch : Channel} (he : channelExists s c = true) {st : SlipState} {hold level : Option Nat}
    {n : Nat} (h : ch.Slips st hold level n)
    (hq : (st = .follow ∧ hold = none ∧ level = none) ∨
      (targetOf s c (channelValues s c ch) ≠ 0 ∧ passesThrough s c = false)) :
    (channelNow s c ch).Slips st hold level n := by
  obtain ⟨hs, hh, hl, hn⟩ := h
  rw [channelNow_of_exists he]
  unfold channelTargeted
  dsimp only
  rcases hq with ⟨rfl, rfl, rfl⟩ | ⟨h0, hp⟩
  · split
    · exact ⟨rfl, rfl, rfl, hn⟩
    · exact ⟨hs, hh, hl, hn⟩
  · rw [if_neg (by simp [h0, hp])]
    exact ⟨hs, hh, hl, hn⟩

/-- A recomposition keeps an existing channel's readings. -/
theorem channelNow_readings {ch : Channel} (he : channelExists s c = true) :
    (channelNow s c ch).prevSpeed = ch.prevSpeed ∧ (channelNow s c ch).accel = ch.accel ∧
      (channelNow s c ch).slip = ch.slip := by
  rw [channelNow_of_exists he]
  unfold channelTargeted
  dsimp only
  split <;> exact ⟨rfl, rfl, rfl⟩

/-! ### The channel that the unit's own work leaves -/

/-- From s to t channels and items of the wheel and slip unit alone have changed. -/
def Rewheeled (s t : State) : Prop := ∃ channels wheel, t = { s with channels := channels, wheel := wheel }

theorem Rewheeled.trans (h : Rewheeled s t) (g : Rewheeled t u) : Rewheeled s u := by
  obtain ⟨_, _, rfl⟩ := h
  obtain ⟨channels, wheel, rfl⟩ := g
  exact ⟨channels, wheel, rfl⟩

theorem rewheeled_mapChannels (f : Nat → Channel → Channel) (s : State) : Rewheeled s (s.mapChannels f) :=
  ⟨_, s.wheel, rfl⟩

theorem rewheeled_updWheel (f : Wheel → Wheel) (s : State) : Rewheeled s (s.updWheel f) := ⟨s.channels, _, rfl⟩

theorem rewheeled_wheelRead (fr before : List Nat) (s : State) : Rewheeled s (wheelRead fr before s) := by
  have h1 : Rewheeled s (stage1 s fr) := rewheeled_mapChannels _ s
  have h2 : Rewheeled (stage1 s fr) (stage2 (stage1 s fr) before) := rewheeled_updWheel _ _
  have h3 : Rewheeled (stage2 (stage1 s fr) before) (wheelRead fr before s) := by
    unfold wheelRead stage3
    exact rewheeled_mapChannels _ _
  exact (h1.trans h2).trans h3

/-- No value that a recomposition gives a channel reads the other channels or the wheel and slip unit's items. -/
theorem Rewheeled.channelNow (h : Rewheeled s t) (c : Nat) (ch : Channel) :
    channelNow (t.updLoad fun _ => loadNow t) c ch = channelNow (s.updLoad fun _ => loadNow s) c ch := by
  obtain ⟨_, _, rfl⟩ := h
  rfl

/-- From a to b slip control alone has moved. -/
def Channel.SlipOnly (a b : Channel) : Prop :=
  b = { a with slipState := b.slipState, holdP := b.holdP, level := b.level, cycles := b.cycles }

theorem transition_slipOnly (k : TuningRec) (v p : Nat) (ch : Channel) : ch.SlipOnly (transition k v p ch) := by
  unfold transition reapplyRise
  dsimp only
  repeat' split
  all_goals rfl

theorem slipStep_slipOnly (s : State) (fr : List Nat) (c : Nat) (ch : Channel) : ch.SlipOnly (slipStep s fr c ch) := by
  unfold slipStep
  split
  · rfl
  · split
    · exact transition_slipOnly _ _ _ ch
    · rfl

/-- The target reads a channel's requests, which slip control does not move (R108, R110). -/
theorem Channel.SlipOnly.target {a b : Channel} (h : a.SlipOnly b) (s : State) (c : Nat) :
    targetOf s c (channelValues s c b) = targetOf s c (channelValues s c a) := by
  rw [h]
  rfl

theorem readingTaken_target (s : State) (v c : Nat) (ch : Channel) (r : Option Record) :
    targetOf s c (channelValues s c (readingTaken s v c ch r)) = targetOf s c (channelValues s c ch) := by
  cases r <;> rfl

theorem returns_iff (s : State) (c : Nat) (ch : Channel) : returns s c ch = true ↔
    s.wheel.reference < s.active.tuning.absMin ∨ ch.target = 0 ∨ s.composer.mode = .fallback ∨
      (channelNode s c).degraded = true ∨ s.chain.health ≠ .running := by
  simp only [returns, Bool.or_eq_true, decide_eq_true_eq, passesThrough_iff, or_assoc]

theorem freshReading_of_exists (fr : List Nat) (he : channelExists s c = true) : freshReading s fr c =
    if modPosition s (groupOf c) ∈ fr then (channelNode s c).record else none := by
  simp [freshReading, he]

/-- A channel with its reading taken, as its turn in stage 4 finds it. -/
def takenAt (fr before : List Nat) (s : State) (c : Nat) : Channel :=
  readingTaken s (wheelWork fr before s).wheel.reference c (s.channel c) (freshReading s fr c)

theorem wheelRead_reference (fr before : List Nat) (s : State) :
    (wheelRead fr before s).wheel.reference = (wheelWork fr before s).wheel.reference := by
  rw [wheelWork_eq, stage5_reference, stage4_wheel]

theorem takenAt_target (fr before : List Nat) (s : State) (c : Nat) :
    (takenAt fr before s c).target = (s.channel c).target := by
  unfold takenAt
  cases freshReading s fr c <;> rfl

theorem takenAt_slips (fr before : List Nat) (s : State) (c : Nat) : (takenAt fr before s c).Slips
    (s.channel c).slipState (s.channel c).holdP (s.channel c).level (s.channel c).cycles := by
  unfold takenAt
  cases freshReading s fr c <;> exact ⟨rfl, rfl, rfl, rfl⟩

/-- The returns of R76, judged on the new reference speed. -/
theorem returns_takenAt (fr before : List Nat) (s : State) (c : Nat) :
    returns (wheelRead fr before s) c (takenAt fr before s c) = true ↔
      (wheelWork fr before s).wheel.reference < s.active.tuning.absMin ∨ (s.channel c).target = 0 ∨
        s.composer.mode = .fallback ∨ (channelNode s c).degraded = true ∨ s.chain.health ≠ .running := by
  rw [returns_iff, wheelRead_reference, takenAt_target]
  rfl

/-- The target is the one before, whatever slip control does (R71, R110). -/
theorem targetOf_slipStep (fr before : List Nat) (h : recompose s = s) (h6 : s.channels.length = 6)
    (hc : c ∈ channelNumbers) (he : channelExists s c = true) :
    targetOf s c (channelValues s c (slipStep (wheelRead fr before s) fr c (takenAt fr before s c))) =
      (s.channel c).target := by
  rw [(slipStep_slipOnly _ fr c (takenAt fr before s c)).target, takenAt, readingTaken_target,
    ← target_of_composed h h6 hc he]

section
variable {fr before : List Nat} (h : recompose s = s) (h6 : s.channels.length = 6) (hs : s.wheel.stationary = false)
  (hc : c ∈ channelNumbers) (he : channelExists s c = true)
include h h6 hs hc

/-- With no motion event the unit's work on a channel is its turn in stage 4, recomposed. -/
theorem wheelWork_channel : (wheelWork fr before s).channel c =
    channelNow s c (slipStep (wheelRead fr before s) fr c (takenAt fr before s c)) := by
  have h6r : (wheelRead fr before s).channels.length = 6 := (wheelRead_length fr before s).trans h6
  have h6m : ((wheelRead fr before s).mapChannels (slipStep (wheelRead fr before s) fr)).channels.length = 6 :=
    (mapChannels_length _ _).trans h6r
  have hstill : (stage4 (wheelRead fr before s) fr).wheel.stationary = false := hs
  rw [wheelWork_eq, channel_congr (stage5_channels hstill), stage4_eq, recompose_channel_of_six h6m hc,
    mapChannels_channel_of_six h6r _ hc, wheelRead_channel fr before h6 hc, wheelRead_reference,
    ((rewheeled_wheelRead fr before s).trans (rewheeled_mapChannels _ _)).channelNow, loadNow_of_composed h]
  rfl

include he

theorem wheelWork_readings : ((wheelWork fr before s).channel c).target = (s.channel c).target ∧
    ((wheelWork fr before s).channel c).prevSpeed = (takenAt fr before s c).prevSpeed ∧
    ((wheelWork fr before s).channel c).accel = (takenAt fr before s c).accel ∧
    ((wheelWork fr before s).channel c).slip = (takenAt fr before s c).slip := by
  rw [wheelWork_channel h h6 hs hc]
  obtain ⟨hprev, haccel, hslip⟩ := channelNow_readings (s := s) he
    (ch := slipStep (wheelRead fr before s) fr c (takenAt fr before s c))
  rw [hprev, haccel, hslip, channelNow_target he, targetOf_slipStep fr before h h6 hc he,
    slipStep_slipOnly (wheelRead fr before s) fr c (takenAt fr before s c)]
  exact ⟨rfl, rfl, rfl, rfl⟩

/-- What a channel's turn in stage 4 makes of slip control stands after the unit's work. -/
theorem wheelWork_slips {st : SlipState} {hold level : Option Nat} {n : Nat}
    (hz : (slipStep (wheelRead fr before s) fr c (takenAt fr before s c)).Slips st hold level n) :
    ((wheelWork fr before s).channel c).Slips st hold level n := by
  rw [wheelWork_channel h h6 hs hc]
  refine channelNow_slips he hz ?_
  rw [targetOf_slipStep fr before h h6 hc he]
  by_cases hr : returns (wheelRead fr before s) c (takenAt fr before s c) = true
  · obtain ⟨hstate, hhold, hlevel, -⟩ := hz
    rw [slipStep, if_pos hr] at hstate hhold hlevel
    exact .inl ⟨hstate.symm, hhold.symm, hlevel.symm⟩
  · rw [returns_takenAt] at hr
    refine .inr ⟨fun h0 => hr (.inr (.inl h0)), Bool.eq_false_iff.mpr fun hp => hr ?_⟩
    exact .inr (.inr ((passesThrough_iff s c).mp hp))

end

/-! ### A reading (R67, R68) -/

theorem clampInt_eq (lo hi z : Int) (h : lo ≤ hi) : clampInt lo hi z = max lo (min hi z) := by
  unfold clampInt
  split
  · omega
  · split <;> omega

theorem wheelAccel_some (p now period : Nat) : wheelAccel (some p) now period =
    max (-32000) (min 32000 ((((now : Int) - p) * 10000).tdiv (36 * period))) := clampInt_eq _ _ _ (by decide)

theorem slipOf_of_not_below {absMin v now : Nat} (h : v < absMin ∨ v ≤ now) : slipOf absMin v now = 0 :=
  if_pos (by simpa using h)

theorem slipOf_of_below {absMin v now : Nat} (h : absMin ≤ v) (hn : now < v) :
    slipOf absMin v now = (v - now) * 1024 / v := if_neg (by simp; omega)

/-- A channel's turn in stage 4 where a return of R76 stands. -/
theorem slipStep_of_returns {fr : List Nat} {ch : Channel} (h : returns s c ch = true) :
    slipStep s fr c ch = ch.toFollow := if_pos h

theorem slipStep_of_none {fr : List Nat} {ch : Channel} (h : ¬ returns s c ch = true)
    (hr : freshReading s fr c = none) : slipStep s fr c ch = ch := by
  rw [slipStep, if_neg h, hr]

theorem slipStep_of_some {fr : List Nat} {ch : Channel} {r : Record} (h : ¬ returns s c ch = true)
    (hr : freshReading s fr c = some r) :
    slipStep s fr c ch = transition s.active.tuning s.wheel.reference (r.pressureOf c) ch := by
  rw [slipStep, if_neg h, hr]

/-- A completion's arc, clause by clause of the state table (R71 to R77). -/
theorem Channel.Arc.clauses {a b : Channel} (h : a.Arc b) :
    (a.slipState = .follow → b.slipState = .follow ∨ b.slipState = .release) ∧
    (a.slipState = .release → b.slipState ≠ .reapply) ∧
    (a.slipState = .reapply → b.slipState ≠ .hold) ∧
    (b.cycles = a.cycles ∨ b.cycles = satSucc 255 a.cycles) ∧
    (a.slipState = .follow → b.slipState = .release → b.cycles = satSucc 255 a.cycles) := by
  cases h with
  | kept h =>
    obtain ⟨hstate, hcycles⟩ := h
    rcases hstate with hstate | hstate
    · simp +contextual [hstate, hcycles]
    · simp [hstate, hcycles]
  | released hstate hcycles => rcases hstate with hstate | hstate <;> simp [hstate, hcycles]
  | held hbefore hstate hcycles => simp [hbefore, hstate, hcycles]
  | reapplied hbefore hstate hcycles => simp [hbefore, hstate, hcycles]

/-- Settles O30: over a completion one arc at most, and the unit's own work by the channel's turn in stage 4. -/
theorem oneSlipTransitionPerCompletion : Obligations.OneSlipTransitionPerCompletion := by
  unfold Obligations.OneSlipTransitionPerCompletion
  refine ⟨fun s l o h _ => ⟨_, rfl, fun c hc he => (listReturned_arc h o hc he).clauses⟩, ?_⟩
  intro s fresh before h h6 hs t k v c hc he x y slips stays released release back reading
  have hreading : freshReading s fresh c = reading := freshReading_of_exists fresh he
  have hback : returns (wheelRead fresh before s) c (takenAt fresh before s c) = true ↔ back :=
    returns_takenAt fresh before s c
  have hitems := takenAt_slips fresh before s c
  have htaken : takenAt fresh before s c = readingTaken s v c x reading := congrArg (readingTaken s v c x) hreading
  obtain ⟨htarget, hprev, haccel, hslip⟩ := wheelWork_readings (fr := fresh) (before := before) h h6 hs hc he
  have carry : ∀ {ch : Channel} {st hold level n},
      slipStep (wheelRead fresh before s) fresh c (takenAt fresh before s c) = ch → ch.Slips st hold level n →
        slips st hold level n := fun e hz => wheelWork_slips h h6 hs hc he (e ▸ hz)
  refine ⟨htarget, fun hnone => ?_, fun hb => ?_, fun r hr => ?_⟩
  · have hstep := fun hnb : ¬ back => slipStep_of_none (mt hback.mp hnb) (hreading.trans hnone)
    rw [htaken, hnone] at hprev haccel hslip
    exact ⟨hprev, haccel, hslip, fun hnb => carry (hstep hnb) hitems⟩
  · obtain ⟨-, -, -, hcycles⟩ := hitems
    exact carry (slipStep_of_returns (hback.mpr hb)) (hcycles ▸ toFollow_slips _)
  · have hstep := fun hnb : ¬ back => slipStep_of_some (mt hback.mp hnb) (hreading.trans hr)
    rw [wheelRead_reference] at hstep
    rw [htaken, hr] at hprev haccel hslip hstep
    have step : ¬ back → ∀ {st hold level n},
        (transition k v (r.pressureOf c) (readingTaken s v c x (some r))).Slips st hold level n →
          slips st hold level n := fun hnb => carry (by rw [htaken, hr]; exact hstep hnb)
    have hrel : releaseCondition k v (readingTaken s v c x (some r)) = true ↔ release := by
      rw [releaseCondition_iff]
      show _ ↔ (k.sRel < ((wheelWork fresh before s).channel c).slip ∨
        ((wheelWork fresh before s).channel c).accel < k.aRel) ∧ _
      rw [haccel, hslip]
      rfl
    refine ⟨hprev, fun hn => ?_, fun q hq => ?_, fun hv => ?_, fun hv hn => ?_, fun hnb => ?_⟩
    · exact haccel.trans (congrArg (wheelAccel · _ _) hn)
    · exact haccel.trans ((congrArg (wheelAccel · _ _) hq).trans (wheelAccel_some q _ _))
    · exact hslip.trans (slipOf_of_not_below hv)
    · exact hslip.trans (slipOf_of_below hv hn)
    · refine ⟨fun hst hrs hh => ?_, fun hst hno => ?_, fun hst hb => ?_, fun hst ha hb => ?_, fun hst hrs => ?_,
        fun hst hno hb => ?_, fun hst hno hb => ?_, fun hst hrs => ?_, fun hst hno => ⟨fun ht => ?_, fun ht => ?_⟩⟩
      · exact step hnb (transition_released (hrel.mpr hrs) (.inl ⟨hst, hh⟩))
      · exact step hnb (transition_follow_stays hst (hno.imp (mt hrel.mp) id))
      · exact step hnb (transition_release_held hst (hb.imp (haccel ▸ ·) (hslip ▸ ·)))
      · exact step hnb (transition_release_stays hst (haccel ▸ ha) (hslip ▸ hb))
      · exact step hnb (transition_released (hrel.mpr hrs) (.inr (.inl hst)))
      · exact step hnb (transition_hold_reapplied hst (mt hrel.mp hno) (hslip ▸ hb))
      · exact step hnb (transition_hold_stays hst (mt hrel.mp hno) (hslip ▸ hb))
      · exact step hnb (transition_released (hrel.mpr hrs) (.inr (.inr hst)))
      · exact step hnb (transition_reapply_reached hst (mt hrel.mp hno) ht)
      · exact step hnb (transition_reapply_rises hst (mt hrel.mp hno) ht)

end Sys2Proof.Machine
end

section
/-! PROOFS. What the blocks' operations keep of the load unit (R82 to R92): the filtered pressures of the groups, which a
recomposition reads and keeps, and with them the values that follow. Each operation ends in a recomposition or changes
nothing that these values are made of. -/

namespace Sys2Proof.Machine

variable {s t u : State} {L : List Part}

/-! ### Filtered pressures -/

/-- From s to t the same groups exist, with the filtered pressures they had, in a list of three if it was one, and there are
as many channels. -/
structure PressureKept (s t : State) : Prop where
  six   : t.channels.length = s.channels.length
  three : s.load.groups.length = 3 → t.load.groups.length = 3
  live  : ∀ g, groupExists t g = groupExists s g
  pf    : ∀ g, groupExists s g = true → (t.group g).pf = (s.group g).pf

theorem PressureKept.refl (s : State) : PressureKept s s := ⟨rfl, id, fun _ => rfl, fun _ _ => rfl⟩

theorem PressureKept.trans (h : PressureKept s t) (k : PressureKept t u) : PressureKept s u where
  six := k.six.trans h.six
  three := k.three ∘ h.three
  live g := (k.live g).trans (h.live g)
  pf g he := (k.pf g ((h.live g).trans he)).trans (h.pf g he)

/-- The load unit stands as it stood, the same groups exist, and no channel is more or less. -/
theorem PressureKept.of_groups (six : t.channels.length = s.channels.length) (hload : t.load = s.load)
    (live : ∀ g, groupExists t g = groupExists s g) : PressureKept s t where
  six := six
  three h := hload ▸ h
  live := live
  pf g _ := by rw [group_congr hload]

theorem PressureKept.of_load (six : t.channels.length = s.channels.length) (hload : t.load = s.load)
    (hactive : t.active = s.active) (hchain : t.chain = s.chain) : PressureKept s t :=
  .of_groups six hload (groupExists_congr hactive hchain)

theorem pressureKept_of_same (g : SameBut L s t) (d : ∀ p ∈ [Part.active, .chain, .channels, .load], p ∉ L) :
    PressureKept s t :=
  .of_load (congrArg List.length (g.at .channels (d _ (by decide)))) (g.at .load (d _ (by decide)))
    (g.at .active (d _ (by decide))) (g.at .chain (d _ (by decide)))

theorem pressureKept_mapChannels (f) (s : State) : PressureKept s (s.mapChannels f) :=
  .of_load (mapChannels_length f s) rfl rfl rfl

/-- A group that exists is one of the three. -/
theorem group_bounds {g : Nat} (h : groupExists s g = true) : 1 ≤ g ∧ g ≤ 3 := by
  obtain ⟨h1, hg⟩ := (within_iff 1 (groupCount s) g).mp h
  exact ⟨h1, hg.trans (Nat.min_le_left 3 _)⟩

theorem groupNow_of_exists {g : Nat} (h : groupExists s g = true) : (groupNow s g).pf = (s.group g).pf := by
  unfold groupNow
  rw [if_pos h]

theorem pressureKept_recompose (s : State) : PressureKept s (recompose s) where
  six := recompose_length s
  three _ := rfl
  live _ := rfl
  pf g he := by
    obtain ⟨h1, h3⟩ := group_bounds he
    rw [recompose_group s h1 h3, groupNow_of_exists he]

theorem pressureKept_foldl {α : Type} {f : State → α → State} (hf : ∀ t a, PressureKept t (f t a)) (l : List α) (s : State) :
    PressureKept s (l.foldl f s) :=
  List.foldlRecOn l f (.refl s) fun t ht a _ => ht.trans (hf t a)

/-! ### The values that follow -/

/-- From s to t the filtered pressures are kept, and the load unit's values follow their inputs if they did. -/
structure LoadKept (s t : State) : Prop where
  pressure : PressureKept s t
  follows  : LoadFollows s → LoadFollows t

theorem LoadKept.refl (s : State) : LoadKept s s := ⟨.refl s, id⟩

theorem LoadKept.trans (h : LoadKept s t) (k : LoadKept t u) : LoadKept s u :=
  ⟨h.pressure.trans k.pressure, k.follows ∘ h.follows⟩

theorem channelSeverity_congr (hactive : t.active = s.active) (hjudged : ∀ i, judged t i = judged s i) (c : Nat) :
    channelSeverity t c = channelSeverity s c := by
  unfold channelSeverity worstOf mapsTo
  simp only [hactive, hjudged]

/-- What keeps the load unit's values, their inputs and the severities keeps them following: the severities are all that the
load unit reads of the tyre unit (R92, R153). -/
theorem LoadFollows.of_severities (h : LoadFollows s) (p : PressureKept s t) (hload : t.load = s.load)
    (hactive : t.active = s.active) (heffective : t.composer.effective = s.composer.effective)
    (hswap : t.unapplied = s.unapplied) (hseverity : ∀ c, channelSeverity t c = channelSeverity s c)
    (driver : ∀ c, (t.channel c).driver = (s.channel c).driver ∧ (t.channel c).driverValue = (s.channel c).driverValue) :
    LoadFollows t := by
  have h0 : LoadFollows { t with tyre := s.tyre } := h.of_inputs hload hactive heffective rfl hswap p.live p.six driver
  refine { h0 with groups := fun hu g hg he => (h0.groups hu g hg he).of_inputs rfl rfl rfl, driver := fun hu c hc he => ?_ }
  obtain ⟨hvalue, hrequest⟩ := h.driver (hswap ▸ hu) c hc ((p.live _).symm.trans he)
  obtain ⟨hd, hv⟩ := driver c
  exact ⟨by rw [hv, group_congr hload, hactive, hseverity]; exact hvalue, by rw [hd, hv]; exact hrequest⟩

/-- The parts that the load unit's values are a function of, beside the tyre unit. -/
def loadParts : List Part := [.active, .chain, .channels, .load, .composer, .unapplied]

/-- A change within other parts that no position is judged otherwise after. -/
theorem loadKept_of_judged (g : SameBut L s t) (d : ∀ p ∈ loadParts, p ∉ L) (hjudged : ∀ i, judged t i = judged s i) :
    LoadKept s t := by
  have hactive : t.active = s.active := g.at .active (d _ (by decide))
  have hchain : t.chain = s.chain := g.at .chain (d _ (by decide))
  have hch : t.channels = s.channels := g.at .channels (d _ (by decide))
  have hload : t.load = s.load := g.at .load (d _ (by decide))
  have hcomposer : t.composer = s.composer := g.at .composer (d _ (by decide))
  have hp : PressureKept s t := .of_load (congrArg List.length hch) hload hactive hchain
  refine ⟨hp, fun h => h.of_severities hp hload hactive (congrArg Composer.effective hcomposer)
    (g.at .unapplied (d _ (by decide))) (channelSeverity_congr hactive hjudged) fun c => ?_⟩
  rw [channel_congr hch]
  exact ⟨rfl, rfl⟩

theorem judged_congr (h : t.tyre = s.tyre) (i : Nat) : judged t i = judged s i := by
  unfold judged State.position
  rw [h]

/-- A change within other parts keeps the load unit's values. -/
theorem loadKept_of_same (g : SameBut L s t) (d : ∀ p ∈ .tyre :: loadParts, p ∉ L) : LoadKept s t :=
  loadKept_of_judged g (fun p hp => d p (List.mem_cons_of_mem _ hp)) (judged_congr (g.at .tyre (d _ (by decide))))

/-- A recomposition makes the values follow, whatever stood before. -/
theorem loadKept_recompose (h : PressureKept s u) : LoadKept s (recompose u) where
  pressure := h.trans (pressureKept_recompose u)
  follows hs := loadFollows_recompose (h.six.trans hs.six)

/-! ### The stability unit -/

theorem loadKept_enterOff (s : State) : LoadKept s (enterOff s) := by
  unfold enterOff
  split
  · exact .refl s
  · refine loadKept_recompose (.of_load ?_ ?_ ?_ ?_) <;>
      simp [changeStab, originateStability, dropStabInt, dropStabTest]

theorem loadKept_testOff (s : State) : LoadKept s (testOff s) := by
  unfold testOff
  split
  · exact loadKept_enterOff s
  · exact .refl s

theorem loadKept_acknowledgeTest (side) (s : State) : LoadKept s (acknowledgeTest side s) := by
  refine loadKept_recompose (.of_load ?_ ?_ ?_ ?_) <;> simp [changeStab, originateStability]

theorem loadKept_abandonTest (s : State) : LoadKept s (abandonTest s) := by
  refine loadKept_recompose (.of_load ?_ ?_ ?_ ?_) <;> simp [changeStab, originateStability, endTestPulse]

theorem loadKept_enterRecover (s : State) : LoadKept s (enterRecover s) := by
  refine loadKept_recompose (.of_load ?_ ?_ ?_ ?_) <;> simp [changeStab, originateStability, dropStabInt]

theorem loadKept_removeDegraded (s : State) : LoadKept s (removeDegraded s) := by
  refine loadKept_recompose (.of_load ?_ ?_ ?_ ?_) <;> simp

/-- An intervention recomposes; the pulse of a test may have ended before it. -/
theorem loadKept_intervene (side) (h : PressureKept s u) : LoadKept s (intervene side u) := by
  refine loadKept_recompose (h.trans (.of_load ?_ ?_ ?_ ?_)) <;> simp [changeStab, originateStability]

theorem pressureKept_endTestPulse (s : State) : PressureKept s (endTestPulse s) :=
  .of_load (endTestPulse_length s) rfl rfl rfl

theorem loadKept_moveTo (st) (s : State) : LoadKept s (moveTo st s) := loadKept_of_same (same_moveTo st s) (by decide)

theorem loadKept_updStab (f) (s : State) : LoadKept s (s.updStab f) := loadKept_of_same (same_updStab f s) (by decide)

theorem loadKept_considerTest (ay) (s : State) : LoadKept s (considerTest ay s) := by
  unfold considerTest offerTest
  dsimp only
  split
  · exact loadKept_updStab _ s
  · split
    · split
      · exact loadKept_acknowledgeTest _ s
      · exact loadKept_updStab _ s
    · exact .refl s

theorem loadKept_evaluate (s : State) : LoadKept s (evaluate s) := by
  unfold evaluate
  dsimp only
  split
  · exact loadKept_enterOff s
  · split
    case h_1 => exact loadKept_moveTo _ s
    case h_2 =>
      split
      · exact loadKept_intervene _ (.refl s)
      · split
        · exact loadKept_moveTo _ s
        · exact .refl s
    case h_3 =>
      split
      · exact loadKept_intervene _ (.refl s)
      · split
        · exact loadKept_moveTo _ s
        · exact loadKept_considerTest _ s
    case h_4 =>
      split
      · exact loadKept_intervene _ (pressureKept_endTestPulse s)
      · split
        · exact loadKept_abandonTest s
        · exact .refl s
    case h_5 =>
      split
      · exact .refl s
      · exact loadKept_enterRecover s
    case h_6 =>
      split
      · exact loadKept_intervene _ (.refl s)
      · exact .refl s

theorem loadKept_workTest (s : State) : LoadKept s (workTest s) := by
  have hr := loadKept_removeDegraded s
  unfold workTest
  dsimp only
  split
  · exact hr.trans (loadKept_abandonTest _)
  · split
    · exact hr.trans (loadKept_intervene _ ((pressureKept_endTestPulse _).trans (.of_load rfl rfl rfl rfl)))
    · exact hr

theorem loadKept_workWatch (s : State) : LoadKept s (workWatch s) := by
  unfold workWatch
  dsimp only
  split
  · exact .refl s
  · split
    · exact loadKept_updStab _ s
    · split
      · exact loadKept_acknowledgeTest _ s
      · exact .refl s

theorem loadKept_workInState (s : State) : LoadKept s (workInState s) := by
  unfold workInState
  split
  case h_1 => exact loadKept_workTest s
  case h_2 => exact loadKept_workWatch s
  all_goals exact .refl s

theorem loadKept_stabilityWork (b) (s : State) : LoadKept s (stabilityWork b s) := by
  have hd : LoadKept s (if b then evaluate (takeThreshold s) else testOff s) := by
    split
    · exact (loadKept_of_same (same_takeThreshold s) (by decide)).trans (loadKept_evaluate _)
    · exact loadKept_testOff s
  unfold stabilityWork
  dsimp only
  generalize (if b then evaluate (takeThreshold s) else testOff s) = v at hd ⊢
  split
  · exact hd.trans (loadKept_workInState _)
  · exact hd

/-! ### The composer -/

/-- A re-establishment recomposes, whatever stood before. -/
theorem loadKept_reestablish (h : PressureKept s u) : LoadKept s (reestablish u) := by
  have hr : LoadKept s (remoded u) := by
    refine loadKept_recompose (h.trans (pressureKept_of_same (L := [.incidents, .composer]) ?_ (by decide)))
    exact (same_updComposer _ u).comp (same_demandLost _ _ _) (by decide) (by decide)
  rw [reestablish_eq]
  split
  · exact hr
  · exact hr.trans (loadKept_testOff _)

theorem loadKept_setEmergency (b) (s : State) : LoadKept s (setEmergency b s) := by
  unfold setEmergency
  dsimp only
  split
  · exact .refl s
  · have hc := same_updComposer (fun c => { c with emergency := b }) s
    refine loadKept_recompose ?_
    split
    · exact pressureKept_of_same (hc.comp (N := [.incidents, .composer]) (same_openIncident _ _ _) (by decide) (by decide))
        (by decide)
    · exact pressureKept_of_same (hc.comp (N := [.incidents, .composer]) (same_closeIncident _ _ _) (by decide) (by decide))
        (by decide)

theorem loadKept_judgeEmergency (fr) (s : State) : LoadKept s (judgeEmergency fr s) := by
  unfold judgeEmergency
  split
  · exact loadKept_setEmergency _ s
  · split
    · exact .refl s
    · split
      · exact loadKept_setEmergency _ s
      · exact .refl s

/-! ### Service tests and service mode -/

theorem loadKept_endTests (h : PressureKept s u) : LoadKept s (endTests u) :=
  loadKept_recompose (h.trans (pressureKept_mapChannels _ u))

theorem loadKept_endTest (c) (s : State) : LoadKept s (endTest c s) := loadKept_recompose (pressureKept_mapChannels _ s)

theorem loadKept_startTest (c p d) (s : State) : LoadKept s (startTest c p d s) := by
  rw [startTest_eq]
  exact loadKept_recompose (pressureKept_mapChannels _ s)

theorem loadKept_endService (s : State) : LoadKept s (endService s) := by
  unfold endService
  split
  · exact loadKept_endTests (pressureKept_of_same (same_updMgmt _ s) (by decide))
  · exact .refl s

/-! ### Tyres -/

theorem loadKept_driveLamp (s : State) : LoadKept s (driveLamp s) := by
  refine loadKept_of_judged (same_driveLamp s) (by decide) fun i => ?_
  unfold driveLamp
  dsimp only
  split <;> rfl

/-- The tyre unit's settling recomposes, whatever stood before. -/
theorem loadKept_tyreSettle (h : PressureKept s u) : LoadKept s (tyreSettle u) :=
  loadKept_recompose (h.trans (pressureKept_of_same (same_driveLamp u) (by decide)))

theorem loadKept_acceptTelegram (i fd x) (h : PressureKept s u) : LoadKept s (acceptTelegram i fd x u) := by
  have hi : ∀ q, SameBut [.incidents, .tyre] u (tyreIncidents i (u.position i) q (u.updPosition i fun _ => q)) := fun q =>
    (same_updPosition _ _ u).comp (same_tyreIncidents _ _ _ _) (by decide) (by decide)
  unfold acceptTelegram
  refine loadKept_tyreSettle (h.trans (pressureKept_of_same (L := [.incidents, .portA, .tyre]) ?_ (by decide)))
  refine SameBut.comp (L := [.incidents, .tyre]) ?_ (same_setTyreState _ _ _) (by decide) (by decide)
  split
  · exact (hi _).trans ((same_closeIncident _ _ _).mono (by decide))
  · exact hi _

theorem loadKept_endLearn (s : State) : LoadKept s (endLearn s) := by
  cases h : s.tyre.learn with
  | none => rw [endLearn_of_none h]; exact .refl s
  | some l =>
    rw [endLearn_eq h]
    refine loadKept_tyreSettle (pressureKept_of_same (L := [.portA, .tyre]) ?_ (by decide))
    exact (same_updTyre _ s).comp (same_setTyreState _ _ _) (by decide) (by decide)

theorem loadKept_startLearn (i fd) (s : State) : LoadKept s (startLearn i fd s) := by
  refine loadKept_tyreSettle (pressureKept_of_same (L := [.portA, .tyre]) ?_ (by decide))
  exact (same_updTyre _ s).comp (same_setTyreState _ _ _) (by decide) (by decide)

/-- Before the tyre unit settles, a position at a swap keeps the filtered pressures (R159). -/
theorem pressureKept_swapPosition (b i) (s : State) : PressureKept s (swapPosition b i s) := by
  have he : PressureKept s (endLearnAt i s) := by
    unfold endLearnAt
    split
    · exact .refl s
    · split
      · exact (loadKept_endLearn s).pressure
      · exact .refl s
  unfold swapPosition
  dsimp only
  split
  · exact he.trans (pressureKept_of_same (same_clearAtSwap _ _ _ _) (by decide))
  · split
    · exact pressureKept_of_same (same_clearAtSwap _ _ _ s) (by decide)
    · split
      · exact pressureKept_of_same (same_clearAtSwap _ _ _ s) (by decide)
      · exact pressureKept_of_same (same_reevaluate i s) (by decide)

/-- A swap that the blocks apply recomposes, whatever stood before. -/
theorem loadKept_applySwap (b) (h : PressureKept s u) : LoadKept s (applySwap b u) :=
  loadKept_tyreSettle ((loadKept_reestablish h).pressure.trans
    (pressureKept_foldl (fun t i => pressureKept_swapPosition b i t) _ _))

theorem loadKept_applyHeld (s : State) : LoadKept s (applyHeld s) := by
  unfold applyHeld
  split
  · exact .refl s
  · exact loadKept_applySwap _ (.of_load rfl rfl rfl rfl)

theorem loadKept_deliver (b) (s : State) : LoadKept s (deliver b s) := by
  unfold deliver
  dsimp only
  split
  · exact .refl s
  · refine (loadKept_applyHeld s).trans ?_
    split
    · exact loadKept_of_judged (same_updTyre _ _) (by decide) fun _ => rfl
    · refine loadKept_of_judged (same_updTyre _ _) (by decide) fun i => ?_
      by_cases hroom : (applyHeld s).tyre.fifo.length < 16 <;> simp [judged, State.position, hroom]

theorem storeLearned_kept (s : State) : PressureKept s (storeLearned s) := by
  unfold storeLearned
  split
  · exact pressureKept_of_same (same_updMgmt _ s) (by decide)
  · exact pressureKept_of_same (same_updMgmt _ s) (by decide)

/-- A learned ID is no part of the chain configuration (R157). -/
theorem pressureKept_writeLearned (i fd x) (s : State) : PressureKept s (writeLearned i fd x s) :=
  .of_groups rfl rfl fun _ => rfl

theorem loadKept_completeLearn (l x) (s : State) : LoadKept s (completeLearn l x s) := by
  have hw := (pressureKept_writeLearned l.pos l.field x.id s).trans (storeLearned_kept _)
  have hp := same_updPosition l.pos (fun _ => Position.cleared .learning (some (missingTimeout
    (storeLearned (writeLearned l.pos l.field x.id s)).active))) (storeLearned (writeLearned l.pos l.field x.id s))
  refine loadKept_acceptTelegram _ _ _ (hw.trans (pressureKept_of_same (L := [.incidents, .tyre]) ?_ (by decide)))
  exact (hp.comp (N := [.incidents, .tyre]) (same_closeTyreIncidents _ _) (by decide) (by decide)).trans
    ((same_updTyre _ _).mono (by decide))

theorem loadKept_handleTelegram (x) (s : State) : LoadKept s (handleTelegram x s) := by
  unfold handleTelegram
  split
  · unfold offerLearn
    split
    · exact .refl s
    · split
      · exact loadKept_completeLearn _ x s
      · exact .refl s
  · split
    · exact .refl s
    · split
      · exact .refl s
      · exact loadKept_acceptTelegram _ _ _ (.refl s)

theorem loadKept_takeTelegram (s : State) : LoadKept s (takeTelegram s) := by
  unfold takeTelegram
  split
  · exact .refl s
  · refine ((loadKept_applyHeld s).trans ?_).trans (loadKept_handleTelegram _ _)
    exact loadKept_of_judged (same_updTyre _ _) (by decide) fun _ => rfl

end Sys2Proof.Machine
end

section
/-! PROOFS. What the blocks keep of the load unit's values (R86 to R92) at a tyre unit's silence, in SLEEP and at a session
completion, and what the passing of time keeps. -/

namespace Sys2Proof.Machine

variable {s t : State}

/-! ### Positions judged as before (R153) -/

theorem position_state_congr
    (h : ∀ i : Nat, t.tyre.positions[i]?.map Position.state = s.tyre.positions[i]?.map Position.state) (i : Nat) :
    (t.position i).state = (s.position i).state := by
  have hi := h i
  unfold State.position
  rw [List.getD_eq_getElem?_getD, List.getD_eq_getElem?_getD]
  cases ht : t.tyre.positions[i]? <;> cases hs : s.tyre.positions[i]? <;> simp_all

/-- A position is judged by its state and a learn's saved state, whatever timers run. -/
theorem judged_of_states (hlearn : t.tyre.learn.map (fun l => (l.pos, l.saved)) = s.tyre.learn.map fun l => (l.pos, l.saved))
    (h : ∀ i : Nat, t.tyre.positions[i]?.map Position.state = s.tyre.positions[i]?.map Position.state) (i : Nat) :
    judged t i = judged s i := by
  have hi := position_state_congr h i
  unfold judged
  rw [hi]
  cases ht : t.tyre.learn <;> cases hs : s.tyre.learn <;> simp_all

theorem judged_elapse (r : Nat) (s : State) : ∀ i, judged (elapse r s) i = judged s i := by
  refine judged_of_states ?_ fun i => ?_
  · show (s.tyre.learn.map fun l => { l with timer := runDown r l.timer }).map _ = _
    rw [Option.map_map]
    rfl
  · show (s.tyre.positions.map fun q => { q with missing := runDown r q.missing })[i]?.map _ = _
    rw [List.getElem?_map, Option.map_map]
    rfl

/-- Time changes timers alone, and no value of the load unit is made of one. -/
theorem loadFollows_elapse (h : LoadFollows s) (r : Nat) : LoadFollows (elapse r s) := by
  refine h.of_severities (.of_groups (elapse_length r s) rfl fun _ => rfl) rfl rfl rfl rfl
    (channelSeverity_congr rfl (judged_elapse r s)) fun c => ?_
  rw [elapse_channel]
  exact ⟨rfl, rfl⟩

theorem loadKept_tyreSleep (s : State) : LoadKept s (tyreSleep s) := by
  refine (loadKept_of_judged (same_updTyre _ s) (by decide) (judged_of_states rfl fun i => ?_)).trans (loadKept_driveLamp _)
  rw [updTyre_tyre, List.getElem?_map, Option.map_map]
  rfl

theorem loadKept_tyreWake (s : State) : LoadKept s (tyreWake s) := by
  refine (loadKept_of_judged (same_updTyre _ s) (by decide) (judged_of_states rfl fun i => ?_)).trans (loadKept_driveLamp _)
  rw [updTyre_tyre, List.getElem?_mapIdx, Option.map_map]
  congr 1
  funext q
  dsimp only [Function.comp]
  split <;> rfl

/-! ### Silence (R152) -/

theorem loadKept_stopMissing (i) (s : State) : LoadKept s (s.updPosition i fun q => { q with missing := none }) := by
  refine loadKept_of_judged (same_updPosition _ _ s) (by decide) (judged_of_states rfl fun j => ?_)
  show (s.tyre.positions.modify i _)[j]?.map _ = _
  rw [List.getElem?_modify, Option.map_eq_map, Option.map_map]
  congr 1
  funext q
  dsimp only [Function.comp]
  split <;> rfl

theorem loadKept_savedMissing (i) (s : State) : LoadKept s (savedMissing i s) := by
  unfold savedMissing
  split
  · exact .refl s
  · split
    · refine loadKept_tyreSettle (pressureKept_of_same (L := [.incidents, .tyre]) ?_ (by decide))
      exact (same_updTyre _ s).comp (same_openIncident _ _ _) (by decide) (by decide)
    · exact .refl s

theorem loadKept_fallSilent (i) (s : State) : LoadKept s (fallSilent i s) := by
  refine (loadKept_stopMissing i s).trans ?_
  unfold fallSilent
  dsimp only
  split
  · exact loadKept_savedMissing i _
  · exact .refl _
  · refine loadKept_tyreSettle (pressureKept_of_same (L := [.incidents, .tyre, .portA]) ?_ (by decide))
    exact (same_setTyreState _ _ _).comp (same_openIncident _ _ _) (by decide) (by decide)

theorem loadKept_missingExpired (i) (s : State) : LoadKept s (missingExpired i s) := by
  unfold missingExpired
  dsimp only
  split
  · exact (loadKept_applyHeld s).trans (loadKept_fallSilent i _)
  · exact loadKept_applyHeld s

/-! ### Voltage and SLEEP (R177, R180) -/

theorem loadKept_updPower (f) (s : State) : LoadKept s (s.updPower f) := loadKept_of_same (same_updPower f s) (by decide)

theorem loadKept_enterSleep (s : State) : LoadKept s (enterSleep s) :=
  ((loadKept_applyHeld s).trans (loadKept_updPower _ _)).trans (loadKept_tyreSleep _)

theorem loadKept_updateVoltage (v) (s : State) : LoadKept s (updateVoltage v s) := by
  unfold updateVoltage
  dsimp only
  split
  · have hl : LoadKept s (setLockout (s.updPower fun p => { p with
        voltage := v, low := nextLow s.active.tuning.batteryLimit v s.power.low })) :=
      (loadKept_updPower _ s).trans (loadKept_updPower _ _)
    split
    · exact hl
    · exact hl.trans (loadKept_enterSleep _)
  · exact loadKept_updPower _ s

/-! ### The blocks at a completion (R56) -/

theorem loadKept_motionEvent (s : State) : LoadKept s (motionEvent s) :=
  loadKept_endTests ((loadKept_endService s).trans (loadKept_endLearn _)).pressure

theorem loadKept_updWheel (f) (s : State) : LoadKept s (s.updWheel f) := loadKept_of_same (same_updWheel f s) (by decide)

theorem loadKept_stage5 (fr) (s : State) : LoadKept s (stage5 s fr) := by
  unfold stage5
  dsimp only
  split
  · split
    · exact (loadKept_updWheel _ s).trans (loadKept_motionEvent _)
    · exact loadKept_updWheel _ s
  · split
    · split
      · exact .refl s
      · exact loadKept_updWheel _ s
    · exact loadKept_updWheel _ s

theorem loadKept_wheelWork (fr before) (s : State) : LoadKept s (wheelWork fr before s) := by
  have hread : PressureKept s (stage3 (stage2 (stage1 s fr) before) fr) :=
    ((pressureKept_mapChannels _ s).trans (pressureKept_of_same (same_stage2 before _) (by decide))).trans
      (pressureKept_mapChannels _ _)
  exact (loadKept_recompose (hread.trans (pressureKept_mapChannels _ _))).trans (loadKept_stage5 fr _)

theorem loadKept_powerWork (fr) (s : State) : LoadKept s (powerWork fr s) := by
  unfold powerWork
  split
  · exact .refl s
  · split
    · exact loadKept_updateVoltage _ s
    · exact .refl s

/-- Every block but the load unit keeps the filtered pressures and the values that follow them. -/
theorem loadKept_blockWork (fr before) {b : Block} (hb : b ≠ .load) (s : State) : LoadKept s (blockWork fr before b s) := by
  cases b with
  | wheel => exact loadKept_wheelWork fr before s
  | load => exact absurd rfl hb
  | composer => exact (loadKept_judgeEmergency fr s).trans (loadKept_reestablish (.refl _))
  | stability => exact loadKept_stabilityWork _ s
  | power => exact loadKept_powerWork fr s

theorem loadFollows_blockWork (fr before b) (h : LoadFollows s) : LoadFollows (blockWork fr before b s) := by
  by_cases hb : b = .load
  · rw [hb]
    exact loadFollows_recompose (s := s.updLoad _) h.six
  · exact (loadKept_blockWork fr before hb s).follows h

theorem loadFollows_complete (fr before o) (h : LoadFollows s) : LoadFollows (complete fr before o s) :=
  List.foldlRecOn (blockOrder o) _ h fun _ ht b _ => loadFollows_blockWork fr before b ht

end Sys2Proof.Machine
end

section
/-! PROOFS. The chain, the power controller and the requests keep the load unit's values following (R86 to R91), and with
them every command (O7). -/

namespace Sys2Proof.Machine

variable {s t u : State} {L : List Part}

/-! ### Changes within other parts -/

theorem LoadFollows.quiet (h : LoadFollows s) (g : SameBut L s t) (d : ∀ p ∈ .tyre :: loadParts, p ∉ L) : LoadFollows t :=
  (loadKept_of_same g d).follows h

/-- A recomposition after a change within parts other than the channels. -/
theorem loadFollows_recompose_of_same (h : s.channels.length = 6) (g : SameBut L s t) (d : Part.channels ∉ L) :
    LoadFollows (recompose t) := loadFollows_recompose (six_of_same h g d)

/-! ### The chain -/

theorem loadFollows_goodSession (rs o) (h : LoadFollows s) : LoadFollows (goodSession rs o s) := by
  refine loadFollows_complete _ _ _ (loadFollows_recompose_of_same (L := [.incidents, .chain]) h.six ?_ (by decide))
  exact ((same_applyResponses rs s).comp (N := [.incidents, .chain]) (same_updChain _ _) (by decide) (by decide)).trans
    (same_moveGood _)

theorem loadFollows_failSession (x o) (h : LoadFollows s) : LoadFollows (failSession x o s) := by
  refine loadFollows_complete _ _ _ (loadFollows_recompose_of_same (L := [.incidents, .chain]) h.six ?_ (by decide))
  exact (same_updChain _ s).comp (same_moveFailed _) (by decide) (by decide)

theorem loadFollows_listReturned (l o) (h : LoadFollows s) : LoadFollows (listReturned l o s) := by
  unfold listReturned
  split
  · split
    · exact loadFollows_goodSession _ o h
    · exact loadFollows_failSession _ o h
  · exact h

/-- What the chain changes without another group or channel coming to exist. -/
theorem loadFollows_updChain {f : Chain → Chain} (h : LoadFollows s)
    (live : ∀ g, groupExists (s.updChain f) g = groupExists s g) : LoadFollows (s.updChain f) :=
  h.of_inputs rfl rfl rfl rfl rfl live rfl fun _ => ⟨rfl, rfl⟩

theorem loadFollows_startPeriod (h : LoadFollows s) : LoadFollows (startPeriod s) := loadFollows_updChain h fun _ => rfl

theorem loadFollows_bindChain (h : LoadFollows s) (hd : chainDiffers s = false) : LoadFollows (bindChain s) := by
  refine loadFollows_updChain h fun g => ?_
  show within 1 (min 3 s.active.chain.mods.length) g = within 1 (min 3 (inUse s).mods.length) g
  rw [bindChain_mods hd]

/-- A session's number and command list change of the channels the carried modes alone (R44). -/
theorem loadFollows_sendCommands (h : LoadFollows s) : LoadFollows (sendCommands (numberSession s)) :=
  h.of_inputs rfl rfl rfl rfl rfl (fun _ => rfl) (sendCommands_length _) (sendCommands_driver (numberSession s))

theorem loadFollows_sessionStart (b) (h : LoadFollows s) : LoadFollows (sessionStart b s) := by
  refine loadFollows_sendCommands ?_
  split
  · exact (blocksFollow_reinitialise h.six).load
  · next hd => exact loadFollows_bindChain h (by simp_all)

theorem loadFollows_startChain (b) (h : LoadFollows s) : LoadFollows (startChain b s) := by
  unfold startChain
  split
  · exact loadFollows_startPeriod (loadFollows_sessionStart b h)
  · exact h

theorem loadFollows_periodExpired (o) (h : LoadFollows s) : LoadFollows (periodExpired o s) := by
  have hp := loadFollows_startPeriod h
  have hf : LoadFollows (if (startPeriod s).chain.outstanding.isSome then failSession .noResponse o (startPeriod s)
      else startPeriod s) := by
    split
    · exact loadFollows_failSession _ o hp
    · exact hp
  unfold periodExpired
  dsimp only
  generalize (if (startPeriod s).chain.outstanding.isSome then failSession .noResponse o (startPeriod s)
      else startPeriod s) = w at hf ⊢
  split
  · exact loadFollows_sessionStart _ hf
  · exact hf

/-! ### Power -/

/-- A re-establishment makes the values follow, whatever stood before. -/
theorem loadFollows_reestablish (h : s.channels.length = 6) : LoadFollows (reestablish s) := (blocksFollow_reestablish h).load

/-- Leaving RUN recomposes, whatever stood before: every P_f is absent (R96). -/
theorem loadFollows_leaveRun (h : s.channels.length = 6) : LoadFollows (leaveRun s) := by
  have hr : LoadFollows (reestablish (atRest s)) := loadFollows_reestablish ((atRest_length s).trans h)
  have hoff := (loadKept_endLearn _).follows (loadFollows_enterOff hr)
  have hm : LoadFollows (leaveMgmt (endLearn (enterOff (reestablish (atRest s))))) :=
    ((loadKept_endService _).follows hoff).quiet (same_updMgmt _ _) (by decide)
  rw [leaveRun_eq]
  exact (loadKept_endTests (.refl _)).follows hm

theorem loadFollows_powerOff (v) (h : LoadFollows s) : LoadFollows (powerOff v s) := by
  have hv := ((loadKept_updPower (fun p => { p with linkPower := false }) s).trans
    (loadKept_updateVoltage (min 400 v) _)).follows h
  have ht : LoadFollows (turnedOff v s) := loadFollows_leaveRun hv.six
  rw [powerOff_eq]
  split
  · exact (loadKept_updPower _ _).follows ht
  · refine (loadKept_enterSleep _).follows ?_
    split
    · exact (loadKept_updPower _ _).follows ht
    · exact ht

theorem loadKept_startListening (s : State) : LoadKept s (startListening s) :=
  ((loadKept_applyHeld s).trans (loadKept_updPower _ _)).trans (loadKept_tyreWake _)

theorem loadKept_parkExpired (s : State) : LoadKept s (parkExpired s) := by
  unfold parkExpired
  split
  · exact loadKept_updPower _ s
  · split
    · exact loadKept_updPower _ s
    · exact (loadKept_updPower _ s).trans (loadKept_enterSleep _)

theorem loadKept_listenExpired (s : State) : LoadKept s (listenExpired s) := by
  unfold listenExpired
  split
  · exact loadKept_updPower _ s
  · split
    · exact loadKept_updPower _ s
    · exact (loadKept_updPower _ s).trans (loadKept_enterSleep _)

theorem loadKept_wakeExpired (s : State) : LoadKept s (wakeExpired s) := by
  unfold wakeExpired
  split
  · exact loadKept_startListening s
  · exact loadKept_updPower _ s

theorem loadKept_wakeLine (s : State) : LoadKept s (wakeLine s) := by
  unfold wakeLine
  split
  · exact loadKept_startListening s
  · exact .refl s

theorem loadKept_sampleExpired (v) (s : State) : LoadKept s (sampleExpired v s) := by
  unfold sampleExpired
  dsimp only
  split
  · exact (loadKept_updPower _ s).trans (loadKept_updateVoltage _ _)
  · exact loadKept_updPower _ s

/-- Entering RUN recomposes, but the swap that waits is applied first. -/
theorem loadFollows_enterRun (h : s.channels.length = 6) : LoadFollows (enterRun s) :=
  loadFollows_reestablish ((setEmergency_length _ _).trans ((loadKept_applyHeld s).pressure.six.trans h))

theorem loadFollows_powerOn (h : LoadFollows s) : LoadFollows (powerOn s) := by
  have hp := (loadKept_updPower (fun p => { p with linkPower := true }) s).follows h
  have hr := loadFollows_enterRun hp.six
  unfold powerOn
  dsimp only
  split
  · exact hp
  · split
    · exact (loadKept_tyreWake _).follows hr
    · exact hr

theorem loadFollows_startBlocks (s : State) : LoadFollows (startBlocks s) := loadFollows_recompose rfl

theorem loadFollows_beginRestart (s : State) : LoadFollows (beginRestart s) :=
  loadFollows_enterRun (loadFollows_startBlocks _).six

theorem loadFollows_triggerRestart (h : LoadFollows s) : LoadFollows (triggerRestart s) := by
  unfold triggerRestart
  split
  · exact h
  · split
    · exact h.quiet (same_updMgmt _ s) (by decide)
    · exact loadFollows_beginRestart s

theorem loadFollows_coldStart (v l) (s : State) : LoadFollows (coldStart v l s) := by
  have hb := loadFollows_startBlocks (coldLoaded v l s)
  rw [coldStart_eq]
  split
  · exact loadFollows_enterRun hb.six
  · rw [coldSleep_eq]
    exact (loadKept_enterSleep _).follows (hb.quiet (same_lockedIfLow _) (by decide))

/-! ### Requests -/

/-- A condition that requests keep: it speaks neither of the management unit nor of the ports, and each work that a request
hands over keeps it (R156, R158, R164, R165, R167, R171, R113). -/
structure KeptByRequestWork (P : State → Prop) : Prop where
  quiet   : ∀ {u v}, SameBut [.portA, .portB, .mgmt] u v → P u → P v
  clear   : ∀ {u}, P u → P (clearIncidents u)
  service : ∀ {u}, P u → P (endService u)
  learn   : ∀ {u} i field, P u → P (startLearn i field u)
  cancel  : ∀ {u}, P u → P (endLearn u)
  test    : ∀ {u} c p d, P u → P (startTest c p d u)
  restart : ∀ {u}, P u → P (triggerRestart u)

section
variable {P : State → Prop} (k : KeptByRequestWork P)
include k

theorem KeptByRequestWork.respond (code r res data) (h : P s) : P (respond code r res data s) :=
  k.quiet ((same_respond code r res data s).mono (by cases r.port <;> decide)) h

theorem KeptByRequestWork.updMgmt (f) (h : P s) : P (s.updMgmt f) := k.quiet ((same_updMgmt f s).mono (by decide)) h

/-- Behind the common checks a request is its act (R161). -/
theorem KeptByRequestWork.manage {act : State → State} (hact : ∀ t, P t → P (act t)) (code need exempt r) (h : P s) :
    P (manage code need exempt act r s) := by
  have hi : P (touchIdle s) := k.quiet ((same_touchIdle s).mono (by decide)) h
  rcases manage_cases code need exempt act r s with ⟨_, e⟩ | ⟨_, _, _, e⟩ | ⟨_, _, _, e⟩ | ⟨_, _, _, e⟩ <;> rw [e]
  · exact h
  · exact k.respond _ _ _ _ hi
  · exact k.respond _ _ _ _ hi
  · exact hact _ hi

theorem KeptByRequestWork.enterService (r) (h : P s) : P (doEnterService r s) := by
  refine k.manage (fun t ht => ?_) _ _ _ r h
  split
  · exact k.respond _ _ _ _ ht
  · refine k.respond _ _ _ _ ?_
    split
    · exact ht
    · exact k.updMgmt _ ht

theorem KeptByRequestWork.stage (r) (h : P s) : P (doStage r s) := by
  refine k.manage (fun t ht => ?_) _ _ _ r h
  split
  · exact k.respond _ _ _ _ ht
  · unfold stageShadow
    split
    · exact k.respond _ _ _ _ (k.updMgmt _ ht)
    · exact k.respond _ _ _ _ ht

theorem KeptByRequestWork.commit (r) (h : P s) : P (doCommit r s) := by
  refine k.manage (fun t ht => ?_) _ _ _ r h
  split
  · exact k.respond _ _ _ _ ht
  · split
    · exact k.respond _ _ _ _ ht
    · unfold commitShadow
      split
      · exact k.respond _ _ _ _ ht
      · exact k.updMgmt _ ht

/-- A request that is answered in service mode, after its work there, and refused outside it. -/
theorem KeptByRequestWork.inService {work : State → State} (hwork : ∀ t, P t → P (work t)) {data : State → List Byte}
    (code need r) (h : P s) : P (Machine.manage code need false (fun t =>
      if t.inService then Machine.respond code r .done (data t) (work t)
      else Machine.respond code r .notInService [] t) r s) := by
  refine k.manage (fun t ht => ?_) _ _ _ r h
  split
  · exact k.respond _ _ _ _ (hwork t ht)
  · exact k.respond _ _ _ _ ht

theorem KeptByRequestWork.learnTyre (r) (h : P s) : P (doLearnTyre r s) := by
  refine k.manage (fun t ht => ?_) _ _ _ r h
  split
  · exact k.respond _ _ _ _ (k.learn _ _ ht)
  · exact k.respond _ _ _ _ ht

theorem KeptByRequestWork.serviceTest (r) (h : P s) : P (doServiceTest r s) := by
  refine k.manage (fun t ht => ?_) _ _ _ r h
  split
  · exact k.respond _ _ _ _ (k.test _ _ _ ht)
  · exact k.respond _ _ _ _ ht

theorem KeptByRequestWork.restartRequest (r) (h : P s) : P (doRestart r s) := by
  refine k.manage (fun t ht => ?_) _ _ _ r h
  split
  · have hq : P (enqueueRestart r (t.updMgmt fun m => { m with restartPending := true, restartTimer := some 200 })) :=
      k.quiet ((same_updPort _ _ _).mono (by cases r.port <;> decide)) (k.updMgmt _ ht)
    unfold Machine.acceptRestart
    dsimp only
    split
    · exact hq
    · exact k.restart hq
  · exact k.respond _ _ _ _ ht

/-- What the work of the requests keeps, every request keeps. -/
theorem KeptByRequestWork.request (h : P s) (r : Request) : ∀ p ∈ requestsOf r, ∃ t, exec p.2 s = .next t ∧ P t := by
  have answer : ∀ t, P t → ∀ code res data, P (Machine.respond code r res data t) := fun t ht code res data =>
    k.respond code r res data ht
  simp only [requestsOf, List.forall_mem_cons]
  exact ⟨⟨_, rfl, k.manage (fun t ht => answer t ht _ _ _) _ _ _ r h⟩,
    ⟨_, rfl, k.manage (fun t ht => answer t ht _ _ _) _ _ _ r h⟩,
    ⟨_, rfl, k.enterService r h⟩, ⟨_, rfl, k.inService (fun _ => k.service) _ _ r h⟩, ⟨_, rfl, k.stage r h⟩,
    ⟨_, rfl, k.commit r h⟩, ⟨_, rfl, k.inService (fun _ => k.updMgmt _) _ _ r h⟩, ⟨_, rfl, k.learnTyre r h⟩,
    ⟨_, rfl, k.manage (fun _ ht => answer _ (k.cancel ht) _ _ _) _ _ _ r h⟩, ⟨_, rfl, k.serviceTest r h⟩,
    ⟨_, rfl, k.inService (fun _ => k.clear) _ _ r h⟩, ⟨_, rfl, k.restartRequest r h⟩, fun _ hp => (List.not_mem_nil hp).elim⟩

theorem KeptByRequestWork.unknown (code r) (h : P s) : P (doUnknown code r s) := by
  unfold doUnknown
  split
  · exact k.respond _ _ _ _ h
  · exact h

/-- A MGMT_REQ is the request of its code (R161). -/
theorem KeptByRequestWork.consume (p f) (h : P s) : P (consumeRequest p f s) := by
  unfold consumeRequest
  split
  · exact takeRequest_induction _ (k.request h _) (k.unknown _ _ h)
  · exact h

end

theorem loadKept_clearIncidents (s : State) : LoadKept s (clearIncidents s) :=
  loadKept_of_judged (same_clearIncidents s) (by decide) fun _ => rfl

theorem keptByRequestWork_loadFollows : KeptByRequestWork LoadFollows where
  quiet g h := h.quiet g (by decide)
  clear := (loadKept_clearIncidents _).follows
  service := (loadKept_endService _).follows
  learn i fd := (loadKept_startLearn i fd _).follows
  cancel := (loadKept_endLearn _).follows
  test c p d := (loadKept_startTest c p d _).follows
  restart := loadFollows_triggerRestart

/-! ### Frames -/

theorem loadFollows_handOff (p f c) (h : LoadFollows s) : LoadFollows (handOff p f c s) := by
  unfold handOff
  split
  case h_1 =>
    split
    · unfold consumeDemand
      split
      · exact h
      · exact loadFollows_reestablish (six_of_same h.six (same_updComposer _ s) (by decide))
    · exact h
  case h_2 =>
    split
    · exact h.quiet (same_discoverConsume _ _ s) (by decide)
    · exact h
  case h_3 =>
    split
    · exact keptByRequestWork_loadFollows.consume p f h
    · exact h
  all_goals exact h

theorem loadFollows_receiveFrame (p f o) (h : LoadFollows s) : LoadFollows (receiveFrame p f o s) := by
  unfold receiveFrame
  split
  · have hr : LoadFollows (received p f s) := h.quiet (same_received p f s) (by cases p <;> decide)
    exact applyAction_trans (R := fun u v => LoadFollows u → LoadFollows v) (fun _ => id) (fun k l => l ∘ k)
      (fun _ => loadFollows_handOff p f _) (fun u hu => hu.quiet (same_applyPass_ports p f _ u) (by decide)) o _
      (hr.quiet (same_countHits _ _) (by decide))
  · exact h

theorem loadFollows_updPort (p f) (h : LoadFollows s) : LoadFollows (s.updPort p f) :=
  h.quiet (same_updPort p f s) (by cases p <;> decide)

theorem loadFollows_presenceExpired (p) (h : LoadFollows s) : LoadFollows (presenceExpired p s) := by
  have ht : LoadFollows (relayLoses p (s.updPort p PortState.lose)) :=
    (loadFollows_updPort p _ h).quiet (same_relayLoses p _) (by decide)
  unfold presenceExpired
  dsimp only
  split
  · exact loadFollows_triggerRestart ht
  · exact ht

theorem loadFollows_reportTransmitted (p) (h : LoadFollows s) : LoadFollows (reportTransmitted p s) := by
  unfold reportTransmitted
  dsimp only
  split
  · exact loadFollows_triggerRestart (loadFollows_updPort p _ h)
  · exact loadFollows_updPort p _ h

/-! ### The store's reports -/

/-- A swap in RUN recomposes, whatever stood before. -/
theorem loadFollows_swapBlocks (b) (h : s.channels.length = 6) : LoadFollows (swapBlocks b s) := by
  have ha : LoadFollows (applySwap b (stabilitySwap s)) :=
    (blocksFollow_tyreSwap b (blocksFollow_reestablish ((stabilitySwap_length s).trans h))).load
  unfold swapBlocks
  dsimp only
  split
  · exact loadFollows_startChain _ ha
  · exact ha

/-- While a swap waits for the blocks nothing is asked of the groups and channels but their number and the total load
(R176). -/
theorem loadFollows_holdSwap (b) (h : LoadFollows s) (hload : t.load = s.load) (hchannels : t.channels = s.channels) :
    LoadFollows (holdSwap b t) where
  three := hload ▸ h.three
  six := hchannels ▸ h.six
  groups hu := absurd hu (Option.some_ne_none _)
  absent hu := absurd hu (Option.some_ne_none _)
  total := by
    have hgroup : ∀ g, (holdSwap b t).group g = s.group g := group_congr hload
    rw [hgroup, hgroup, hgroup]
    exact (congrArg Load.total hload).trans h.total
  driver hu := absurd hu (Option.some_ne_none _)

theorem loadFollows_commitSucceeded (w) (h : LoadFollows s) : LoadFollows (commitSucceeded w s) := by
  have g := same_reported w s
  unfold commitSucceeded
  dsimp only
  split
  · exact loadFollows_swapBlocks _ (six_of_same h.six g (by decide))
  · exact loadFollows_holdSwap _ h (g.at .load (by decide)) (g.at .channels (by decide))

theorem loadFollows_afterReport (h : LoadFollows s) : LoadFollows (afterReport s) := by
  unfold afterReport
  split
  · exact loadFollows_beginRestart s
  · exact h.quiet (same_followOn s) (by decide)

theorem loadFollows_writeSucceeded (h : LoadFollows s) : LoadFollows (writeSucceeded s) := by
  unfold writeSucceeded
  split
  · exact h
  · refine loadFollows_afterReport ?_
    split
    · exact loadFollows_commitSucceeded _ h
    · exact (h.quiet (same_written _ s) (by decide)).quiet (same_updMgmt _ _) (by decide)

theorem loadFollows_writeFailed (h : LoadFollows s) : LoadFollows (writeFailed s) := by
  unfold writeFailed
  split
  · exact h
  · have he : LoadFollows (endWrite (spoilStore s)) :=
      (h.quiet (same_spoilStore s) (by decide)).quiet (same_updMgmt _ _) (by decide)
    refine loadFollows_afterReport ?_
    split
    · exact h.quiet (same_commitFailed _ _ s) (by decide)
    · exact he.quiet (same_openIncident _ _ _) (by decide)

/-! ### Every command -/

theorem loadFollows_onExpiry (h : LoadFollows s) (tm : Timer) {f : State → State}
    (hf : ∀ e, LoadFollows e → LoadFollows (f e)) : LoadFollows (onExpiry tm f s) := by
  cases tm with
  | none => exact h
  | some r => exact hf _ (loadFollows_elapse h r)

/-- An expiry whose effect lies within other parts. -/
theorem loadFollows_expiry (h : LoadFollows s) (tm : Timer) {f : State → State} (hf : ∀ e, SameBut L e (f e))
    (d : ∀ p ∈ .tyre :: loadParts, p ∉ L) : LoadFollows (onExpiry tm f s) :=
  loadFollows_onExpiry h tm fun e he => he.quiet (hf e) d

theorem loadKept_testWindow (s : State) :
    LoadKept s (if s.stability.state = .test then abandonTest s else s.updStab fun u => { u with window := none }) := by
  split
  · exact loadKept_abandonTest s
  · exact loadKept_updStab _ s

theorem loadKept_recovered (s : State) : LoadKept s (recovered s) :=
  loadKept_of_same (L := [.incidents, .portA, .stability]) (((same_updStab _ s).comp (N := [.incidents, .stability])
    (same_closeIncident _ _ _) (by decide) (by decide)).comp (same_changeStab _ _) (by decide) (by decide)) (by decide)

theorem loadKept_toggleLamp (s : State) :
    LoadKept s (s.updTyre fun u => { u with lampOn := !u.lampOn, blink := some 500 }) :=
  loadKept_of_judged (same_updTyre _ s) (by decide) fun _ => rfl

/-- Every command keeps the load unit's values following. -/
theorem loadFollows_exec (h : LoadFollows s) (i : Instr) : ∃ t, exec i s = .next t ∧ LoadFollows t := by
  have request := keptByRequestWork_loadFollows.request h
  have kept : ∀ {u}, LoadKept s u → LoadFollows u := fun k => k.follows h
  have expiry : ∀ (tm : Timer) {f : State → State}, (∀ e, LoadKept e (f e)) → LoadFollows (onExpiry tm f s) :=
    fun tm _ hf => loadFollows_onExpiry h tm fun e he => (hf e).follows he
  cases i with
  | frameReceived p f o => exact ⟨_, rfl, loadFollows_receiveFrame p f o h⟩
  | presenceTimerExpiry p => exact ⟨_, rfl, loadFollows_onExpiry h _ fun _ he => loadFollows_presenceExpired p he⟩
  | linkReportTransmitted p r =>
    refine ⟨_, rfl, ?_⟩
    split
    · exact loadFollows_reportTransmitted p h
    · exact h
  | linkReportNotSent p r =>
    refine ⟨_, rfl, ?_⟩
    split
    · exact loadFollows_updPort p _ h
    · exact h
  | discoveryTimerExpiry => exact ⟨_, rfl, loadFollows_expiry h _ same_discoveryExpired (by decide)⟩
  | warnTimerExpiry => exact ⟨_, rfl, loadFollows_expiry h _ same_warnExpired (by decide)⟩
  | statusTimerExpiry => exact ⟨_, rfl, loadFollows_expiry h _ same_statusExpired (by decide)⟩
  | tyreTimerExpiry => exact ⟨_, rfl, loadFollows_expiry h _ same_tyreExpired (by decide)⟩
  | periodTimerExpiry o => exact ⟨_, rfl, loadFollows_onExpiry h _ fun _ he => loadFollows_periodExpired o he⟩
  | responseListReturn l o => exact ⟨_, rfl, loadFollows_listReturned l o h⟩
  | stationaryTimerExpiry => exact ⟨_, rfl, expiry _ (loadKept_updWheel _)⟩
  | demandTimerExpiry =>
    exact ⟨_, rfl, loadFollows_onExpiry h _ fun e he =>
      loadFollows_reestablish (six_of_same he.six (same_updComposer _ e) (by decide))⟩
  | testWindowExpiry => exact ⟨_, rfl, expiry _ loadKept_testWindow⟩
  | spacingTimerExpiry => exact ⟨_, rfl, expiry _ (loadKept_updStab _)⟩
  | recoverTimerExpiry => exact ⟨_, rfl, expiry _ loadKept_recovered⟩
  | telegramDelivered b => exact ⟨_, rfl, kept (loadKept_deliver b s)⟩
  | telegramTaken => exact ⟨_, rfl, kept (loadKept_takeTelegram s)⟩
  | missingTimerExpiry i =>
    refine ⟨_, rfl, ?_⟩
    split
    · exact expiry _ (loadKept_missingExpired i)
    · exact h
  | learnTimerExpiry => exact ⟨_, rfl, expiry _ loadKept_endLearn⟩
  | lampBlinkToggle => exact ⟨_, rfl, expiry _ loadKept_toggleLamp⟩
  | identify r => exact request r (1#8, _) (by simp [requestsOf])
  | read r => exact request r (2#8, _) (by simp [requestsOf])
  | enterService r => exact request r (3#8, _) (by simp [requestsOf])
  | leaveService r => exact request r (4#8, _) (by simp [requestsOf])
  | stage r => exact request r (5#8, _) (by simp [requestsOf])
  | commit r => exact request r (6#8, _) (by simp [requestsOf])
  | discard r => exact request r (7#8, _) (by simp [requestsOf])
  | clearIncidents r => exact request r (11#8, _) (by simp [requestsOf])
  | learnTyre r => exact request r (8#8, _) (by simp [requestsOf])
  | cancelLearn r => exact request r (9#8, _) (by simp [requestsOf])
  | serviceTest r => exact request r (10#8, _) (by simp [requestsOf])
  | restart r => exact request r (12#8, _) (by simp [requestsOf])
  | unknownRequest c r => exact ⟨_, rfl, keptByRequestWork_loadFollows.unknown c r h⟩
  | serviceIdleTimerExpiry => exact ⟨_, rfl, expiry _ loadKept_endService⟩
  | restartDelayExpiry => exact ⟨_, rfl, loadFollows_onExpiry h _ fun _ => loadFollows_triggerRestart⟩
  | storeWriteSucceeded => exact ⟨_, rfl, loadFollows_writeSucceeded h⟩
  | storeWriteFailed => exact ⟨_, rfl, loadFollows_writeFailed h⟩
  | coldStart v l => exact ⟨_, rfl, loadFollows_coldStart v l s⟩
  | linkPowerOff v =>
    refine ⟨_, rfl, ?_⟩
    split
    · exact loadFollows_powerOff v h
    · exact kept (loadKept_updPower _ s)
  | linkPowerOn => exact ⟨_, rfl, loadFollows_powerOn h⟩
  | settleTimerExpiry =>
    exact ⟨_, rfl, loadFollows_onExpiry h _ fun e he => loadFollows_startChain _ ((loadKept_updPower _ e).follows he)⟩
  | parkTimerExpiry => exact ⟨_, rfl, expiry _ loadKept_parkExpired⟩
  | wakeTimerExpiry => exact ⟨_, rfl, expiry _ loadKept_wakeExpired⟩
  | wakeLineAsserted => exact ⟨_, rfl, kept (loadKept_wakeLine s)⟩
  | listenTimerExpiry => exact ⟨_, rfl, expiry _ loadKept_listenExpired⟩
  | batterySampleTimerExpiry v => exact ⟨_, rfl, expiry _ (loadKept_sampleExpired v)⟩
  | serviceTestTimerExpiry c =>
    refine ⟨_, rfl, ?_⟩
    split
    · exact expiry _ (loadKept_endTest c)
    · exact h

/-- Settles O7: every operation that changes an input of the load unit's values recomposes, and time changes timers alone. -/
theorem stepKeepsTheLoadValues : Obligations.StepKeepsTheLoadValues := by
  unfold Obligations.StepKeepsTheLoadValues
  intro s t h e
  refine step_keeps (P := LoadFollows) (fun _ h => loadFollows_elapse h 1) (fun s l h => ?_)
    (fun _ i h => loadFollows_exec h i) h e
  exact h.of_inputs rfl rfl rfl rfl rfl (fun _ => rfl) rfl fun _ => ⟨rfl, rfl⟩

end Sys2Proof.Machine
end

section
/-! PROOFS. The bag filter (R82 to R84): what the load unit's own work makes of a group's filtered pressure, and that at a
completion no other block changes it (O32). -/

namespace Sys2Proof.Machine

variable {s t u : State} {g : Nat}

/-! ### One group at the load unit's own work (R82 to R85) -/

theorem filterOpen_iff (s : State) (g : Nat) : filterOpen s g = true ↔
    s.composer.mode ≠ .fallback ∧ s.composer.effective < (s.active.group g).d0 := by
  simp [filterOpen]

/-- A group whose MOD has no fresh record keeps its filtered pressure (R85). -/
theorem bagFilter_of_held {fr : List Nat} (h : modPosition s g ∉ fr ∨ (s.node (modPosition s g)).record = none)
    (st : GroupState) : bagFilter s fr g st = st := by
  unfold bagFilter
  split
  · next hf =>
    have hmem : modPosition s g ∈ fr := by simp_all
    rw [h.resolve_left (not_not.mpr hmem)]
  · rfl

/-- A group whose MOD has a fresh record takes its bag pressure into the filter (R82, R84). -/
theorem bagFilter_of_reading {fr : List Nat} (he : groupExists s g = true) (hf : modPosition s g ∈ fr) {r : Record}
    (hr : (s.node (modPosition s g)).record = some r) (st : GroupState) : (bagFilter s fr g st).pf =
      some (filterStep (s.active.group g).k (filterOpen s g) st.pf r.bag) := by
  unfold bagFilter
  rw [if_pos (by simp [he, hf]), hr]

theorem loadWork_pf (fr : List Nat) (h3 : s.load.groups.length = 3) (he : groupExists s g = true) :
    ((loadWork fr s).group g).pf = (bagFilter s fr g (s.group g)).pf := by
  obtain ⟨h1, hg⟩ := group_bounds he
  have hlt : g - 1 < s.load.groups.length := by omega
  have hsucc : g - 1 + 1 = g := by omega
  refine ((pressureKept_recompose (s.updLoad _)).pf g he).trans ?_
  simp [State.group, hlt, hsucc]

/-! ### A completion around the load unit (R56) -/

/-- A block works once at a completion, between the others (R56). -/
theorem complete_around (b : Block) (fr before : List Nat) (o : List Block) (s : State) :
    ∃ l m : List Block, b ∉ l ∧ b ∉ m ∧ complete fr before o s = m.foldl (fun v b => blockWork fr before b v)
      (blockWork fr before b (l.foldl (fun v b => blockWork fr before b v) s)) := by
  obtain ⟨l, m, hsplit⟩ := List.append_of_mem (mem_blockOrder o b)
  have hnodup := hsplit ▸ blockOrder_nodup o
  refine ⟨l, m, fun h => (List.disjoint_of_nodup_append hnodup) h (List.mem_cons_self ..),
    (List.nodup_cons.mp hnodup.of_append_right).1, ?_⟩
  unfold complete
  rw [hsplit, List.foldl_append, List.foldl_cons]

/-- From s to t the filtered pressures, the chain and the active image are kept. -/
structure BesidesLoad (s t : State) : Prop where
  pressure : PressureKept s t
  chain    : t.chain = s.chain
  active   : t.active = s.active

theorem besidesLoad_blockWork (fr before) {b : Block} (hb : b ≠ .load) (s : State) :
    BesidesLoad s (blockWork fr before b s) := by
  have hp := (loadKept_blockWork fr before hb s).pressure
  by_cases hw : b = .wheel
  · rw [hw] at hp ⊢
    exact ⟨hp, (same_wheelWork fr before s).at .chain (by decide), (same_wheelWork fr before s).at .active (by decide)⟩
  · have hs := (besidesWheel_blockWork fr before hw s).same
    exact ⟨hp, hs.at .chain (by decide), hs.at .active (by decide)⟩

theorem besidesLoad_foldl (fr before) {l : List Block} (hl : .load ∉ l) (s : State) :
    BesidesLoad s (l.foldl (fun v b => blockWork fr before b v) s) := by
  refine List.foldlRecOn l _ ⟨.refl s, rfl, rfl⟩ fun v hv b hb => ?_
  have hw := besidesLoad_blockWork fr before (b := b) (fun e => hl (e ▸ hb)) v
  exact ⟨hv.pressure.trans hw.pressure, hw.chain.trans hv.chain, hw.active.trans hv.active⟩

/-- After a completion a group's filtered pressure is what the load unit made of it, under the mode and the demand that stood
then. -/
theorem complete_pf (fr before : List Nat) (o : List Block) (h3 : s.load.groups.length = 3) (he : groupExists s g = true) :
    ∃ u, BesidesLoad s u ∧ ((complete fr before o s).group g).pf = (bagFilter u fr g (u.group g)).pf := by
  obtain ⟨l, m, hl, hm, e⟩ := complete_around .load fr before o s
  have hu := besidesLoad_foldl fr before hl s
  generalize l.foldl (fun v b => blockWork fr before b v) s = u at hu e
  have heu : groupExists u g = true := (hu.pressure.live g).trans he
  refine ⟨u, hu, ?_⟩
  rw [e, (besidesLoad_foldl fr before hm (blockWork fr before .load u)).pressure.pf g heu]
  exact loadWork_pf fr (hu.pressure.three h3) heu

/-! ### A good session up to its completion (R48) -/

/-- The MOD of a group that exists stands at a position of the chain in use (R42). -/
theorem modPosition_bounds (he : groupExists s g = true) :
    modPosition s g ∈ (inUse s).positions ∧ 1 ≤ modPosition s g ∧ modPosition s g ≤ (inUse s).count := by
  obtain ⟨h1, hg⟩ := (within_iff 1 (groupCount s) g).mp he
  have hlt : g - 1 < (inUse s).mods.length := by
    have := hg.trans (Nat.min_le_right 3 _)
    omega
  have hmem : modPosition s g ∈ (inUse s).positions := by
    unfold modPosition
    rw [List.getD_eq_getElem _ _ hlt]
    exact (List.mem_filter.mp (List.getElem_mem hlt)).1
  exact ⟨hmem, mem_positions.mp hmem⟩

theorem passedSession_active (rs : List (List Byte)) (s : State) : (passedSession rs s).active = s.active :=
  (same_goodSession_chain rs s).at .active (by decide)

theorem passedSession_inUse (h : s.chain.nodes.length = 4) (rs : List (List Byte)) :
    inUse (passedSession rs s) = inUse s := by
  unfold inUse
  rw [passedSession_chain h, passedSession_active]

theorem pressureKept_passedSession (h : s.chain.nodes.length = 4) (rs : List (List Byte)) :
    PressureKept s (passedSession rs s) := by
  have g : SameBut [.incidents, .chain] s (moveGood (countGood (applyResponses rs s))) :=
    ((same_applyResponses rs s).comp (N := [.incidents, .chain]) (same_updChain _ _) (by decide) (by decide)).trans
      (same_moveGood _)
  have hlength := congrArg List.length (g.at .channels (by decide))
  refine PressureKept.trans (.of_groups hlength (g.at .load (by decide)) fun n => ?_) (pressureKept_recompose _)
  show within 1 (inUse (passedSession rs s)).groups n = within 1 (inUse s).groups n
  rw [passedSession_inUse h]

/-- A response that updates its node leaves its values in the record (R48). -/
theorem nextNode_record {r : Response} (h : r.updates = true) (now : Time) (n : Node) :
    (nextNode now r n).record = some { values := r.values, time := now } := if_pos h

/-- A good session leaves a group's filtered pressure where its MOD's response does not update, and otherwise takes the
response's bag pressure into the filter, which is open or frozen as the blocks' order has it (R82 to R84). -/
theorem goodSession_pf (h4 : s.chain.nodes.length = 4) (hcount : (inUse s).count ≤ 4) (h3 : s.load.groups.length = 3)
    (he : groupExists s g = true) (rs : List (List Byte)) (o : List Block) :
    let y := responseFor (inUse s) rs (modPosition s g)
    (y.updates = false → ((goodSession rs o s).group g).pf = (s.group g).pf) ∧
    (y.updates = true → ∃ isOpen, ((goodSession rs o s).group g).pf =
      some (filterStep (s.active.group g).k isOpen (s.group g).pf (Record.bag { values := y.values, time := s.time }))) := by
  intro y
  obtain ⟨hmem, hn1, hnc⟩ := modPosition_bounds he
  have hpassed := pressureKept_passedSession h4 rs
  obtain ⟨u, hu, hpf⟩ := complete_pf (freshPositions (inUse s) rs) (followers s) o (hpassed.three h3)
    ((hpassed.live g).trans he)
  have hkept := hpassed.trans hu.pressure
  have hactive : u.active = s.active := hu.active.trans (passedSession_active rs s)
  have hinUse : inUse u = inUse s := (inUse_congr hu.active hu.chain).trans (passedSession_inUse h4 rs)
  have hmod : modPosition u g = modPosition s g := by
    unfold modPosition
    rw [hinUse]
  have hnode : (u.node (modPosition s g)) = nextNode s.time y (s.node (modPosition s g)) :=
    (node_congr hu.chain _).trans ((passedSession_node h4 rs hn1 (hnc.trans hcount)).trans (if_pos hnc))
  rw [goodSession_eq, hpf]
  refine ⟨fun hy => ?_, fun hy => ⟨filterOpen u g, ?_⟩⟩
  · rw [bagFilter_of_held (.inl ?_), hkept.pf g he]
    rw [hmod]
    exact fun hf => absurd (List.mem_filter.mp hf).2 (by simp [y, hy])
  · rw [bagFilter_of_reading ((hkept.live g).trans he) (by rw [hmod]; exact List.mem_filter.mpr ⟨hmem, hy⟩)
      (by rw [hmod, hnode]; exact nextNode_record hy _ _), hkept.pf g he, hactive]

/-- Settles O32: at a completion by the load unit's turn among the blocks, and at its own work by the filter's cases. -/
theorem bagFilterFollowsTheReading : Obligations.BagFilterFollowsTheReading := by
  unfold Obligations.BagFilterFollowsTheReading
  refine ⟨?session, ?work⟩
  case session =>
    intro s l o rs ha hc h4 hcount h3
    refine ⟨_, congrArg Host.Outcome.next (listReturned_of_good ha hc o), fun g _ he => ?_⟩
    intro y
    obtain ⟨held, taken⟩ := goodSession_pf h4 hcount h3 he rs o
    refine ⟨held, fun lp lv rp rv bag hy hvalues => ?_⟩
    obtain ⟨isOpen, hpf⟩ := taken hy
    rw [show Record.bag { values := y.values, time := s.time } = bag by rw [hvalues]; rfl] at hpf
    refine ⟨fun hnone => ?_, fun q hq => ?_⟩
    · rw [hpf, hnone]
      rfl
    · rw [hpf, hq]
      cases isOpen with
      | true => exact .inr rfl
      | false => exact .inl rfl
  case work =>
    intro s fresh before h3 g _ he t n
    have hpf : (t.group g).pf = (bagFilter s fresh g (s.group g)).pf := loadWork_pf fresh h3 he
    refine ⟨fun hheld => by rw [hpf, bagFilter_of_held hheld], fun lp lv rp rv bag time hf hr => ?_⟩
    rw [hpf, bagFilter_of_reading he hf hr]
    refine ⟨fun hnone => by rw [hnone]; rfl, fun q hq => ⟨fun hm hd => ?_, fun hfrozen => ?_⟩⟩
    · rw [hq, (filterOpen_iff s g).mpr ⟨hm, hd⟩]
      rfl
    · have hclosed : filterOpen s g = false := by
        rw [← Bool.not_eq_true, filterOpen_iff]
        rintro ⟨hm, hd⟩
        exact hfrozen.elim hm (Nat.not_le.mpr hd)
      rw [hq, hclosed]
      rfl

end Sys2Proof.Machine
end

section
/-! PROOFS. What the brake mode and the effective demand are made of (R101, R102), what leaves it alone, and the composer's
turn among the blocks at a completion (R56). -/

namespace Sys2Proof.Machine

variable {s t u : State} {L : List Part}

/-! ### Inputs of the mode (R101, R102) -/

/-- From s to t the conditions and the sources of R101 and R102 are as they were, the composer holds the same mode and
demand, and a swap waits as before. -/
structure ModeSame (s t : State) : Prop where
  braking   : braking t ↔ braking s
  ref       : refNode t = refNode s
  demand    : t.composer.demand = s.composer.demand
  fresh     : t.composer.timer.isSome = s.composer.timer.isSome
  mode      : t.composer.mode = s.composer.mode
  effective : t.composer.effective = s.composer.effective
  swap      : t.unapplied = s.unapplied

theorem refServes_congr (h : refNode t = refNode s) : refServes t ↔ refServes s := by
  unfold refServes refNormal refRecord
  rw [h]

theorem controlDemand_of_ref (h : refNode t = refNode s) : controlDemand t = controlDemand s := by
  unfold controlDemand refNormal refRecord
  rw [h]

theorem electronicDemand_congr (hdemand : t.composer.demand = s.composer.demand)
    (hfresh : t.composer.timer.isSome = s.composer.timer.isSome) : electronicDemand t = electronicDemand s := by
  unfold electronicDemand demandFresh
  rw [hdemand, hfresh]

/-- What keeps the conditions and the sources keeps the mode and the demand following them. -/
theorem ModeFollows.of_same (h : ModeFollows s) (g : ModeSame s t) : ModeFollows t where
  electronic hu := by
    rw [g.mode, g.braking, g.fresh]
    exact h.electronic (g.swap ▸ hu)
  backup hu := by
    have hstale : t.composer.timer = none ↔ s.composer.timer = none := by
      rw [← Option.not_isSome_iff_eq_none, ← Option.not_isSome_iff_eq_none, g.fresh]
    rw [g.mode, g.braking, hstale, refServes_congr g.ref]
    exact h.backup (g.swap ▸ hu)
  effective hu := by
    rw [g.effective, electronicDemand_congr g.demand g.fresh, controlDemand_of_ref g.ref]
    exact h.effective (g.swap ▸ hu)

/-- From s to t every part that the composer's mode and demand are functions of is kept, and of the power controller the
state. -/
structure BesidesComposer (s t : State) : Prop where
  composer : t.composer = s.composer
  chain    : t.chain = s.chain
  active   : t.active = s.active
  invalid  : t.configInvalid = s.configInvalid
  state    : t.power.state = s.power.state
  swap     : t.unapplied = s.unapplied

theorem BesidesComposer.refl (s : State) : BesidesComposer s s := ⟨rfl, rfl, rfl, rfl, rfl, rfl⟩

theorem BesidesComposer.trans (h : BesidesComposer s t) (g : BesidesComposer t u) : BesidesComposer s u :=
  ⟨g.composer.trans h.composer, g.chain.trans h.chain, g.active.trans h.active, g.invalid.trans h.invalid,
    g.state.trans h.state, g.swap.trans h.swap⟩

theorem besidesComposer_of_same (g : SameBut L s t) (d : ∀ p ∈ .unapplied :: modeParts, p ∉ L) : BesidesComposer s t where
  composer := g.at .composer (d _ (by decide))
  chain := g.at .chain (d _ (by decide))
  active := g.at .active (d _ (by decide))
  invalid := g.at .configInvalid (d _ (by decide))
  state := congrArg Power.state (g.at .power (d _ (by decide)))
  swap := g.at .unapplied (d _ (by decide))

theorem refNode_congr (hactive : t.active = s.active) (hchain : t.chain = s.chain) : refNode t = refNode s := by
  unfold refNode
  rw [inUse_congr hactive hchain, show t.node = s.node from funext fun n => node_congr hchain n]

theorem BesidesComposer.modeSame (h : BesidesComposer s t) : ModeSame s t where
  braking := by
    unfold Machine.braking
    rw [h.state, h.chain, h.invalid]
  ref := refNode_congr h.active h.chain
  demand := by rw [h.composer]
  fresh := by rw [h.composer]
  mode := by rw [h.composer]
  effective := by rw [h.composer]
  swap := h.swap

theorem ModeFollows.besides (h : ModeFollows s) (g : BesidesComposer s t) : ModeFollows t := h.of_same g.modeSame

/-- A change within parts that the mode and the demand are not made of. -/
theorem ModeFollows.frame (h : ModeFollows s) (g : SameBut L s t) (d : ∀ p ∈ .unapplied :: modeParts, p ∉ L) :
    ModeFollows t := h.besides (besidesComposer_of_same g d)

/-! ### The composer's turn at a completion (R56) -/

theorem besidesComposer_powerWork (fr) (s : State) : BesidesComposer s (powerWork fr s) := by
  unfold powerWork
  split
  · exact .refl s
  · split
    · next h =>
      rw [updateVoltage_of_inRun (Bool.and_eq_true_iff.mp h).1]
      exact ⟨rfl, rfl, rfl, rfl, rfl, rfl⟩
    · exact .refl s

/-- No other block changes what the composer reads, nor the composer (R56). -/
theorem besidesComposer_blockWork (fr before) {b : Block} (hb : b ≠ .composer) (s : State) :
    BesidesComposer s (blockWork fr before b s) := by
  cases b with
  | wheel => exact besidesComposer_of_same (same_wheelWork fr before s) (by decide)
  | load => exact besidesComposer_of_same (same_loadWork fr s) (by decide)
  | composer => exact absurd rfl hb
  | stability => exact besidesComposer_of_same (same_stabilityWork _ s) (by decide)
  | power => exact besidesComposer_powerWork fr s

theorem besidesComposer_foldl (fr before) {l : List Block} (hl : .composer ∉ l) (s : State) :
    BesidesComposer s (l.foldl (fun v b => blockWork fr before b v) s) :=
  List.foldlRecOn l _ (.refl s) fun v hv b hb =>
    hv.trans (besidesComposer_blockWork fr before (b := b) (fun e => hl (e ▸ hb)) v)

/-- The composer works once at a completion, between blocks that spare it (R56). -/
theorem complete_around_composer (fr before : List Nat) (o : List Block) (s : State) :
    ∃ u, BesidesComposer s u ∧ BesidesComposer (composerWork fr u) (complete fr before o s) := by
  obtain ⟨l, m, hl, hm, e⟩ := complete_around .composer fr before o s
  rw [e]
  exact ⟨_, besidesComposer_foldl fr before hl s, besidesComposer_foldl fr before hm _⟩

end Sys2Proof.Machine
end

section
/-! PROOFS. Every command keeps the brake mode and the effective demand following their conditions (O8): what changes one
of their inputs re-establishes them, but while a swap waits for the blocks (R176). -/

namespace Sys2Proof.Machine

variable {s t u : State} {L : List Part}

/-- A re-establishment makes mode and demand follow, whatever stood before (R101, R103). -/
theorem modeFollows_reestablish (s : State) : ModeFollows (reestablish s) := (established_reestablish s).modeFollows

theorem modeFollows_complete (fr before o) (s : State) : ModeFollows (complete fr before o s) := by
  obtain ⟨u, -, hu⟩ := complete_around_composer fr before o s
  exact (modeFollows_reestablish (judgeEmergency fr u)).besides hu

theorem modeFollows_elapse (h : ModeFollows s) (r : Nat) : ModeFollows (elapse r s) :=
  h.of_same ⟨.rfl, rfl, rfl, Option.isSome_map, rfl, rfl, rfl⟩

/-! ### The chain -/

/-- Chains that agree in their nodes have the same REF (R42, R43). -/
theorem ref_of_sameNodes {a b : ChainRec} (h : a.sameNodes b = true) : a.ref = b.ref := by
  unfold ChainRec.ref
  rw [← positions_of_sameNodes h]
  refine List.find?_congr fun n hn => ?_
  simp only [ChainRec.sameNodes, Bool.and_eq_true, List.all_eq_true, decide_eq_true_eq] at h
  rw [h.2 n hn]

/-- The binding of a configuration that does not differ moves no REF (R43). -/
theorem bindChain_ref (h : chainDiffers s = false) : s.active.chain.ref = (inUse s).ref := by
  unfold chainDiffers at h
  unfold inUse
  cases hb : s.chain.bound with
  | none => rfl
  | some c =>
    rw [hb] at h
    exact (ref_of_sameNodes (by simpa using h)).symm

theorem modeSame_bindChain (h : chainDiffers s = false) : ModeSame s (bindChain s) where
  braking := .rfl
  ref := congrArg (Option.map s.node) (bindChain_ref h)
  demand := rfl
  fresh := rfl
  mode := rfl
  effective := rfl
  swap := rfl

/-- A session's number and command list are no condition of the mode (R44). -/
theorem modeSame_sendCommands (s : State) : ModeSame s (sendCommands (numberSession s)) :=
  ⟨.rfl, rfl, rfl, rfl, rfl, rfl, rfl⟩

theorem modeSame_startPeriod (s : State) : ModeSame s (startPeriod s) := ⟨.rfl, rfl, rfl, rfl, rfl, rfl, rfl⟩

theorem modeFollows_sessionStart (b) (h : ModeFollows s) : ModeFollows (sessionStart b s) := by
  refine ModeFollows.of_same (s := if b || chainDiffers s then reinitialise s else bindChain s) ?_ (modeSame_sendCommands _)
  split
  · exact modeFollows_reestablish (reinitialised s)
  · next hd => exact h.of_same (modeSame_bindChain (by simp_all))

theorem modeFollows_startChain (b) (h : ModeFollows s) : ModeFollows (startChain b s) := by
  unfold startChain
  split
  · exact (modeFollows_sessionStart b h).of_same (modeSame_startPeriod _)
  · exact h

theorem modeFollows_periodExpired (o) (h : ModeFollows s) : ModeFollows (periodExpired o s) := by
  have hs : ∀ v, ModeFollows v → ModeFollows (if v.active.chain.configured then sessionStart false v else v) := by
    intro v hv
    split
    · exact modeFollows_sessionStart _ hv
    · exact hv
  refine hs _ ?_
  split
  · exact modeFollows_complete _ _ o _
  · exact h.of_same (modeSame_startPeriod s)

theorem modeFollows_listReturned (l o) (h : ModeFollows s) : ModeFollows (listReturned l o s) := by
  unfold listReturned
  split
  · split
    · exact modeFollows_complete _ _ o _
    · exact modeFollows_complete _ _ o _
  · exact h

/-! ### A swap that waits (R176) -/

theorem modeFollows_tyreSwap (b) (h : ModeFollows s) : ModeFollows (tyreSwap b s) := h.frame (same_tyreSwap b s) (by decide)

theorem modeFollows_applyHeld (h : ModeFollows s) : ModeFollows (applyHeld s) := by
  cases hu : s.unapplied with
  | none => rwa [applyHeld_none s hu]
  | some b =>
    rw [applyHeld_some hu]
    exact modeFollows_tyreSwap b (modeFollows_reestablish _)

/-- While a swap waits for the blocks nothing is asked of the mode. -/
theorem modeFollows_of_waiting {b : Image} (h : s.unapplied = some b) : ModeFollows s where
  electronic hu := absurd (h.symm.trans hu) (Option.some_ne_none b)
  backup hu := absurd (h.symm.trans hu) (Option.some_ne_none b)
  effective hu := absurd (h.symm.trans hu) (Option.some_ne_none b)

theorem modeFollows_swapBlocks (b) (s : State) : ModeFollows (swapBlocks b s) := by
  have ha : ModeFollows (applySwap b (stabilitySwap s)) := modeFollows_tyreSwap b (modeFollows_reestablish _)
  unfold swapBlocks
  dsimp only
  split
  · exact modeFollows_startChain true ha
  · exact ha

/-! ### Tyres -/

theorem modeFollows_deliver (b) (h : ModeFollows s) : ModeFollows (deliver b s) := by
  unfold deliver
  dsimp only
  split
  · exact h
  · split
    · exact (modeFollows_applyHeld h).frame (same_updTyre _ _) (by decide)
    · exact (modeFollows_applyHeld h).frame (same_updTyre _ _) (by decide)

/-- A learned ID is no part of the chain configuration (R157). -/
theorem modeSame_writeLearned (i fd x) (s : State) : ModeSame s (writeLearned i fd x s) :=
  ⟨.rfl, rfl, rfl, rfl, rfl, rfl, rfl⟩

theorem same_storeLearned (s : State) : SameBut [.mgmt] s (storeLearned s) := by
  unfold storeLearned
  split
  · exact same_updMgmt _ s
  · exact same_updMgmt _ s

theorem modeFollows_completeLearn (l x) (h : ModeFollows s) : ModeFollows (completeLearn l x s) := by
  have hs := (h.of_same (modeSame_writeLearned l.pos l.field x.id s)).frame (same_storeLearned _) (by decide)
  unfold completeLearn
  refine ModeFollows.frame ?_ (same_acceptTelegram _ _ _ _) (by decide)
  refine ModeFollows.frame ?_ (same_updTyre _ _) (by decide)
  refine ModeFollows.frame ?_ (same_closeTyreIncidents _ _) (by decide)
  exact hs.frame (same_updPosition _ _ _) (by decide)

theorem modeFollows_handleTelegram (x) (h : ModeFollows s) : ModeFollows (handleTelegram x s) := by
  unfold handleTelegram
  split
  · unfold offerLearn
    split
    · exact h
    · split
      · exact modeFollows_completeLearn _ x h
      · exact h
  · split
    · exact h
    · split
      · exact h
      · exact h.frame (same_acceptTelegram _ _ _ s) (by decide)

theorem modeFollows_takeTelegram (h : ModeFollows s) : ModeFollows (takeTelegram s) := by
  unfold takeTelegram
  split
  · exact h
  · exact modeFollows_handleTelegram _ ((modeFollows_applyHeld h).frame (same_updTyre _ _) (by decide))

theorem modeFollows_missingExpired (i) (h : ModeFollows s) : ModeFollows (missingExpired i s) := by
  unfold missingExpired
  dsimp only
  split
  · exact (modeFollows_applyHeld h).frame (same_fallSilent i _) (by decide)
  · exact modeFollows_applyHeld h

/-! ### Power -/

/-- The power controller's timers, flags and voltage, and a move between states out of RUN, are no condition of the mode. -/
theorem ModeFollows.updPower (h : ModeFollows s) {f : Power → Power}
    (hf : (f s.power).state = .run ↔ s.power.state = .run) : ModeFollows (s.updPower f) :=
  h.of_same ⟨and_congr hf .rfl, rfl, rfl, rfl, rfl, rfl, rfl⟩

theorem modeFollows_enterSleep (hout : s.power.state ≠ .run) (h : ModeFollows s) : ModeFollows (enterSleep s) := by
  refine ModeFollows.frame ((modeFollows_applyHeld h).updPower ?_) (same_tyreSleep _) (by decide)
  rw [applyHeld_power]
  exact iff_of_false PowerState.noConfusion hout

theorem modeFollows_startListening (hout : s.power.state ≠ .run) (h : ModeFollows s) : ModeFollows (startListening s) := by
  refine ModeFollows.frame ((modeFollows_applyHeld h).updPower ?_) (same_tyreWake _) (by decide)
  rw [applyHeld_power]
  exact iff_of_false PowerState.noConfusion hout

theorem modeFollows_updateVoltage (v) (h : ModeFollows s) : ModeFollows (updateVoltage v s) := by
  by_cases hrun : s.power.state = .run
  · rw [updateVoltage_of_inRun (decide_eq_true hrun)]
    exact h.updPower .rfl
  · have hl : ModeFollows (setLockout (s.updPower fun p => { p with
        voltage := v, low := nextLow s.active.tuning.batteryLimit v s.power.low })) := (h.updPower .rfl).updPower .rfl
    unfold updateVoltage
    dsimp only
    split
    · split
      · exact hl
      · exact modeFollows_enterSleep hrun hl
    · exact h.updPower .rfl

theorem modeFollows_leaveRun (s : State) : ModeFollows (leaveRun s) := by
  have hoff : ModeFollows (enterOff (reestablish (atRest s))) :=
    (modeFollows_reestablish (atRest s)).frame (same_enterOff _) (by decide)
  exact hoff.frame (same_settleDown_off (atRest s)) (by decide)

theorem modeFollows_powerOff (v) (s : State) : ModeFollows (powerOff v s) := by
  have ht : ModeFollows (turnedOff v s) := modeFollows_leaveRun _
  have hout : (turnedOff v s).power.state ≠ .run := by
    rw [turnedOff_eq, leaveRun_power]
    exact fun hr => PowerState.noConfusion hr
  rw [powerOff_eq]
  split
  · exact ht.updPower .rfl
  · split
    · exact modeFollows_enterSleep hout (ht.updPower .rfl)
    · exact modeFollows_enterSleep hout ht

theorem modeFollows_parkExpired (h : ModeFollows s) : ModeFollows (parkExpired s) := by
  unfold parkExpired
  split
  · exact h.updPower .rfl
  · next hparked =>
    split
    · exact h.updPower .rfl
    · exact modeFollows_enterSleep (s := s.updPower _) (by simp_all) (h.updPower .rfl)

theorem modeFollows_listenExpired (h : ModeFollows s) : ModeFollows (listenExpired s) := by
  unfold listenExpired
  split
  · exact h.updPower .rfl
  · next hlistening =>
    split
    · exact h.updPower .rfl
    · exact modeFollows_enterSleep (s := s.updPower _) (by simp_all) (h.updPower .rfl)

theorem modeFollows_wakeExpired (h : ModeFollows s) : ModeFollows (wakeExpired s) := by
  unfold wakeExpired
  split
  · next hsleep => exact modeFollows_startListening (by simp [hsleep]) h
  · exact h.updPower .rfl

theorem modeFollows_wakeLine (h : ModeFollows s) : ModeFollows (wakeLine s) := by
  unfold wakeLine
  split
  · exact modeFollows_startListening (by simp_all) h
  · exact h

theorem modeFollows_sampleExpired (v) (h : ModeFollows s) : ModeFollows (sampleExpired v s) := by
  unfold sampleExpired
  dsimp only
  split
  · exact modeFollows_updateVoltage _ (h.updPower .rfl)
  · exact h.updPower .rfl

/-- Entering RUN re-establishes the mode, whatever stood before (R182). -/
theorem modeFollows_enterRun (s : State) : ModeFollows (enterRun s) := modeFollows_reestablish _

theorem modeFollows_powerOn (h : ModeFollows s) : ModeFollows (powerOn s) := by
  unfold powerOn
  dsimp only
  split
  · exact h.updPower .rfl
  · split
    · exact (modeFollows_enterRun _).frame (same_tyreWake _) (by decide)
    · exact modeFollows_enterRun _

theorem modeFollows_triggerRestart (h : ModeFollows s) : ModeFollows (triggerRestart s) := by
  unfold triggerRestart
  split
  · exact h
  · split
    · exact h.frame (same_updMgmt _ s) (by decide)
    · exact modeFollows_enterRun _

/-- Every block at its start values: FALLBACK and no demand (R102, R118). -/
theorem modeFollows_startBlocks (s : State) : ModeFollows (startBlocks s) :=
  Established.modeFollows ⟨(brakeMode_of_start rfl).symm, (effectiveDemand_of_start rfl rfl).symm⟩

theorem modeFollows_coldStart (v l) (s : State) : ModeFollows (coldStart v l s) := by
  rw [coldStart_eq]
  split
  · exact modeFollows_enterRun _
  · have hout : (startBlocks (coldLoaded v l s)).power.state ≠ .run := fun hr => PowerState.noConfusion hr
    have hb := modeFollows_startBlocks (coldLoaded v l s)
    unfold coldSleep
    split
    · exact modeFollows_enterSleep hout (hb.updPower .rfl)
    · exact modeFollows_enterSleep hout hb

/-! ### Requests and frames -/

theorem keptByRequestWork_modeFollows : KeptByRequestWork ModeFollows where
  quiet g h := h.frame g (by decide)
  clear h := h.frame (same_clearIncidents _) (by decide)
  service h := h.frame (same_endService _) (by decide)
  learn i fd h := h.frame (same_startLearn i fd _) (by decide)
  cancel h := h.frame (same_endLearn _) (by decide)
  test c p d h := h.frame (same_startTest c p d _) (by decide)
  restart := modeFollows_triggerRestart

theorem modeFollows_handOff (p f c) (h : ModeFollows s) : ModeFollows (handOff p f c s) := by
  unfold handOff
  split
  case h_1 =>
    split
    · unfold consumeDemand
      split
      · exact h
      · exact modeFollows_reestablish _
    · exact h
  case h_2 =>
    split
    · exact h.frame (same_discoverConsume _ _ s) (by decide)
    · exact h
  case h_3 =>
    split
    · exact keptByRequestWork_modeFollows.consume p f h
    · exact h
  all_goals exact h

theorem modeFollows_receiveFrame (p f o) (h : ModeFollows s) : ModeFollows (receiveFrame p f o s) := by
  unfold receiveFrame
  split
  · have hr : ModeFollows (received p f s) := h.frame (same_received p f s) (by cases p <;> decide)
    exact applyAction_trans (R := fun u v => ModeFollows u → ModeFollows v) (fun _ => id) (fun k l => l ∘ k)
      (fun _ => modeFollows_handOff p f _) (fun u hu => hu.frame (same_applyPass_ports p f _ u) (by decide)) o _
      (hr.frame (same_countHits _ _) (by decide))
  · exact h

theorem modeFollows_updPort (p f) (h : ModeFollows s) : ModeFollows (s.updPort p f) :=
  h.frame (same_updPort p f s) (by cases p <;> decide)

theorem modeFollows_presenceExpired (p) (h : ModeFollows s) : ModeFollows (presenceExpired p s) := by
  have ht : ModeFollows (relayLoses p (s.updPort p PortState.lose)) :=
    (modeFollows_updPort p _ h).frame (same_relayLoses p _) (by decide)
  unfold presenceExpired
  dsimp only
  split
  · exact modeFollows_triggerRestart ht
  · exact ht

theorem modeFollows_reportTransmitted (p) (h : ModeFollows s) : ModeFollows (reportTransmitted p s) := by
  unfold reportTransmitted
  dsimp only
  split
  · exact modeFollows_triggerRestart (modeFollows_updPort p _ h)
  · exact modeFollows_updPort p _ h

/-! ### The store's reports -/

theorem modeFollows_commitSucceeded (w) (s : State) : ModeFollows (commitSucceeded w s) := by
  unfold commitSucceeded
  dsimp only
  split
  · exact modeFollows_swapBlocks _ _
  · exact modeFollows_of_waiting rfl

theorem modeFollows_afterReport (h : ModeFollows s) : ModeFollows (afterReport s) := by
  unfold afterReport
  split
  · exact modeFollows_enterRun _
  · exact h.frame (same_followOn s) (by decide)

theorem modeFollows_writeSucceeded (h : ModeFollows s) : ModeFollows (writeSucceeded s) := by
  unfold writeSucceeded
  split
  · exact h
  · refine modeFollows_afterReport ?_
    split
    · exact modeFollows_commitSucceeded _ s
    · exact (h.frame (same_written _ s) (by decide)).frame (same_updMgmt _ _) (by decide)

theorem modeFollows_writeFailed (h : ModeFollows s) : ModeFollows (writeFailed s) := by
  unfold writeFailed
  split
  · exact h
  · have he : ModeFollows (endWrite (spoilStore s)) :=
      (h.frame (same_spoilStore s) (by decide)).frame (same_updMgmt _ _) (by decide)
    refine modeFollows_afterReport ?_
    split
    · exact h.frame (same_commitFailed _ _ s) (by decide)
    · exact he.frame (same_openIncident _ _ _) (by decide)

/-! ### Every command -/

theorem modeFollows_onExpiry (h : ModeFollows s) (tm : Timer) {f : State → State}
    (hf : ∀ e, ModeFollows e → ModeFollows (f e)) : ModeFollows (onExpiry tm f s) := by
  cases tm with
  | none => exact h
  | some r => exact hf _ (modeFollows_elapse h r)

/-- An expiry whose effect lies within other parts. -/
theorem modeFollows_expiry (h : ModeFollows s) (tm : Timer) {f : State → State} (hf : ∀ e, SameBut L e (f e))
    (d : ∀ p ∈ .unapplied :: modeParts, p ∉ L) : ModeFollows (onExpiry tm f s) :=
  modeFollows_onExpiry h tm fun e he => he.frame (hf e) d

theorem same_testWindow (s : State) : SameBut [.portA, .channels, .load, .stability] s
    (if s.stability.state = .test then abandonTest s else s.updStab fun u => { u with window := none }) := by
  split
  · exact same_abandonTest s
  · exact (same_updStab _ s).mono (by decide)

theorem same_recovered (s : State) : SameBut [.incidents, .portA, .stability] s (recovered s) :=
  ((same_updStab _ s).comp (N := [.incidents, .stability]) (same_closeIncident _ _ _) (by decide) (by decide)).comp
    (same_changeStab _ _) (by decide) (by decide)

/-- Every command keeps the mode and the effective demand following. -/
theorem modeFollows_exec (h : ModeFollows s) (i : Instr) : ∃ t, exec i s = .next t ∧ ModeFollows t := by
  have request := keptByRequestWork_modeFollows.request h
  cases i with
  | frameReceived p f o => exact ⟨_, rfl, modeFollows_receiveFrame p f o h⟩
  | presenceTimerExpiry p => exact ⟨_, rfl, modeFollows_onExpiry h _ fun _ => modeFollows_presenceExpired p⟩
  | linkReportTransmitted p r =>
    refine ⟨_, rfl, ?_⟩
    split
    · exact modeFollows_reportTransmitted p h
    · exact h
  | linkReportNotSent p r =>
    refine ⟨_, rfl, ?_⟩
    split
    · exact modeFollows_updPort p _ h
    · exact h
  | discoveryTimerExpiry => exact ⟨_, rfl, modeFollows_expiry h _ same_discoveryExpired (by decide)⟩
  | warnTimerExpiry => exact ⟨_, rfl, modeFollows_expiry h _ same_warnExpired (by decide)⟩
  | statusTimerExpiry => exact ⟨_, rfl, modeFollows_expiry h _ same_statusExpired (by decide)⟩
  | tyreTimerExpiry => exact ⟨_, rfl, modeFollows_expiry h _ same_tyreExpired (by decide)⟩
  | periodTimerExpiry o => exact ⟨_, rfl, modeFollows_onExpiry h _ fun _ => modeFollows_periodExpired o⟩
  | responseListReturn l o => exact ⟨_, rfl, modeFollows_listReturned l o h⟩
  | stationaryTimerExpiry => exact ⟨_, rfl, modeFollows_expiry h _ (same_updWheel _) (by decide)⟩
  | demandTimerExpiry => exact ⟨_, rfl, modeFollows_onExpiry h _ fun _ _ => modeFollows_reestablish _⟩
  | testWindowExpiry => exact ⟨_, rfl, modeFollows_expiry h _ same_testWindow (by decide)⟩
  | spacingTimerExpiry => exact ⟨_, rfl, modeFollows_expiry h _ (same_updStab _) (by decide)⟩
  | recoverTimerExpiry => exact ⟨_, rfl, modeFollows_expiry h _ same_recovered (by decide)⟩
  | telegramDelivered b => exact ⟨_, rfl, modeFollows_deliver b h⟩
  | telegramTaken => exact ⟨_, rfl, modeFollows_takeTelegram h⟩
  | missingTimerExpiry i =>
    refine ⟨_, rfl, ?_⟩
    split
    · exact modeFollows_onExpiry h _ fun _ => modeFollows_missingExpired i
    · exact h
  | learnTimerExpiry => exact ⟨_, rfl, modeFollows_expiry h _ same_endLearn (by decide)⟩
  | lampBlinkToggle => exact ⟨_, rfl, modeFollows_expiry h _ (same_updTyre _) (by decide)⟩
  | identify r => exact request r (1#8, _) (by simp [requestsOf])
  | read r => exact request r (2#8, _) (by simp [requestsOf])
  | enterService r => exact request r (3#8, _) (by simp [requestsOf])
  | leaveService r => exact request r (4#8, _) (by simp [requestsOf])
  | stage r => exact request r (5#8, _) (by simp [requestsOf])
  | commit r => exact request r (6#8, _) (by simp [requestsOf])
  | discard r => exact request r (7#8, _) (by simp [requestsOf])
  | clearIncidents r => exact request r (11#8, _) (by simp [requestsOf])
  | learnTyre r => exact request r (8#8, _) (by simp [requestsOf])
  | cancelLearn r => exact request r (9#8, _) (by simp [requestsOf])
  | serviceTest r => exact request r (10#8, _) (by simp [requestsOf])
  | restart r => exact request r (12#8, _) (by simp [requestsOf])
  | unknownRequest c r => exact ⟨_, rfl, keptByRequestWork_modeFollows.unknown c r h⟩
  | serviceIdleTimerExpiry => exact ⟨_, rfl, modeFollows_expiry h _ same_endService (by decide)⟩
  | restartDelayExpiry => exact ⟨_, rfl, modeFollows_onExpiry h _ fun _ => modeFollows_triggerRestart⟩
  | storeWriteSucceeded => exact ⟨_, rfl, modeFollows_writeSucceeded h⟩
  | storeWriteFailed => exact ⟨_, rfl, modeFollows_writeFailed h⟩
  | coldStart v l => exact ⟨_, rfl, modeFollows_coldStart v l s⟩
  | linkPowerOff v =>
    refine ⟨_, rfl, ?_⟩
    split
    · exact modeFollows_powerOff v s
    · exact h.updPower .rfl
  | linkPowerOn => exact ⟨_, rfl, modeFollows_powerOn h⟩
  | settleTimerExpiry => exact ⟨_, rfl, modeFollows_onExpiry h _ fun _ he => modeFollows_startChain _ (he.updPower .rfl)⟩
  | parkTimerExpiry => exact ⟨_, rfl, modeFollows_onExpiry h _ fun _ => modeFollows_parkExpired⟩
  | wakeTimerExpiry => exact ⟨_, rfl, modeFollows_onExpiry h _ fun _ => modeFollows_wakeExpired⟩
  | wakeLineAsserted => exact ⟨_, rfl, modeFollows_wakeLine h⟩
  | listenTimerExpiry => exact ⟨_, rfl, modeFollows_onExpiry h _ fun _ => modeFollows_listenExpired⟩
  | batterySampleTimerExpiry v => exact ⟨_, rfl, modeFollows_onExpiry h _ fun _ => modeFollows_sampleExpired v⟩
  | serviceTestTimerExpiry c =>
    refine ⟨_, rfl, ?_⟩
    split
    · exact modeFollows_expiry h _ (same_endTest c) (by decide)
    · exact h

/-- Settles O8: every operation that changes a condition of the mode or a source of the demand re-establishes them, or leaves
a swap waiting. -/
theorem stepKeepsTheBrakeMode : Obligations.StepKeepsTheBrakeMode := by
  unfold Obligations.StepKeepsTheBrakeMode
  intro s t h e
  exact step_keeps (P := ModeFollows) (fun _ h => modeFollows_elapse h 1)
    (fun _ _ h => h.of_same ⟨.rfl, rfl, rfl, rfl, rfl, rfl, rfl⟩) (fun _ i h => modeFollows_exec h i) h e

end Sys2Proof.Machine
end

section
/-! PROOFS. The demand timer (O33): the demand goes STALE, the mode is BACKUP or FALLBACK (R100 to R103), and DEMAND_LOST
opens with BACKUP (R106). -/

namespace Sys2Proof.Machine

variable {s t : State}

/-! ### A STALE demand (R100 to R102) -/

/-- The demand is STALE: recorded, and its timer stopped (R100). -/
def staled (s : State) : State := s.updComposer fun c => { c with timer := none }

theorem exec_demandTimerExpiry {r : Nat} (h : s.composer.timer = some r) :
    exec .demandTimerExpiry s = .next (reestablish (staled (elapse r s))) :=
  congrArg Host.Outcome.next (onExpiry_of_running h _ s)

/-- Of a STALE demand nothing counts but the control line (R101). -/
theorem effectiveDemand_of_stale (h : s.composer.timer = none) : effectiveDemand s = controlDemand s := by
  have he : electronicDemand s = 0 := by
    unfold electronicDemand demandFresh
    rw [h]
    cases s.composer.demand <;> rfl
  unfold effectiveDemand
  rw [he, Nat.zero_max]

theorem brakeMode_of_backup (h : s.composer.timer = none) (hb : braking s) (hr : refServes s) : brakeMode s = .backup := by
  simp [brakeMode, demandFresh, h, (braking_iff s).mp hb, (refServes_iff s).mp hr]

theorem brakeMode_of_fallback (h : s.composer.timer = none) (hn : ¬ braking s ∨ ¬ refServes s) :
    brakeMode s = .fallback := by
  rw [braking_iff, refServes_iff, Bool.not_eq_true, Bool.not_eq_true] at hn
  rcases hn with hn | hn <;> simp [brakeMode, demandFresh, h, hn]

/-! ### DEMAND_LOST (R106) -/

/-- A closing closes nothing of another kind (R174). -/
theorem hasOpen_closeIncident {k k' : IncidentKind} {d d' : Nat} (hne : k ≠ k') (h : HasOpen k d s) :
    HasOpen k d (closeIncident k' d' s) := by
  obtain ⟨i, hi, hk, hd, hc⟩ := h
  refine ⟨i, List.mem_map.mpr ⟨i, hi, if_neg ?_⟩, hk, hd, hc⟩
  simp [hk, hne]

/-- OFF closes STABILITY_INTERVENTION alone (R122). -/
theorem hasOpen_testOff {k : IncidentKind} {d : Nat} (hne : k ≠ .stabilityIntervention) (h : HasOpen k d s) :
    HasOpen k d (testOff s) := by
  have hoff : HasOpen k d (enterOff s) := by
    unfold enterOff
    split
    · exact h
    · refine (hasOpen_congr ?_ k d).mpr (hasOpen_closeIncident (k' := .stabilityIntervention) (d' := 0) hne h)
      simp [changeStab, originateStability, dropStabInt, dropStabTest, closeIncident, closeIncidents]
  unfold testOff
  split
  · exact hoff
  · exact h

/-- Entering BACKUP opens DEMAND_LOST, and the stability unit's event does not close it (R106, R123). -/
theorem hasOpen_demandLost (hnew : brakeMode s = .backup) (hold : s.composer.mode ≠ .backup) :
    HasOpen .demandLost 0 (reestablish s) := by
  have hr : HasOpen .demandLost 0 (remoded s) := by
    unfold remoded demandLost
    rw [hnew, if_pos (by simp [hold])]
    exact hasOpen_openIncident .demandLost 0 _
  rw [reestablish_eq]
  split
  · exact hr
  · exact hasOpen_testOff (by decide) hr

/-- Settles O33: the expiry re-establishes the mode of a STALE demand. -/
theorem demandTimerMakesTheDemandStale : Obligations.DemandTimerMakesTheDemandStale := by
  unfold Obligations.DemandTimerMakesTheDemandStale
  intro s r e h
  have hstale : (staled e).composer.timer = none := rfl
  have hcomposer := reestablish_composer (staled e)
  have heffective : effectiveDemand (staled e) = controlDemand e :=
    (effectiveDemand_of_stale hstale).trans (controlDemand_congr rfl rfl)
  refine ⟨_, exec_demandTimerExpiry h, ?_⟩
  rw [hcomposer]
  refine ⟨rfl, rfl, rfl, heffective, rfl, brakeMode_of_backup hstale, brakeMode_of_fallback hstale, hasOpen_demandLost, ?_⟩
  exact (same_updComposer _ e).comp (same_reestablish _) (by decide) (by decide)

end Sys2Proof.Machine
end

section
/-! PROOFS. The emergency flag (O34): what the composer makes of it by the REF's state and record (R107), and the state in
which it judges at the completion of a good list (R56). -/

namespace Sys2Proof.Machine

variable {s t u : State} {n : Nat} {fr : List Nat}

/-! ### The evaluation (R107) -/

/-- The flag's hysteresis (R107). -/
theorem nextEmergency_iff (threshold supply : Nat) (flag : Bool) : nextEmergency threshold supply flag = true ↔
    supply < threshold ∨ (flag = true ∧ supply < threshold + 50) := by
  cases flag with
  | true => simp only [nextEmergency, if_true, decide_eq_true_eq, true_and]; omega
  | false => simp [nextEmergency]

section
variable (h : (inUse s).ref = some n)
include h

theorem refNode_of_ref : refNode s = some (s.node n) := congrArg (Option.map s.node) h

theorem judgeEmergency_of_degraded (hd : (s.node n).degraded = true) :
    (judgeEmergency fr s).composer.emergency = false := by
  have hr : refDegraded s = true := by simp [refDegraded, refNode_of_ref h, hd]
  unfold judgeEmergency
  rw [if_pos hr, setEmergency_composer]

/-- Without a fresh record a REF that is not DEGRADED leaves the flag (R107). -/
theorem judgeEmergency_of_held (hd : (s.node n).degraded = false) (hf : n ∉ fr) : judgeEmergency fr s = s := by
  have hr : refDegraded s = false := by simp [refDegraded, refNode_of_ref h, hd]
  have hfresh : refFresh s fr = false := by simp [refFresh, h, hf]
  unfold judgeEmergency
  rw [if_neg (by simp [hr])]
  split
  · rfl
  · rw [if_neg (by simp [hfresh])]

/-- A fresh record's supply pressure gives the flag in RUN (R107). -/
theorem judgeEmergency_of_fresh {r : Record} (hrun : s.inRun = true) (hd : (s.node n).degraded = false) (hf : n ∈ fr)
    (hr : (s.node n).record = some r) : (judgeEmergency fr s).composer.emergency =
      nextEmergency s.active.tuning.emergency r.supply s.composer.emergency := by
  have hnode := refNode_of_ref h
  have hdegraded : refDegraded s = false := by simp [refDegraded, hnode, hd]
  have hnormal : refNormal s = true := by simp [refNormal, hnode, hd]
  have hrecord : refRecord s = some r := by simp [refRecord, hnode, hr]
  have hfresh : refFresh s fr = true := by simp [refFresh, h, hf]
  unfold judgeEmergency
  rw [if_neg (by simp [hdegraded]), hrecord]
  dsimp only
  rw [if_pos (by simp [hrun, hnormal, hfresh]), setEmergency_composer]

end

/-! ### The composer's turn at the completion of a good list (R48, R56) -/

/-- In u the composer judges the emergency, at the completion that ends in t of a good session of s: the chain has taken the
responses, and the composer is as it was. -/
structure JudgesIn (rs : List (List Byte)) (s u t : State) : Prop where
  composer  : u.composer = s.composer
  active    : u.active = s.active
  state     : u.power.state = s.power.state
  config    : inUse u = inUse s
  nodes     : ∀ n, 1 ≤ n → n ≤ (inUse s).count → u.node n = nextNode s.time (responseFor (inUse s) rs n) (s.node n)
  after     : ∀ n, t.node n = u.node n
  emergency : t.composer.emergency = (judgeEmergency (freshPositions (inUse s) rs) u).composer.emergency

theorem goodSession_judges (h4 : s.chain.nodes.length = 4) (hcount : (inUse s).count ≤ 4) (rs : List (List Byte))
    (o : List Block) : ∃ u, JudgesIn rs s u (goodSession rs o s) := by
  have hpassed := same_goodSession_chain rs s
  obtain ⟨u, hu, ht⟩ := complete_around_composer (freshPositions (inUse s) rs) (followers s) o (passedSession rs s)
  have hwork := same_composerWork (freshPositions (inUse s) rs) u
  refine ⟨u, hu.composer.trans (hpassed.at .composer (by decide)), hu.active.trans (passedSession_active rs s),
    hu.state.trans (congrArg Power.state (hpassed.at .power (by decide))),
    (inUse_congr hu.active hu.chain).trans (passedSession_inUse h4 rs), fun n h1 hn => ?_, fun n => ?_, ?_⟩
  · exact (node_congr hu.chain n).trans ((passedSession_node h4 rs h1 (hn.trans hcount)).trans (if_pos hn))
  · exact node_congr (ht.chain.trans (hwork.at .chain (by decide))) n
  · rw [goodSession_eq, ht.composer, composerWork, reestablish_composer]

/-- The REF stands at a position of its chain (R42). -/
theorem ref_bounds {c : ChainRec} (h : c.ref = some n) : 1 ≤ n ∧ n ≤ c.count := mem_positions.mp (List.mem_of_find?_eq_some h)

/-- A position's record is fresh exactly where its response updates it (R48). -/
theorem mem_freshPositions {c : ChainRec} {rs : List (List Byte)} :
    n ∈ freshPositions c rs ↔ n ∈ c.positions ∧ (responseFor c rs n).updates = true := List.mem_filter

/-- Settles O34: the completion of a good list is the composer's evaluation between blocks that spare it. -/
theorem emergencyFollowsTheSupply : Obligations.EmergencyFollowsTheSupply := by
  unfold Obligations.EmergencyFollowsTheSupply
  intro s l o rs ha hc hrun h4 hcount
  refine ⟨_, congrArg Host.Outcome.next (listReturned_of_good ha hc o), fun n _ href => ?_⟩
  obtain ⟨u, hu⟩ := goodSession_judges h4 hcount rs o
  obtain ⟨h1, hn⟩ := ref_bounds href
  have hnode := hu.nodes n h1 hn
  have hrefu : (inUse u).ref = some n := (congrArg ChainRec.ref hu.config).trans href
  refine ⟨fun hd => ?_, fun p c a b hy hvalues => ?_, fun hy hd => ?_⟩
  · rw [hu.emergency, judgeEmergency_of_degraded hrefu (hu.after n ▸ hd)]
  · have hnormal : (u.node n).degraded = false := by
      rw [hnode]
      exact if_pos hy
    rw [hu.emergency, judgeEmergency_of_fresh hrefu (decide_eq_true (hu.state.trans hrun)) hnormal
      (mem_freshPositions.mpr ⟨mem_positions.mpr ⟨h1, hn⟩, hy⟩) ((congrArg Node.record hnode).trans (nextNode_record hy _ _)),
      hu.active, hu.composer, hvalues]
    exact nextEmergency_iff _ p _
  · have hheld : n ∉ freshPositions (inUse s) rs := fun hf => absurd (mem_freshPositions.mp hf).2 (by simp [hy])
    rw [hu.emergency, judgeEmergency_of_held hrefu (hu.after n ▸ hd) hheld, hu.composer]

end Sys2Proof.Machine
end

section
/-! PROOFS. Service mode (O48): how it is entered, refreshed and left (R161, R164, R165), the end of every service test
(R115), DISCARD and CLEAR_INCIDENTS (R167). -/

namespace Sys2Proof.Machine

variable {s t : State} {L : List Part} {r : Request}

/-! ### Every service test ends (R115) -/

/-- A channel holds no service test, and its timer stands still. -/
def Channel.TestEnded (ch : Channel) : Prop := ch.serviceTest = none ∧ ch.testTimer = none

theorem channelNow_testEnded (s : State) (c : Nat) {ch : Channel} (h : ch.TestEnded) : (channelNow s c ch).TestEnded := by
  cases he : channelExists s c with
  | true =>
    obtain ⟨htest, htimer⟩ := channelNow_test he ch
    exact ⟨htest.trans h.1, htimer.trans h.2⟩
  | false =>
    rw [channelNow_of_absent he]
    exact ⟨rfl, rfl⟩

theorem endTests_testEnded (s : State) {c : Nat} (hc : c ∈ channelNumbers) : ((endTests s).channel c).TestEnded := by
  generalize hu : (s.mapChannels fun _ ch => ch.untested) = u
  have hended : (u.channel c).TestEnded := by
    rw [← hu]
    exact mapChannels_rel (R := fun _ b => b.TestEnded) s hc ⟨rfl, rfl⟩ ⟨rfl, rfl⟩
  have hnow : (u.channel c).TestEnded → ((recompose u).channel c).TestEnded :=
    mapChannels_rel (R := fun a b => a.TestEnded → b.TestEnded) (u.updLoad fun _ => loadNow u) hc id
      (channelNow_testEnded _ c)
  have he : endTests s = recompose u := hu ▸ rfl
  rw [he]
  exact hnow hended

/-! ### Service mode ends (R165) -/

section
variable (h : s.inService = true)
include h

theorem endService_eq : endService s =
    endTests (s.updMgmt fun m => { m with shadow := none, dirty := false, idle := none }) := if_pos h

theorem endService_mgmt : (endService s).mgmt = { s.mgmt with shadow := none, dirty := false, idle := none } := by
  rw [endService_eq h]
  exact (same_endTests _).at .mgmt (by decide)

theorem endService_testEnded {c : Nat} (hc : c ∈ channelNumbers) : ((endService s).channel c).TestEnded := by
  rw [endService_eq h]
  exact endTests_testEnded _ hc

end

/-! ### The requests in service mode (R161, R164, R167) -/

theorem touchIdle_of_in (h : s.mgmt.shadow.isSome = true) :
    touchIdle s = s.updMgmt fun m => { m with idle := some 300000 } := if_pos h

theorem inService_touchIdle (h : s.mgmt.shadow.isSome = true) : (touchIdle s).inService = true := by
  rw [touchIdle_of_in h]
  exact h

/-- A request's work and then its answer: the answer is all that the ports see, and all that the answer changes. -/
theorem answered_of_same (g : SameBut L s t) (d : ∀ p ∈ [Part.relay, .portA, .portB], p ∉ L) (code : Byte) (r : Request)
    (res : Result) (data : List Byte) : Answered code r res data s (respond code r res data t) := by
  refine answered_respond (g.at .relay (d _ (by decide))) ?_
  cases r.port
  · exact g.at .portA (d _ (by decide))
  · exact g.at .portB (d _ (by decide))

theorem respond_mgmt (code : Byte) (r : Request) (res : Result) (data : List Byte) (s : State) :
    (respond code r res data s).mgmt = s.mgmt := enqueue_mgmt _ _ _ _

section
variable (ht : taken s r) (hf : free s)
include ht hf

theorem exec_enterService_moving (hs : s.wheel.stationary = false) :
    exec (.enterService r) s = .next (respond 3#8 r .refusedMoving [] (touchIdle s)) := by
  have hw : (touchIdle s).wheel = s.wheel := (same_touchIdle s).at .wheel (by decide)
  show Host.Outcome.next (doEnterService r s) = _
  rw [doEnterService, manage_of_free ht hf (Nat.zero_le _), hw, if_pos (by simp [hs])]

/-- The state in which ENTER_SERVICE is answered at standstill: service mode, entered now or refreshed (R161, R164). -/
def serviceEntered (s : State) : State := if (touchIdle s).inService then touchIdle s else startService (touchIdle s)

theorem exec_enterService_done (hs : s.wheel.stationary = true) :
    exec (.enterService r) s = .next (respond 3#8 r .done [] (serviceEntered s)) := by
  have hw : (touchIdle s).wheel = s.wheel := (same_touchIdle s).at .wheel (by decide)
  show Host.Outcome.next (doEnterService r s) = _
  rw [doEnterService, manage_of_free ht hf (Nat.zero_le _), hw, if_neg (by simp [hs])]
  rfl

variable (hs : s.mgmt.shadow.isSome = true)
include hs

theorem exec_leaveService : exec (.leaveService r) s =
    .next (respond 4#8 r .done [BitVec.ofNat 8 (bit s.mgmt.dirty)] (endService (touchIdle s))) := by
  have hd : (touchIdle s).mgmt.dirty = s.mgmt.dirty := by rw [touchIdle_of_in hs]; rfl
  show Host.Outcome.next (doLeaveService r s) = _
  rw [doLeaveService, manage_of_free ht hf (Nat.zero_le _), if_pos (inService_touchIdle hs), hd]

theorem exec_discard : exec (.discard r) s = .next (respond 7#8 r .done []
    ((touchIdle s).updMgmt fun m => { m with shadow := some (touchIdle s).active, dirty := false })) := by
  show Host.Outcome.next (doDiscard r s) = _
  rw [doDiscard, manage_of_free ht hf (Nat.zero_le _), if_pos (inService_touchIdle hs)]

theorem exec_clearIncidents :
    exec (.clearIncidents r) s = .next (respond 11#8 r .done [] (clearIncidents (touchIdle s))) := by
  show Host.Outcome.next (doClearIncidents r s) = _
  rw [doClearIncidents, manage_of_free ht hf (Nat.zero_le _), if_pos (inService_touchIdle hs)]

end

theorem same_serviceEntered (s : State) : SameBut [.mgmt] s (serviceEntered s) := by
  unfold serviceEntered
  split
  · exact same_touchIdle s
  · exact (same_touchIdle s).trans (same_updMgmt _ _)

theorem serviceEntered_mgmt (s : State) : (serviceEntered s).mgmt =
    if s.mgmt.shadow.isSome then { s.mgmt with idle := some 300000 }
    else { s.mgmt with shadow := some s.active, dirty := false, idle := some 300000 } := by
  cases hs : s.mgmt.shadow with
  | none =>
    unfold serviceEntered
    rw [touchIdle_of_out hs, if_neg (by simp [State.inService, hs])]
    rfl
  | some img =>
    have hin : s.mgmt.shadow.isSome = true := by rw [hs]; rfl
    unfold serviceEntered
    rw [if_pos (inService_touchIdle hin), touchIdle_of_in hin]
    simp [hs]

/-- Settles O48: each request is its work behind the common checks and then the answer, and the idle timer's expiry the end
of service mode. -/
theorem serviceModeIsEnteredAndLeft : Obligations.ServiceModeIsEnteredAndLeft := by
  unfold Obligations.ServiceModeIsEnteredAndLeft
  intro s r
  refine ⟨fun ht hf hs => ?moving, fun ht hf hs => ?enter, fun ht hf hs => ⟨?leave, ?discard, ?clear⟩,
    fun k hk hs => ?idle⟩
  case moving =>
    obtain ⟨hm, ha, g⟩ := refusal_effects 3#8 r .refusedMoving [] s
    exact ⟨_, exec_enterService_moving ht hf hs, ha, hm, g⟩
  case enter =>
    have g := same_serviceEntered s
    exact ⟨_, exec_enterService_done ht hf hs, answered_of_same g (by decide) _ _ _ _,
      (respond_mgmt _ _ _ _ _).trans (serviceEntered_mgmt s), g.comp (same_respond _ _ _ _ _) (by simp) (by simp)⟩
  case leave =>
    have hin := inService_touchIdle hs
    have g : SameBut [.mgmt, .channels, .load] s (endService (touchIdle s)) :=
      (same_touchIdle s).comp (same_endService _) (by decide) (by decide)
    have hdirty : BitVec.ofNat 8 (bit s.mgmt.dirty) = if s.mgmt.dirty then 1 else 0 := by cases s.mgmt.dirty <;> rfl
    refine ⟨_, exec_leaveService ht hf hs, hdirty ▸ answered_of_same g (by decide) _ _ _ _, ?_, fun c hc => ?_,
      g.comp (same_respond _ _ _ _ _) (by simp) (by simp)⟩
    · rw [respond_mgmt, endService_mgmt hin, touchIdle_of_in hs]
      rfl
    · rw [respond_channel]
      exact endService_testEnded hin hc
  case discard =>
    have g := (same_touchIdle s).trans
      (same_updMgmt (fun m => { m with shadow := some (touchIdle s).active, dirty := false }) (touchIdle s))
    refine ⟨_, exec_discard ht hf hs, answered_of_same g (by decide) _ _ _ _, ?_,
      g.comp (same_respond _ _ _ _ _) (by simp) (by simp)⟩
    rw [respond_mgmt, touchIdle_of_in hs]
    rfl
  case clear =>
    have g : SameBut [.incidents, .tyre, .mgmt] s (clearIncidents (touchIdle s)) :=
      (same_touchIdle s).comp (same_clearIncidents _) (by decide) (by decide)
    have hi : (touchIdle s).incidents = s.incidents := (same_touchIdle s).at .incidents (by decide)
    have htyre : (touchIdle s).tyre = s.tyre := (same_touchIdle s).at .tyre (by decide)
    refine ⟨_, exec_clearIncidents ht hf hs, answered_of_same g (by decide) _ _ _ _, ?_, ?_, ?_,
      g.comp (same_respond _ _ _ _ _) (by simp) (by simp)⟩
    · rw [← hi]
      exact enqueue_incidents _ _ _ _
    · rw [← htyre]
      exact enqueue_tyre _ _ _ _
    · exact (respond_mgmt _ _ _ _ _).trans (touchIdle_mgmt s)
  case idle =>
    have hin : (elapse k s).inService = true := hs
    exact ⟨_, congrArg Host.Outcome.next (onExpiry_of_running hk endService s), endService_mgmt hin,
      fun c hc => endService_testEnded hin hc, same_endService _⟩

end Sys2Proof.Machine
end

section
/-! PROOFS. What the stability state lets stand (R122, R126 to R137): the stability unit's own changes of state keep it, and so
does every operation that adds no request of the unit's and moves no held channel out of FOLLOW. -/

namespace Sys2Proof.Machine

variable {s t u : State} {L : List Part} {c : Nat}

/-! ### One channel and the unit -/

/-- A channel under a stability unit: STAB_TEST request and test hold stand on test channels alone, a held channel is in
FOLLOW, and a STAB_INT request stands in INTERVENE alone (R126, R129, R134). -/
structure PulseWf (u : Stability) (c : Nat) (ch : Channel) : Prop where
  tested   : ch.stabTest ≠ none ∨ ch.testHold = true → c ∈ u.testChannels
  held     : ch.testHold = true → ch.slipState = .follow
  unlifted : u.state ≠ .intervene → ch.stabInt = none

/-- A channel that carries nothing of the stability unit's. -/
structure Channel.Unpulsed (ch : Channel) : Prop where
  test : ch.stabTest = none
  hold : ch.testHold = false

theorem Channel.Unpulsed.pulseWf {u : Stability} {ch : Channel} (h : ch.Unpulsed)
    (hi : u.state ≠ .intervene → ch.stabInt = none) : PulseWf u c ch where
  tested hc := by simp [h.test, h.hold] at hc
  held hc := by simp [h.hold] at hc
  unlifted := hi

theorem unpulsed_start : Channel.start.Unpulsed := ⟨rfl, rfl⟩

theorem pulseWf_start (u : Stability) (c : Nat) : PulseWf u c Channel.start := unpulsed_start.pulseWf fun _ => rfl

/-- No test channel is left to a channel that has the form. -/
theorem PulseWf.unpulsed {u : Stability} {ch : Channel} (h : PulseWf u c ch) (hc : c ∉ u.testChannels) : ch.Unpulsed where
  test := by
    by_contra ht
    exact hc (h.tested (.inl ht))
  hold := by
    by_contra hh
    exact hc (h.tested (.inr (by simpa using hh)))

/-- The second channel carries no request or hold of the stability unit's that the first has not, and a held one in FOLLOW
stays there. -/
structure Channel.Eased (a b : Channel) : Prop where
  test   : b.stabTest ≠ none → a.stabTest ≠ none
  hold   : b.testHold = true → a.testHold = true
  follow : b.testHold = true → a.slipState = .follow → b.slipState = .follow
  int    : a.stabInt = none → b.stabInt = none

theorem Channel.Eased.refl (a : Channel) : a.Eased a := ⟨id, id, fun _ => id, id⟩

/-- A channel with other items than the stability unit's and its slip control. -/
theorem Channel.Eased.of_eq {a b : Channel} (ht : b.stabTest = a.stabTest) (hh : b.testHold = a.testHold)
    (hs : b.slipState = a.slipState) (hi : b.stabInt = a.stabInt) : a.Eased b :=
  ⟨by simp [ht], by simp [hh], by simp [hs], by simp [hi]⟩

/-- A channel that returns to FOLLOW. -/
theorem Channel.Eased.of_follow {a b : Channel} (ht : b.stabTest = a.stabTest) (hh : b.testHold = a.testHold)
    (hs : b.slipState = .follow) (hi : b.stabInt = a.stabInt) : a.Eased b :=
  ⟨by simp [ht], by simp [hh], by simp [hs], by simp [hi]⟩

theorem PulseWf.eased {u : Stability} {a b : Channel} (h : PulseWf u c a) (e : a.Eased b) : PulseWf u c b where
  tested hb := h.tested (hb.imp e.test e.hold)
  held hb := e.follow hb (h.held (e.hold hb))
  unlifted hs := e.int (h.unlifted hs)

theorem channelTargeted_pulse (s : State) (c : Nat) (ch : Channel) :
    (channelTargeted s c ch).stabTest = ch.stabTest ∧ (channelTargeted s c ch).testHold = ch.testHold ∧
      (channelTargeted s c ch).stabInt = ch.stabInt := by
  unfold channelTargeted
  dsimp only
  split <;> exact ⟨rfl, rfl, rfl⟩

/-- A recomposed channel keeps its test request and hold, and of an intervention what stood, at its value (R135). -/
theorem channelNow_pulse (he : channelExists s c = true) (ch : Channel) :
    (channelNow s c ch).stabTest = ch.stabTest ∧ (channelNow s c ch).testHold = ch.testHold ∧
      (channelNow s c ch).stabInt = ch.stabInt.map fun _ => (channelNow s c ch).intervention := by
  rw [channelNow_of_exists he]
  obtain ⟨ht, hh, hi⟩ := channelTargeted_pulse s c (channelValues s c ch)
  refine ⟨ht, hh, hi.trans ?_⟩
  unfold channelTargeted
  dsimp only
  split <;> rfl

theorem eased_channelNow (s : State) (c : Nat) (ch : Channel) : ch.Eased (channelNow s c ch) := by
  cases he : channelExists s c with
  | true =>
    obtain ⟨ht, hh, hi⟩ := channelNow_pulse he ch
    refine ⟨by simp [ht], by simp [hh], fun _ hf => ?_, fun hn => by simp [hi, hn]⟩
    exact (channelNow_slipKept he ch).state.elim (·.trans hf) id
  | false =>
    rw [channelNow_of_absent he]
    exact ⟨fun h => absurd rfl h, fun h => Bool.noConfusion h, fun _ _ => rfl, fun _ => rfl⟩

/-! ### All channels and the unit -/

/-- Every channel has the form under a stability unit. -/
def PulsesWf (u : Stability) (s : State) : Prop := ∀ c ∈ channelNumbers, PulseWf u c (s.channel c)

/-- The timers, test channels and pending test stand in their own states alone (R126 to R133, R137). -/
structure UnitWf (u : Stability) : Prop where
  tests    : u.state ≠ .test → u.testChannels = [] ∧ u.window = none
  recovers : u.state ≠ .recover → u.recover = none
  pending  : u.pendingTest ≠ .none → u.state = .watch

theorem stabilityWf_iff : StabilityWf s ↔ UnitWf s.stability ∧ PulsesWf s.stability s :=
  ⟨fun h => ⟨⟨h.tests, h.recovers, h.pending⟩, fun c hc => ⟨h.channels c hc, h.holds c hc, fun hs => h.lifts hs c hc⟩⟩,
    fun ⟨hu, hp⟩ => ⟨hu.tests, fun c hc => (hp c hc).tested, fun c hc => (hp c hc).held, fun hs c hc => (hp c hc).unlifted hs,
      hu.recovers, hu.pending⟩⟩

theorem StabilityWf.unit (h : StabilityWf s) : UnitWf s.stability := (stabilityWf_iff.mp h).1

theorem StabilityWf.pulses (h : StabilityWf s) : PulsesWf s.stability s := (stabilityWf_iff.mp h).2

theorem stabilityWf_of_pulses {u : Stability} (he : t.stability = u) (hu : UnitWf u) (hp : PulsesWf u t) : StabilityWf t := by
  subst he
  exact stabilityWf_iff.mpr ⟨hu, hp⟩

theorem pulsesWf_congr {u : Stability} (hp : PulsesWf u s) (e : t.channels = s.channels) : PulsesWf u t := by
  intro c hc
  rw [channel_congr e]
  exact hp c hc

/-- Channels rewritten into the form have it, those beyond the list among them. -/
theorem pulsesWf_mapChannels {u : Stability} {f : Nat → Channel → Channel}
    (hf : ∀ c ∈ channelNumbers, PulseWf u c (f c (s.channel c))) : PulsesWf u (s.mapChannels f) := fun c hc =>
  mapChannels_rel (R := fun _ b => PulseWf u c b) s hc (pulseWf_start u c) (hf c hc)

theorem pulsesWf_recompose {u : Stability} (hp : PulsesWf u s) : PulsesWf u (recompose s) :=
  pulsesWf_mapChannels (s := s.updLoad fun _ => loadNow s) fun c hc => (hp c hc).eased (eased_channelNow _ c _)

/-- A change of the stability state over rewritten channels, recomposed: the shape of every change with requests. -/
theorem stabilityWf_recompose_changeStab {st} {u : Stability} (he : { s.stability with state := st } = u) (hu : UnitWf u)
    (hp : PulsesWf u s) : StabilityWf (recompose (changeStab st s)) := by
  refine stabilityWf_of_pulses (u := u) ?_ hu (pulsesWf_recompose (pulsesWf_congr hp ?_))
  · rw [recompose_stability, changeStab_stability, he]
  · exact (same_changeStab st s).at .channels (by decide)

/-- A change within other parts than the channels and the unit. -/
theorem StabilityWf.frame (h : StabilityWf s) (g : SameBut L s t) (d : ∀ p ∈ [Part.channels, .stability], p ∉ L) :
    StabilityWf t :=
  stabilityWf_of_pulses (g.at .stability (d _ (by decide))) h.unit
    (pulsesWf_congr h.pulses (g.at .channels (d _ (by decide))))

theorem stabilityWf_mapChannels {f : Nat → Channel → Channel} (h : StabilityWf s) (hf : ∀ c ch, Channel.Eased ch (f c ch)) :
    StabilityWf (s.mapChannels f) :=
  stabilityWf_of_pulses rfl h.unit (pulsesWf_mapChannels fun c hc => (h.pulses c hc).eased (hf c _))

theorem stabilityWf_recompose (h : StabilityWf s) : StabilityWf (recompose s) :=
  stabilityWf_of_pulses rfl h.unit (pulsesWf_recompose h.pulses)

/-- A change of the unit alone, its state and test channels as they were. -/
theorem StabilityWf.retimed (h : StabilityWf s) (channels : t.channels = s.channels)
    (hs : t.stability.state = s.stability.state) (hc : t.stability.testChannels = s.stability.testChannels)
    (hu : UnitWf t.stability) : StabilityWf t := by
  refine stabilityWf_of_pulses rfl hu (pulsesWf_congr (fun c hm => ?_) channels)
  obtain ⟨htested, hheld, hlifted⟩ := h.pulses c hm
  exact ⟨fun hr => hc ▸ htested hr, hheld, fun hr => hlifted (hs ▸ hr)⟩

/-- Outside TEST no channel carries a test request or hold. -/
theorem StabilityWf.unpulsed (h : StabilityWf s) (hs : s.stability.testChannels = []) (hc : c ∈ channelNumbers) :
    (s.channel c).Unpulsed := (h.pulses c hc).unpulsed (by simp [hs])

/-! ### The channels under a change of requests -/

/-- The STAB_TEST requests and test holds of a test (R129). -/
def testPulsed (side : Side) (s : State) : State :=
  s.mapChannels fun c ch =>
    if c ∈ candidates s side then { ch with testHold := true, stabTest := some s.active.stab.pTest } else ch

/-- The STAB_TEST requests and test holds of a list of channels removed (R131, R132). -/
def testUnpulsed (l : List Nat) (s : State) : State :=
  s.mapChannels fun c ch => if c ∈ l then { ch with stabTest := none, testHold := false } else ch

/-- The STAB_INT requests of an intervention (R134). -/
def liftPulsed (s : State) : State :=
  s.mapChannels fun c ch => if channelExists s c then { ch with stabInt := some ch.intervention } else ch

theorem acknowledgeTest_eq (side : Side) (s : State) : acknowledgeTest side s =
    recompose (changeStab .test ((testPulsed side s).updStab fun u =>
      { u with
        testChannels := candidates s side, inner := side, pendingTest := .none, window := some s.active.stab.window,
        tests := satSucc 65535 u.tests })) := rfl

theorem intervene_eq (side : Side) (s : State) : intervene side s =
    recompose (changeStab .intervene (openIncident .stabilityIntervention 0 ((liftPulsed s).updStab fun u =>
      { u with
        spacing := none, recover := none, pendingTest := .none, inner := side,
        interventions := satSucc 65535 u.interventions }))) := rfl

/-- The test channels whose MOD node is DEGRADED (R132). -/
def degradedTests (s : State) : List Nat := s.stability.testChannels.filter fun c => (channelNode s c).degraded

theorem removeDegraded_eq (s : State) : removeDegraded s = recompose ((testUnpulsed (degradedTests s) s).updStab fun u =>
    { u with testChannels := u.testChannels.filter fun c => !(degradedTests s).contains c }) := rfl

theorem unpulsed_dropStabTest (s : State) (hc : c ∈ channelNumbers) : ((dropStabTest s).channel c).Unpulsed :=
  mapChannels_rel (R := fun _ b => b.Unpulsed) (f := fun _ ch => { ch with stabTest := none, testHold := false }) s hc
    unpulsed_start ⟨rfl, rfl⟩

/-- With the requests and holds of every channel that may have one removed, none stands. -/
theorem unpulsed_testUnpulsed {l : List Nat} (hc : c ∈ channelNumbers) (h : c ∉ l → (s.channel c).Unpulsed) :
    ((testUnpulsed l s).channel c).Unpulsed := by
  unfold testUnpulsed
  refine mapChannels_rel (R := fun _ b => b.Unpulsed) s hc unpulsed_start ?_
  split
  · exact ⟨rfl, rfl⟩
  · next hm => exact h hm

/-- An intervention adds no test request or hold. -/
theorem unpulsed_liftPulsed (hc : c ∈ channelNumbers) (h : (s.channel c).Unpulsed) : ((liftPulsed s).channel c).Unpulsed := by
  unfold liftPulsed
  refine mapChannels_rel (R := fun _ b => b.Unpulsed) s hc unpulsed_start ?_
  split
  · exact ⟨h.test, h.hold⟩
  · exact h

theorem testUnpulsed_stabInt (l : List Nat) (s : State) (c : Nat) :
    ((testUnpulsed l s).channel c).stabInt = (s.channel c).stabInt :=
  mapChannels_read Channel.stabInt _ (fun c ch => by split <;> rfl) s c

/-! ### OFF (R122) -/

theorem stabilityWf_enterOff (h : StabilityWf s) : StabilityWf (enterOff s) := by
  by_cases ho : s.stability.state = .off
  · rwa [enterOff_of_off ho]
  · refine stabilityWf_of_pulses (enterOff_stability ho) ⟨fun _ => ⟨rfl, rfl⟩, fun _ => rfl, fun hp => absurd rfl hp⟩ ?_
    have hclear : ∀ u, PulsesWf u (dropStabInt (dropStabTest s)) := fun u =>
      pulsesWf_mapChannels (s := dropStabTest s) fun c hc => by
        obtain ⟨htest, hhold⟩ : ((dropStabTest s).channel c).Unpulsed := unpulsed_dropStabTest s hc
        exact Channel.Unpulsed.pulseWf ⟨htest, hhold⟩ fun _ => rfl
    unfold enterOff
    rw [if_neg ho]
    exact pulsesWf_recompose (pulsesWf_congr (hclear _) ((same_changeStab _ _).at .channels (by decide)))

theorem stabilityWf_testOff (h : StabilityWf s) : StabilityWf (testOff s) := by
  unfold testOff
  split
  · exact stabilityWf_enterOff h
  · exact h

/-! ### Tests (R126 to R133) -/

/-- The form of a state in which no pulse, recovery or pending test stands. -/
theorem unitWf_of_none {u : Stability} (hc : u.testChannels = []) (hw : u.window = none) (hr : u.recover = none)
    (hp : u.pendingTest = .none) : UnitWf u := ⟨fun _ => ⟨hc, hw⟩, fun _ => hr, fun h => absurd hp h⟩

theorem mem_candidates {side : Side} : c ∈ candidates s side ↔
    c ∈ channelNumbers ∧ sideOf c = side ∧ channelExists s c = true ∧ (channelNode s c).degraded = false := by
  simp [candidates, channelNumbers, and_assoc]

theorem allFollow_iff {l : List Nat} : allFollow s l = true ↔ ∀ c ∈ l, (s.channel c).slipState = .follow := by
  simp [allFollow]

/-- A test that starts in WATCH on candidates in FOLLOW (R128, R129). -/
theorem stabilityWf_acknowledgeTest {side} (h : StabilityWf s) (hs : s.stability.state = .watch)
    (hf : allFollow s (candidates s side) = true) : StabilityWf (acknowledgeTest side s) := by
  obtain ⟨hnone, -⟩ := h.tests (by simp [hs])
  rw [acknowledgeTest_eq]
  refine stabilityWf_recompose_changeStab rfl
    ⟨fun ht => absurd rfl ht, fun _ => h.recovers (by simp [hs]), fun hp => absurd rfl hp⟩
    (pulsesWf_congr (s := testPulsed side s) (pulsesWf_mapChannels fun c hc => ?_) rfl)
  have hi : (s.channel c).stabInt = none := h.lifts (by simp [hs]) c hc
  split
  · next hm => exact ⟨fun _ => hm, fun _ => allFollow_iff.mp hf c hm, fun _ => hi⟩
  · exact (h.unpulsed hnone hc).pulseWf fun _ => hi

/-- The end of a test leaves no pulse (R131). -/
theorem endTestPulse_unpulsed (h : StabilityWf s) (hc : c ∈ channelNumbers) : ((endTestPulse s).channel c).Unpulsed :=
  unpulsed_testUnpulsed (l := s.stability.testChannels) hc fun hm => (h.pulses c hc).unpulsed hm

theorem stabilityWf_abandonTest (h : StabilityWf s) (hs : s.stability.state = .test) : StabilityWf (abandonTest s) :=
  stabilityWf_recompose_changeStab rfl ⟨fun _ => ⟨rfl, rfl⟩, fun _ => h.recovers (by simp [hs]), fun _ => rfl⟩
    (pulsesWf_congr (s := endTestPulse s)
      (fun c hc => (endTestPulse_unpulsed h hc).pulseWf fun _ =>
        (testUnpulsed_stabInt _ s c).trans (h.lifts (by simp [hs]) c hc)) rfl)

theorem stabilityWf_considerTest (ay) (h : StabilityWf s) (hs : s.stability.state = .watch) :
    StabilityWf (considerTest ay s) := by
  have hu := h.unit
  unfold considerTest offerTest
  dsimp only
  split
  · exact h.retimed rfl rfl rfl ⟨hu.tests, hu.recovers, fun hp => absurd rfl hp⟩
  · split
    · split
      · next hf => exact stabilityWf_acknowledgeTest h hs hf
      · exact h.retimed rfl rfl rfl ⟨hu.tests, hu.recovers, fun _ => hs⟩
    · exact h

/-! ### Intervention and recovery (R134 to R137) -/

/-- An intervention with no test running. -/
theorem stabilityWf_intervene (side) (hc : s.stability.testChannels = []) (hw : s.stability.window = none)
    (hp : ∀ c ∈ channelNumbers, (s.channel c).Unpulsed) : StabilityWf (intervene side s) := by
  rw [intervene_eq]
  refine stabilityWf_recompose_changeStab (u := { s.stability with
      state := .intervene, spacing := none, recover := none, pendingTest := .none, inner := side,
      interventions := satSucc 65535 s.stability.interventions }) (by rw [openIncident_stability]; rfl) (unitWf_of_none hc hw rfl rfl) ?_
  exact pulsesWf_congr (s := liftPulsed s)
    (fun c hm => (unpulsed_liftPulsed hm (hp c hm)).pulseWf fun hs => absurd rfl hs) (openIncident_channels _ _ _)

theorem stabilityWf_intervene_of_wf (side) (h : StabilityWf s) (hs : s.stability.state ≠ .test) :
    StabilityWf (intervene side s) :=
  have ⟨hc, hw⟩ := h.tests hs
  stabilityWf_intervene side hc hw fun _ hm => h.unpulsed hc hm

theorem stabilityWf_enterRecover (h : StabilityWf s) (hs : s.stability.state = .intervene) : StabilityWf (enterRecover s) := by
  obtain ⟨hnone, hw⟩ := h.tests (by simp [hs])
  have hp : s.stability.pendingTest = .none := by
    by_contra hp
    simpa [hs] using h.pending hp
  refine stabilityWf_recompose_changeStab rfl
    ⟨fun _ => ⟨hnone, hw⟩, fun hr => absurd rfl hr, fun hn => absurd hp hn⟩
    (pulsesWf_congr (s := dropStabInt s) (pulsesWf_mapChannels fun c hc => ?_) rfl)
  obtain ⟨htest, hhold⟩ := h.unpulsed hnone hc
  exact Channel.Unpulsed.pulseWf ⟨htest, hhold⟩ fun _ => rfl

/-- A change between OFF, ARMED and WATCH. -/
theorem stabilityWf_moveTo {st : StabState} (h : StabilityWf s) (ht : s.stability.state ≠ .test)
    (hi : s.stability.state ≠ .intervene) (hr : s.stability.state ≠ .recover) : StabilityWf (moveTo st s) := by
  obtain ⟨hnone, hw⟩ := h.tests ht
  refine stabilityWf_of_pulses (u := { s.stability with state := st, pendingTest := .none }) (by simp [moveTo])
    (unitWf_of_none hnone hw (h.recovers hr) rfl) (pulsesWf_congr (s := s) (fun c hc => ?_)
      ((same_moveTo st s).at .channels (by decide)))
  exact (h.unpulsed hnone hc).pulseWf fun _ => h.lifts hi c hc

theorem stabilityWf_recovered (h : StabilityWf s) (hs : s.stability.state = .recover) : StabilityWf (recovered s) := by
  obtain ⟨hnone, hw⟩ := h.tests (by simp [hs])
  have hp : s.stability.pendingTest = .none := by
    by_contra hp
    simpa [hs] using h.pending hp
  refine stabilityWf_of_pulses (u := { s.stability with state := .armed, recover := none, inner := .none })
    (by simp [recovered]) (unitWf_of_none hnone hw rfl hp) (pulsesWf_congr (s := s) (fun c hc => ?_)
      ((same_recovered s).at .channels (by decide)))
  exact (h.unpulsed hnone hc).pulseWf fun _ => h.lifts (by simp [hs]) c hc

theorem stabilityWf_evaluate (h : StabilityWf s) : StabilityWf (evaluate s) := by
  unfold evaluate
  dsimp only
  split
  · exact stabilityWf_enterOff h
  · split
    case h_1 e => exact stabilityWf_moveTo h (by simp [e]) (by simp [e]) (by simp [e])
    case h_2 e =>
      split
      · exact stabilityWf_intervene_of_wf _ h (by simp [e])
      · split
        · exact stabilityWf_moveTo h (by simp [e]) (by simp [e]) (by simp [e])
        · exact h
    case h_3 e =>
      split
      · exact stabilityWf_intervene_of_wf _ h (by simp [e])
      · split
        · exact stabilityWf_moveTo h (by simp [e]) (by simp [e]) (by simp [e])
        · exact stabilityWf_considerTest _ h e
    case h_4 e =>
      split
      · exact stabilityWf_intervene _ rfl rfl fun _ => endTestPulse_unpulsed h
      · split
        · exact stabilityWf_abandonTest h e
        · exact h
    case h_5 e =>
      split
      · exact h
      · exact stabilityWf_enterRecover h e
    case h_6 e =>
      split
      · exact stabilityWf_intervene_of_wf _ h (by simp [e])
      · exact h

/-! ### The unit's work at a completion (R124, R128, R130, R132) -/

/-- The test channels whose MOD node is DEGRADED leave the test in TEST. -/
theorem stabilityWf_removeDegraded (h : StabilityWf s) (hs : s.stability.state = .test) : StabilityWf (removeDegraded s) := by
  have hu := h.unit
  rw [removeDegraded_eq]
  refine stabilityWf_recompose (stabilityWf_of_pulses rfl ⟨fun ht => absurd hs ht, hu.recovers, hu.pending⟩
    (pulsesWf_congr (s := testUnpulsed (degradedTests s) s) (pulsesWf_mapChannels fun c hc => ?_) rfl))
  obtain ⟨htested, hheld, hlifted⟩ := h.pulses c hc
  split
  · exact Channel.Unpulsed.pulseWf ⟨rfl, rfl⟩ hlifted
  · next hgone =>
    refine ⟨fun hr => List.mem_filter.mpr ⟨htested hr, ?_⟩, hheld, hlifted⟩
    simpa using hgone

theorem stabilityWf_lift (h : StabilityWf s) : StabilityWf (lift s) :=
  stabilityWf_intervene (s := (endTestPulse s).updStab _) _ rfl rfl fun _ => endTestPulse_unpulsed h

theorem stabilityWf_workTest (h : StabilityWf s) (hs : s.stability.state = .test) : StabilityWf (workTest s) := by
  have hr := stabilityWf_removeDegraded h hs
  unfold workTest
  dsimp only
  split
  · exact stabilityWf_abandonTest hr hs
  · split
    · exact stabilityWf_lift hr
    · exact hr

theorem stabilityWf_workWatch (h : StabilityWf s) (hs : s.stability.state = .watch) : StabilityWf (workWatch s) := by
  have hu := h.unit
  unfold workWatch
  dsimp only
  split
  · exact h
  · split
    · exact h.retimed rfl rfl rfl ⟨hu.tests, hu.recovers, fun hp => absurd rfl hp⟩
    · split
      · next hf => exact stabilityWf_acknowledgeTest h hs hf
      · exact h

theorem stabilityWf_workInState (h : StabilityWf s) : StabilityWf (workInState s) := by
  unfold workInState
  split
  case h_1 e => exact stabilityWf_workTest h e
  case h_2 e => exact stabilityWf_workWatch h e
  all_goals exact h

theorem stabilityWf_rethreshold (h : StabilityWf s) : StabilityWf (rethreshold s) :=
  h.retimed rfl rfl rfl ⟨h.tests, h.recovers, h.pending⟩

theorem stabilityWf_takeThreshold (h : StabilityWf s) : StabilityWf (takeThreshold s) :=
  h.retimed rfl rfl rfl ⟨h.tests, h.recovers, h.pending⟩

theorem stabilityWf_stabilityWork (b) (h : StabilityWf s) : StabilityWf (stabilityWork b s) := by
  have hd : StabilityWf (if b then evaluate (takeThreshold s) else testOff s) := by
    split
    · exact stabilityWf_evaluate (stabilityWf_takeThreshold h)
    · exact stabilityWf_testOff h
  unfold stabilityWork
  dsimp only
  generalize (if b then evaluate (takeThreshold s) else testOff s) = v at hd
  split
  · exact stabilityWf_workInState hd
  · exact hd

/-- At a swap a running test takes the new record's pressure (R119). -/
theorem stabilityWf_stabilitySwap (h : StabilityWf s) : StabilityWf (stabilitySwap s) := by
  have hr := stabilityWf_rethreshold h
  refine stabilityWf_testOff (stabilityWf_of_pulses rfl hr.unit (pulsesWf_mapChannels fun c hc => ?_))
  obtain ⟨htested, hheld, hlifted⟩ := hr.pulses c hc
  split
  · next hm => exact ⟨fun _ => hm, hheld, hlifted⟩
  · exact ⟨htested, hheld, hlifted⟩

theorem stabilityWf_testWindow (h : StabilityWf s) :
    StabilityWf (if s.stability.state = .test then abandonTest s else s.updStab fun u => { u with window := none }) := by
  split
  · next hs => exact stabilityWf_abandonTest h hs
  · exact h.retimed rfl rfl rfl
      { h.unit with tests := fun hs => have ⟨hc, _⟩ := h.tests hs; ⟨hc, rfl⟩ }

end Sys2Proof.Machine
end

section
/-! PROOFS. Every command keeps the stability form (O9): beside the stability unit's own work, the blocks add no request of the
unit's, and the wheel and slip unit lets no held channel leave FOLLOW (R129). -/

namespace Sys2Proof.Machine

variable {s t u : State} {L : List Part}

/-- A recomposition after a change within other parts than the channels and the unit. -/
theorem StabilityWf.recomposed (h : StabilityWf s) (g : SameBut L s t) (d : ∀ p ∈ [Part.channels, .stability], p ∉ L) :
    StabilityWf (recompose t) := stabilityWf_recompose (h.frame g d)

/-! ### The composer, service tests and service mode -/

theorem stabilityWf_setEmergency (b) (h : StabilityWf s) : StabilityWf (setEmergency b s) := by
  have hc := same_updComposer (fun c => { c with emergency := b }) s
  unfold setEmergency
  split
  · exact h
  · refine h.recomposed (L := [.incidents, .composer]) ?_ (by decide)
    split
    · exact hc.comp (same_openIncident _ _ _) (by decide) (by decide)
    · exact hc.comp (same_closeIncident _ _ _) (by decide) (by decide)

theorem stabilityWf_judgeEmergency (fr) (h : StabilityWf s) : StabilityWf (judgeEmergency fr s) := by
  unfold judgeEmergency
  split
  · exact stabilityWf_setEmergency _ h
  · split
    · exact h
    · split
      · exact stabilityWf_setEmergency _ h
      · exact h

theorem stabilityWf_reestablish (h : StabilityWf s) : StabilityWf (reestablish s) := by
  have hr : StabilityWf (remoded s) := h.recomposed
    ((same_updComposer _ s).comp (N := [.incidents, .composer]) (same_demandLost _ _ _) (by decide) (by decide)) (by decide)
  rw [reestablish_eq]
  split
  · exact hr
  · exact stabilityWf_testOff hr

theorem eased_untested (ch : Channel) : ch.Eased ch.untested := .of_eq rfl rfl rfl rfl

theorem stabilityWf_endTests (h : StabilityWf s) : StabilityWf (endTests s) :=
  stabilityWf_recompose (stabilityWf_mapChannels h fun _ => eased_untested)

theorem stabilityWf_startTest (c p d) (h : StabilityWf s) : StabilityWf (startTest c p d s) := by
  rw [startTest_eq]
  refine stabilityWf_recompose (stabilityWf_mapChannels h fun n ch => ?_)
  split
  · unfold testedChannel
    split <;> exact .of_eq rfl rfl rfl rfl
  · exact .refl ch

theorem stabilityWf_endTest (c) (h : StabilityWf s) : StabilityWf (endTest c s) := by
  refine stabilityWf_recompose (stabilityWf_mapChannels h fun n ch => ?_)
  split
  · exact .of_eq rfl rfl rfl rfl
  · exact .refl ch

theorem stabilityWf_endService (h : StabilityWf s) : StabilityWf (endService s) := by
  unfold endService
  split
  · exact stabilityWf_endTests (h.frame (same_updMgmt _ s) (by decide))
  · exact h

/-! ### Tyres -/

theorem stabilityWf_tyreSettle (h : StabilityWf s) : StabilityWf (tyreSettle s) :=
  h.recomposed (same_driveLamp s) (by decide)

theorem stabilityWf_acceptTelegram (i fd x) (h : StabilityWf s) : StabilityWf (acceptTelegram i fd x s) := by
  have hi : ∀ q, SameBut [.incidents, .tyre] s (tyreIncidents i (s.position i) q (s.updPosition i fun _ => q)) := fun q =>
    (same_updPosition _ _ s).comp (same_tyreIncidents _ _ _ _) (by decide) (by decide)
  unfold acceptTelegram
  refine stabilityWf_tyreSettle (h.frame (L := [.incidents, .portA, .tyre]) ?_ (by decide))
  refine SameBut.comp (L := [.incidents, .tyre]) ?_ (same_setTyreState _ _ _) (by decide) (by decide)
  split
  · exact (hi _).trans ((same_closeIncident _ _ _).mono (by decide))
  · exact hi _

theorem stabilityWf_endLearn (h : StabilityWf s) : StabilityWf (endLearn s) := by
  cases e : s.tyre.learn with
  | none => rwa [endLearn_of_none e]
  | some l =>
    rw [endLearn_eq e]
    refine stabilityWf_tyreSettle (h.frame (L := [.portA, .tyre]) ?_ (by decide))
    exact (same_updTyre _ s).comp (same_setTyreState _ _ _) (by decide) (by decide)

theorem stabilityWf_startLearn (i fd) (h : StabilityWf s) : StabilityWf (startLearn i fd s) := by
  refine stabilityWf_tyreSettle (h.frame (L := [.portA, .tyre]) ?_ (by decide))
  exact (same_updTyre _ s).comp (same_setTyreState _ _ _) (by decide) (by decide)

theorem stabilityWf_applySwap (b) (h : StabilityWf s) : StabilityWf (applySwap b s) :=
  stabilityWf_tyreSettle (List.foldlRecOn _ _ (stabilityWf_reestablish h) fun _ hv i _ =>
    swapPosition_keeps (P := StabilityWf) (fun _ _ g hu => hu.frame g (by decide)) (fun _ => stabilityWf_recompose) b i hv)

theorem stabilityWf_applyHeld (h : StabilityWf s) : StabilityWf (applyHeld s) := by
  cases e : s.unapplied with
  | none => rwa [applyHeld_none s e]
  | some b =>
    rw [applyHeld_some e]
    exact stabilityWf_applySwap b (s := s.unheld) { h with }

theorem stabilityWf_updTyre (f) (h : StabilityWf s) : StabilityWf (s.updTyre f) := h.frame (same_updTyre f s) (by decide)

theorem stabilityWf_deliver (b) (h : StabilityWf s) : StabilityWf (deliver b s) := by
  unfold deliver
  dsimp only
  split
  · exact h
  · split
    · exact stabilityWf_updTyre _ (stabilityWf_applyHeld h)
    · exact stabilityWf_updTyre _ (stabilityWf_applyHeld h)

/-- A learned ID is no item of a channel's or of the stability unit's (R157). -/
theorem stabilityWf_completeLearn (l x) (h : StabilityWf s) : StabilityWf (completeLearn l x s) := by
  have hw : StabilityWf (writeLearned l.pos l.field x.id s) := { h with }
  have hs : SameBut [.mgmt] (writeLearned l.pos l.field x.id s) (storeLearned (writeLearned l.pos l.field x.id s)) := by
    unfold storeLearned
    split
    · exact same_updMgmt _ _
    · exact same_updMgmt _ _
  refine stabilityWf_acceptTelegram _ _ _ ((hw.frame hs (by decide)).frame (L := [.incidents, .tyre]) ?_ (by decide))
  exact ((same_updPosition _ _ _).comp (N := [.incidents, .tyre]) (same_closeTyreIncidents _ _) (by decide) (by decide)).trans
    ((same_updTyre _ _).mono (by decide))

theorem stabilityWf_handleTelegram (x) (h : StabilityWf s) : StabilityWf (handleTelegram x s) := by
  unfold handleTelegram
  split
  · unfold offerLearn
    split
    · exact h
    · split
      · exact stabilityWf_completeLearn _ x h
      · exact h
  · split
    · exact h
    · split
      · exact h
      · exact stabilityWf_acceptTelegram _ _ _ h

theorem stabilityWf_takeTelegram (h : StabilityWf s) : StabilityWf (takeTelegram s) := by
  unfold takeTelegram
  split
  · exact h
  · exact stabilityWf_handleTelegram _ (stabilityWf_updTyre _ (stabilityWf_applyHeld h))

theorem stabilityWf_fallSilent (i) (h : StabilityWf s) : StabilityWf (fallSilent i s) := by
  have hp : StabilityWf (s.updPosition i fun q => { q with missing := none }) := stabilityWf_updTyre _ h
  unfold fallSilent
  dsimp only
  split
  · unfold savedMissing
    split
    · exact hp
    · split
      · refine stabilityWf_tyreSettle (hp.frame (L := [.incidents, .tyre]) ?_ (by decide))
        exact (same_updTyre _ _).comp (same_openIncident _ _ _) (by decide) (by decide)
      · exact hp
  · exact hp
  · refine stabilityWf_tyreSettle (hp.frame (L := [.incidents, .tyre, .portA]) ?_ (by decide))
    exact (same_setTyreState _ _ _).comp (same_openIncident _ _ _) (by decide) (by decide)

theorem stabilityWf_missingExpired (i) (h : StabilityWf s) : StabilityWf (missingExpired i s) := by
  unfold missingExpired
  dsimp only
  split
  · exact stabilityWf_fallSilent i (stabilityWf_applyHeld h)
  · exact stabilityWf_applyHeld h

/-! ### The wheel and slip unit (R71 to R76, R129) -/

theorem eased_toFollow (ch : Channel) : ch.Eased ch.toFollow := .of_follow rfl rfl rfl rfl

/-- A transition keeps the requests, and a test hold keeps a channel in FOLLOW (R129). -/
theorem eased_transition (tn reference p) (ch : Channel) : ch.Eased (transition tn reference p ch) := by
  have released : ch.slipState ≠ .follow ∨ ch.testHold = false → ch.Eased (enterRelease ch) := fun hr =>
    ⟨id, id, fun hh hs => by simp_all [enterRelease], id⟩
  unfold transition
  split
  next hs =>
    split
    · next hc =>
      simp only [Bool.and_eq_true, Bool.not_eq_true'] at hc
      exact released (.inr hc.2)
    · exact .refl ch
  next hs =>
    split
    · exact ⟨id, id, fun _ hf => by simp [hs] at hf, id⟩
    · exact .refl ch
  next hs =>
    split
    · exact released (.inl (by simp [hs]))
    · split
      · exact ⟨id, id, fun _ hf => by simp [hs] at hf, id⟩
      · exact .refl ch
  next hs =>
    split
    · exact released (.inl (by simp [hs]))
    · unfold reapplyRise
      dsimp only
      split
      · exact eased_toFollow ch
      · exact .of_eq rfl rfl rfl rfl

theorem stabilityWf_stage1 (fr) (h : StabilityWf s) : StabilityWf (stage1 s fr) :=
  stabilityWf_mapChannels h fun c ch => by split <;> exact .of_eq rfl rfl rfl rfl

theorem stabilityWf_stage3 (fr) (h : StabilityWf s) : StabilityWf (stage3 s fr) :=
  stabilityWf_mapChannels h fun c ch => by split <;> exact .of_eq rfl rfl rfl rfl

theorem stabilityWf_stage4 (fr) (h : StabilityWf s) : StabilityWf (stage4 s fr) := by
  refine stabilityWf_recompose (stabilityWf_mapChannels h fun c ch => ?_)
  split
  · exact eased_toFollow ch
  · split
    · exact eased_transition _ _ _ ch
    · exact .refl ch

theorem stabilityWf_motionEvent (h : StabilityWf s) : StabilityWf (motionEvent s) :=
  stabilityWf_endTests (stabilityWf_endLearn (stabilityWf_endService h))

theorem stabilityWf_updWheel (f) (h : StabilityWf s) : StabilityWf (s.updWheel f) := h.frame (same_updWheel f s) (by decide)

theorem stabilityWf_stage5 (fr) (h : StabilityWf s) : StabilityWf (stage5 s fr) := by
  unfold stage5
  dsimp only
  split
  · split
    · exact stabilityWf_motionEvent (stabilityWf_updWheel _ h)
    · exact stabilityWf_updWheel _ h
  · split
    · split
      · exact h
      · exact stabilityWf_updWheel _ h
    · exact stabilityWf_updWheel _ h

theorem stabilityWf_wheelWork (fr before) (h : StabilityWf s) : StabilityWf (wheelWork fr before s) :=
  stabilityWf_stage5 fr (stabilityWf_stage4 fr (stabilityWf_stage3 fr
    (stabilityWf_updWheel _ (stabilityWf_stage1 fr h))))

/-! ### Voltage, SLEEP and the blocks at a completion (R56, R177, R180) -/

theorem stabilityWf_updPower (f) (h : StabilityWf s) : StabilityWf (s.updPower f) := h.frame (same_updPower f s) (by decide)

theorem stabilityWf_enterSleep (h : StabilityWf s) : StabilityWf (enterSleep s) :=
  (stabilityWf_updPower _ (stabilityWf_applyHeld h)).frame (same_tyreSleep _) (by decide)

theorem stabilityWf_updateVoltage (v) (h : StabilityWf s) : StabilityWf (updateVoltage v s) := by
  have hv := stabilityWf_updPower (fun p => { p with
    voltage := v, low := nextLow s.active.tuning.batteryLimit v s.power.low }) h
  unfold updateVoltage
  dsimp only
  split
  · split
    · exact stabilityWf_updPower _ hv
    · exact stabilityWf_enterSleep (stabilityWf_updPower _ hv)
  · exact hv

theorem stabilityWf_powerWork (fr) (h : StabilityWf s) : StabilityWf (powerWork fr s) := by
  unfold powerWork
  split
  · exact h
  · split
    · exact stabilityWf_updateVoltage _ h
    · exact h

theorem stabilityWf_blockWork (fr before b) (h : StabilityWf s) : StabilityWf (blockWork fr before b s) := by
  cases b with
  | wheel => exact stabilityWf_wheelWork fr before h
  | load => exact h.recomposed (same_updLoad _ s) (by decide)
  | composer => exact stabilityWf_reestablish (stabilityWf_judgeEmergency fr h)
  | stability => exact stabilityWf_stabilityWork _ h
  | power => exact stabilityWf_powerWork fr h

theorem stabilityWf_complete (fr before o) (h : StabilityWf s) : StabilityWf (complete fr before o s) :=
  List.foldlRecOn (blockOrder o) _ h fun _ ht b _ => stabilityWf_blockWork fr before b ht

/-! ### The chain -/

theorem stabilityWf_listReturned (l o) (h : StabilityWf s) : StabilityWf (listReturned l o s) := by
  unfold listReturned
  split
  · split
    · refine stabilityWf_complete _ _ _ (h.recomposed (L := [.incidents, .chain]) ?_ (by decide))
      exact ((same_applyResponses _ s).comp (N := [.incidents, .chain]) (same_updChain _ _) (by decide) (by decide)).trans
        (same_moveGood _)
    · refine stabilityWf_complete _ _ _ (h.recomposed (L := [.incidents, .chain]) ?_ (by decide))
      exact (same_updChain _ s).comp (same_moveFailed _) (by decide) (by decide)
  · exact h

theorem stabilityWf_updChain (f) (h : StabilityWf s) : StabilityWf (s.updChain f) := h.frame (same_updChain f s) (by decide)

/-- A chain reinitialisation returns every channel to FOLLOW (R79). -/
theorem stabilityWf_reinitialise (h : StabilityWf s) : StabilityWf (reinitialise s) := by
  have hc : StabilityWf (closeKind .nodeDegraded (closeKind .chainFaulted (bindChain (chainReset s)))) :=
    (stabilityWf_updChain _ (stabilityWf_updChain _ h)).frame ((same_closeKind _ _).trans (same_closeKind _ _)) (by decide)
  have hw : StabilityWf (wheelReinit _) :=
    stabilityWf_mapChannels (stabilityWf_updWheel (fun w => { w with stationaryTimer := none }) hc)
      fun _ ch => .of_follow rfl rfl rfl rfl
  exact stabilityWf_reestablish (stabilityWf_setEmergency false (stabilityWf_recompose hw))

theorem stabilityWf_sendCommands (h : StabilityWf s) : StabilityWf (sendCommands s) := by
  refine stabilityWf_mapChannels (stabilityWf_updChain (fun k => { k with sent := commandList s }) h) fun c ch => ?_
  split
  · exact .of_eq rfl rfl rfl rfl
  · exact .refl ch

theorem stabilityWf_sessionStart (anew) (h : StabilityWf s) : StabilityWf (sessionStart anew s) := by
  refine stabilityWf_sendCommands (stabilityWf_updChain _ ?_)
  split
  · exact stabilityWf_reinitialise h
  · exact stabilityWf_updChain _ h

theorem stabilityWf_startChain (anew) (h : StabilityWf s) : StabilityWf (startChain anew s) := by
  unfold startChain
  split
  · exact stabilityWf_updChain _ (stabilityWf_sessionStart anew h)
  · exact h

theorem stabilityWf_periodExpired (o) (h : StabilityWf s) : StabilityWf (periodExpired o s) := by
  have hp : StabilityWf (startPeriod s) := stabilityWf_updChain _ h
  have hf : StabilityWf (if (startPeriod s).chain.outstanding.isSome then failSession .noResponse o (startPeriod s)
      else startPeriod s) := by
    split
    · refine stabilityWf_complete _ _ _ (hp.recomposed (L := [.incidents, .chain]) ?_ (by decide))
      exact (same_updChain _ _).comp (same_moveFailed _) (by decide) (by decide)
    · exact hp
  unfold periodExpired
  dsimp only
  generalize (if (startPeriod s).chain.outstanding.isSome then failSession .noResponse o (startPeriod s)
      else startPeriod s) = w at hf ⊢
  split
  · exact stabilityWf_sessionStart _ hf
  · exact hf

/-! ### Power -/

/-- The wheel and slip unit on leaving RUN: no test hold stands (R78). -/
theorem stabilityWf_leaveWheel (h : StabilityWf s) : StabilityWf (leaveWheel s) :=
  stabilityWf_mapChannels (stabilityWf_updWheel (fun _ => Wheel.start) h)
    fun _ _ => ⟨id, fun hh => Bool.noConfusion hh, fun _ _ => rfl, id⟩

theorem stabilityWf_leaveRun (h : StabilityWf s) : StabilityWf (leaveRun s) := by
  have hl : StabilityWf (stopChain (leaveLinks (s.updPower fun p =>
      { p with state := .parkWatch, phase := .parked, settle := none }))) :=
    ((stabilityWf_updPower _ h).frame (same_leaveLinks _) (by decide)).frame (same_stopChain _) (by decide)
  have hr : StabilityWf (atRest s) := (stabilityWf_leaveWheel hl).frame (L := [.incidents, .load, .composer])
    ((same_updLoad _ _).comp ((same_updComposer _ _).comp (N := [.incidents, .composer])
      ((same_closeKind _ _).trans (same_closeKind _ _)) (by decide) (by decide)) (by decide) (by decide)) (by decide)
  have hoff := stabilityWf_endLearn (stabilityWf_enterOff (stabilityWf_reestablish hr))
  rw [leaveRun_eq]
  exact stabilityWf_endTests ((stabilityWf_endService hoff).frame (same_updMgmt _ _) (by decide))

theorem stabilityWf_powerOff (v) (h : StabilityWf s) : StabilityWf (powerOff v s) := by
  have ht : StabilityWf (turnedOff v s) :=
    stabilityWf_leaveRun (stabilityWf_updateVoltage _ (stabilityWf_updPower _ h))
  rw [powerOff_eq]
  split
  · exact stabilityWf_updPower _ ht
  · refine stabilityWf_enterSleep ?_
    split
    · exact stabilityWf_updPower _ ht
    · exact ht

theorem stabilityWf_startListening (h : StabilityWf s) : StabilityWf (startListening s) :=
  (stabilityWf_updPower _ (stabilityWf_applyHeld h)).frame (same_tyreWake _) (by decide)

theorem stabilityWf_parkExpired (h : StabilityWf s) : StabilityWf (parkExpired s) := by
  unfold parkExpired
  split
  · exact stabilityWf_updPower _ h
  · split
    · exact stabilityWf_updPower _ h
    · exact stabilityWf_enterSleep (stabilityWf_updPower _ h)

theorem stabilityWf_listenExpired (h : StabilityWf s) : StabilityWf (listenExpired s) := by
  unfold listenExpired
  split
  · exact stabilityWf_updPower _ h
  · split
    · exact stabilityWf_updPower _ h
    · exact stabilityWf_enterSleep (stabilityWf_updPower _ h)

theorem stabilityWf_wakeExpired (h : StabilityWf s) : StabilityWf (wakeExpired s) := by
  unfold wakeExpired
  split
  · exact stabilityWf_startListening h
  · exact stabilityWf_updPower _ h

theorem stabilityWf_wakeLine (h : StabilityWf s) : StabilityWf (wakeLine s) := by
  unfold wakeLine
  split
  · exact stabilityWf_startListening h
  · exact h

theorem stabilityWf_sampleExpired (v) (h : StabilityWf s) : StabilityWf (sampleExpired v s) := by
  unfold sampleExpired
  dsimp only
  split
  · exact stabilityWf_updateVoltage _ (stabilityWf_updPower _ h)
  · exact stabilityWf_updPower _ h

theorem stabilityWf_enterRun (h : StabilityWf s) : StabilityWf (enterRun s) :=
  stabilityWf_reestablish (stabilityWf_setEmergency false
    (stabilityWf_updChain _ (stabilityWf_updChain _ (stabilityWf_updPower _ (stabilityWf_applyHeld h)))))

theorem stabilityWf_powerOn (h : StabilityWf s) : StabilityWf (powerOn s) := by
  have hp := stabilityWf_updPower (fun p => { p with linkPower := true }) h
  unfold powerOn
  dsimp only
  split
  · exact hp
  · split
    · exact (stabilityWf_enterRun hp).frame (same_tyreWake _) (by decide)
    · exact stabilityWf_enterRun hp

/-- At its start values the unit is OFF and no channel carries a request (R78, R118, R141). -/
theorem stabilityWf_startBlocks (s : State) : StabilityWf (startBlocks s) := by
  refine stabilityWf_recompose (stabilityWf_rethreshold (stabilityWf_updTyre _ (stabilityWf_of_pulses rfl
    (unitWf_of_none rfl rfl rfl rfl) fun c _ => ?_)))
  have hstart : (List.replicate 6 Channel.start).getD (c - 1) .start = .start := by
    rw [List.getD_eq_getElem?_getD, List.getElem?_replicate]
    split <;> rfl
  show PulseWf _ c ((List.replicate 6 Channel.start).getD (c - 1) .start)
  rw [hstart]
  exact pulseWf_start _ c

theorem stabilityWf_beginRestart (s : State) : StabilityWf (beginRestart s) :=
  stabilityWf_enterRun (stabilityWf_startBlocks _)

theorem stabilityWf_triggerRestart (h : StabilityWf s) : StabilityWf (triggerRestart s) := by
  unfold triggerRestart
  split
  · exact h
  · split
    · exact h.frame (same_updMgmt _ s) (by decide)
    · exact stabilityWf_beginRestart s

theorem stabilityWf_coldStart (v l) (s : State) : StabilityWf (coldStart v l s) := by
  have hb := stabilityWf_startBlocks (coldLoaded v l s)
  rw [coldStart_eq]
  split
  · exact stabilityWf_enterRun hb
  · rw [coldSleep_eq]
    exact stabilityWf_enterSleep (hb.frame (same_lockedIfLow _) (by decide))

/-! ### Requests and frames -/

theorem keptByRequestWork_stabilityWf : KeptByRequestWork StabilityWf where
  quiet g h := h.frame g (by decide)
  clear h := h.frame (same_clearIncidents _) (by decide)
  service := stabilityWf_endService
  learn := stabilityWf_startLearn
  cancel := stabilityWf_endLearn
  test := stabilityWf_startTest
  restart := stabilityWf_triggerRestart

theorem stabilityWf_handOff (p f c) (h : StabilityWf s) : StabilityWf (handOff p f c s) := by
  unfold handOff
  split
  case h_1 =>
    split
    · unfold consumeDemand
      split
      · exact h
      · exact stabilityWf_reestablish (h.frame (same_updComposer _ s) (by decide))
    · exact h
  case h_2 =>
    split
    · exact h.frame (same_discoverConsume _ _ s) (by decide)
    · exact h
  case h_3 =>
    split
    · exact keptByRequestWork_stabilityWf.consume p f h
    · exact h
  all_goals exact h

theorem stabilityWf_receiveFrame (p f o) (h : StabilityWf s) : StabilityWf (receiveFrame p f o s) := by
  unfold receiveFrame
  split
  · have hr : StabilityWf (received p f s) := h.frame (same_received p f s) (by cases p <;> decide)
    exact applyAction_trans (R := fun u v => StabilityWf u → StabilityWf v) (fun _ => id) (fun k l => l ∘ k)
      (fun _ => stabilityWf_handOff p f _) (fun u hu => hu.frame (same_applyPass_ports p f _ u) (by decide)) o _
      (hr.frame (same_countHits _ _) (by decide))
  · exact h

theorem stabilityWf_updPort (p f) (h : StabilityWf s) : StabilityWf (s.updPort p f) :=
  h.frame (same_updPort p f s) (by cases p <;> decide)

theorem stabilityWf_presenceExpired (p) (h : StabilityWf s) : StabilityWf (presenceExpired p s) := by
  have ht : StabilityWf (relayLoses p (s.updPort p PortState.lose)) :=
    (stabilityWf_updPort p _ h).frame (same_relayLoses p _) (by decide)
  unfold presenceExpired
  dsimp only
  split
  · exact stabilityWf_triggerRestart ht
  · exact ht

theorem stabilityWf_reportTransmitted (p) (h : StabilityWf s) : StabilityWf (reportTransmitted p s) := by
  unfold reportTransmitted
  dsimp only
  split
  · exact stabilityWf_triggerRestart (stabilityWf_updPort p _ h)
  · exact stabilityWf_updPort p _ h

/-! ### The store's reports -/

theorem stabilityWf_commitSucceeded (w) (h : StabilityWf s) : StabilityWf (commitSucceeded w s) := by
  have hr : StabilityWf (reported w s) := h.frame (same_reported w s) (by decide)
  unfold commitSucceeded
  dsimp only
  split
  · have ha := stabilityWf_applySwap s.active (stabilityWf_stabilitySwap hr)
    unfold swapBlocks
    dsimp only
    split
    · exact stabilityWf_startChain _ ha
    · exact ha
  · exact hr.frame (same_holdSwap _ _) (by decide)

theorem stabilityWf_afterReport (h : StabilityWf s) : StabilityWf (afterReport s) := by
  unfold afterReport
  split
  · exact stabilityWf_beginRestart s
  · exact h.frame (same_followOn s) (by decide)

theorem stabilityWf_writeSucceeded (h : StabilityWf s) : StabilityWf (writeSucceeded s) := by
  unfold writeSucceeded
  split
  · exact h
  · refine stabilityWf_afterReport ?_
    split
    · exact stabilityWf_commitSucceeded _ h
    · exact (h.frame (same_written _ s) (by decide)).frame (same_updMgmt _ _) (by decide)

theorem stabilityWf_writeFailed (h : StabilityWf s) : StabilityWf (writeFailed s) := by
  unfold writeFailed
  split
  · exact h
  · have he : StabilityWf (endWrite (spoilStore s)) :=
      (h.frame (same_spoilStore s) (by decide)).frame (same_updMgmt _ _) (by decide)
    refine stabilityWf_afterReport ?_
    split
    · exact h.frame (same_commitFailed _ _ s) (by decide)
    · exact he.frame (same_openIncident _ _ _) (by decide)

/-! ### Every command -/

/-- Time stops no timer and changes no request. -/
theorem stabilityWf_elapse (h : StabilityWf s) (r : Nat) : StabilityWf (elapse r s) := by
  have stopped : ∀ {tm : Timer}, tm = none → runDown r tm = none := fun e => by rw [e]; rfl
  refine stabilityWf_of_pulses rfl ⟨fun hs => ?_, fun hs => stopped (h.recovers hs), h.pending⟩ fun c hc => ?_
  · obtain ⟨hnone, hw⟩ := h.tests hs
    exact ⟨hnone, stopped hw⟩
  · obtain ⟨htested, hheld, hlifted⟩ := h.pulses c hc
    rw [elapse_channel]
    exact ⟨htested, hheld, hlifted⟩

theorem stabilityWf_onExpiry (h : StabilityWf s) (tm : Timer) {f : State → State}
    (hf : ∀ e, StabilityWf e → StabilityWf (f e)) : StabilityWf (onExpiry tm f s) := by
  cases tm with
  | none => exact h
  | some r => exact hf _ (stabilityWf_elapse h r)

/-- An expiry whose effect lies within other parts. -/
theorem stabilityWf_expiry (h : StabilityWf s) (tm : Timer) {f : State → State} (hf : ∀ e, SameBut L e (f e))
    (d : ∀ p ∈ [Part.channels, .stability], p ∉ L) : StabilityWf (onExpiry tm f s) :=
  stabilityWf_onExpiry h tm fun e he => he.frame (hf e) d

/-- The recover timer expires in RECOVER alone (R137). -/
theorem stabilityWf_recoverExpiry (h : StabilityWf s) : StabilityWf (onExpiry s.stability.recover recovered s) := by
  by_cases hs : s.stability.state = .recover
  · cases hr : s.stability.recover with
    | none => exact h
    | some r => exact stabilityWf_recovered (stabilityWf_elapse h r) hs
  · rw [h.recovers hs]
    exact h

/-- Every command keeps the stability form. -/
theorem stabilityWf_exec (h : StabilityWf s) (i : Instr) : ∃ t, exec i s = .next t ∧ StabilityWf t := by
  have request := keptByRequestWork_stabilityWf.request h
  cases i with
  | frameReceived p f o => exact ⟨_, rfl, stabilityWf_receiveFrame p f o h⟩
  | presenceTimerExpiry p => exact ⟨_, rfl, stabilityWf_onExpiry h _ fun _ => stabilityWf_presenceExpired p⟩
  | linkReportTransmitted p r =>
    refine ⟨_, rfl, ?_⟩
    split
    · exact stabilityWf_reportTransmitted p h
    · exact h
  | linkReportNotSent p r =>
    refine ⟨_, rfl, ?_⟩
    split
    · exact stabilityWf_updPort p _ h
    · exact h
  | discoveryTimerExpiry => exact ⟨_, rfl, stabilityWf_expiry h _ same_discoveryExpired (by decide)⟩
  | warnTimerExpiry => exact ⟨_, rfl, stabilityWf_expiry h _ same_warnExpired (by decide)⟩
  | statusTimerExpiry => exact ⟨_, rfl, stabilityWf_expiry h _ same_statusExpired (by decide)⟩
  | tyreTimerExpiry => exact ⟨_, rfl, stabilityWf_expiry h _ same_tyreExpired (by decide)⟩
  | periodTimerExpiry o => exact ⟨_, rfl, stabilityWf_onExpiry h _ fun _ => stabilityWf_periodExpired o⟩
  | responseListReturn l o => exact ⟨_, rfl, stabilityWf_listReturned l o h⟩
  | stationaryTimerExpiry => exact ⟨_, rfl, stabilityWf_expiry h _ (same_updWheel _) (by decide)⟩
  | demandTimerExpiry =>
    exact ⟨_, rfl, stabilityWf_onExpiry h _ fun e he =>
      stabilityWf_reestablish (he.frame (same_updComposer _ e) (by decide))⟩
  | testWindowExpiry => exact ⟨_, rfl, stabilityWf_onExpiry h _ fun _ => stabilityWf_testWindow⟩
  | spacingTimerExpiry =>
    exact ⟨_, rfl, stabilityWf_onExpiry h _ fun _ he =>
      he.retimed rfl rfl rfl ⟨he.tests, he.recovers, he.pending⟩⟩
  | recoverTimerExpiry => exact ⟨_, rfl, stabilityWf_recoverExpiry h⟩
  | telegramDelivered b => exact ⟨_, rfl, stabilityWf_deliver b h⟩
  | telegramTaken => exact ⟨_, rfl, stabilityWf_takeTelegram h⟩
  | missingTimerExpiry i =>
    refine ⟨_, rfl, ?_⟩
    split
    · exact stabilityWf_onExpiry h _ fun _ => stabilityWf_missingExpired i
    · exact h
  | learnTimerExpiry => exact ⟨_, rfl, stabilityWf_onExpiry h _ fun _ => stabilityWf_endLearn⟩
  | lampBlinkToggle => exact ⟨_, rfl, stabilityWf_expiry h _ (same_updTyre _) (by decide)⟩
  | identify r => exact request r (1#8, _) (by simp [requestsOf])
  | read r => exact request r (2#8, _) (by simp [requestsOf])
  | enterService r => exact request r (3#8, _) (by simp [requestsOf])
  | leaveService r => exact request r (4#8, _) (by simp [requestsOf])
  | stage r => exact request r (5#8, _) (by simp [requestsOf])
  | commit r => exact request r (6#8, _) (by simp [requestsOf])
  | discard r => exact request r (7#8, _) (by simp [requestsOf])
  | clearIncidents r => exact request r (11#8, _) (by simp [requestsOf])
  | learnTyre r => exact request r (8#8, _) (by simp [requestsOf])
  | cancelLearn r => exact request r (9#8, _) (by simp [requestsOf])
  | serviceTest r => exact request r (10#8, _) (by simp [requestsOf])
  | restart r => exact request r (12#8, _) (by simp [requestsOf])
  | unknownRequest c r => exact ⟨_, rfl, keptByRequestWork_stabilityWf.unknown c r h⟩
  | serviceIdleTimerExpiry => exact ⟨_, rfl, stabilityWf_onExpiry h _ fun _ => stabilityWf_endService⟩
  | restartDelayExpiry => exact ⟨_, rfl, stabilityWf_onExpiry h _ fun _ => stabilityWf_triggerRestart⟩
  | storeWriteSucceeded => exact ⟨_, rfl, stabilityWf_writeSucceeded h⟩
  | storeWriteFailed => exact ⟨_, rfl, stabilityWf_writeFailed h⟩
  | coldStart v l => exact ⟨_, rfl, stabilityWf_coldStart v l s⟩
  | linkPowerOff v =>
    refine ⟨_, rfl, ?_⟩
    split
    · exact stabilityWf_powerOff v h
    · exact stabilityWf_updPower _ h
  | linkPowerOn => exact ⟨_, rfl, stabilityWf_powerOn h⟩
  | settleTimerExpiry =>
    exact ⟨_, rfl, stabilityWf_onExpiry h _ fun _ he => stabilityWf_startChain _ (stabilityWf_updPower _ he)⟩
  | parkTimerExpiry => exact ⟨_, rfl, stabilityWf_onExpiry h _ fun _ => stabilityWf_parkExpired⟩
  | wakeTimerExpiry => exact ⟨_, rfl, stabilityWf_onExpiry h _ fun _ => stabilityWf_wakeExpired⟩
  | wakeLineAsserted => exact ⟨_, rfl, stabilityWf_wakeLine h⟩
  | listenTimerExpiry => exact ⟨_, rfl, stabilityWf_onExpiry h _ fun _ => stabilityWf_listenExpired⟩
  | batterySampleTimerExpiry v => exact ⟨_, rfl, stabilityWf_onExpiry h _ fun _ => stabilityWf_sampleExpired v⟩
  | serviceTestTimerExpiry c =>
    refine ⟨_, rfl, ?_⟩
    split
    · exact stabilityWf_onExpiry h _ fun _ => stabilityWf_endTest c
    · exact h

/-- Settles O9: each change of the stability state brings its requests, holds and timers with it, and nothing else adds a
request of the unit's or moves a held channel. -/
theorem stepKeepsTheStabilityForm : Obligations.StepKeepsTheStabilityForm := by
  unfold Obligations.StepKeepsTheStabilityForm
  intro s t h e
  exact step_keeps (P := StabilityWf) (fun _ h => stabilityWf_elapse h 1) (fun _ _ h => { h with })
    (fun _ i h => stabilityWf_exec h i) h e

end Sys2Proof.Machine
end

section
/-! PROOFS. The rollover threshold (O35): the threshold table read at a load, the threshold that a severity leaves of it above
the floor (R120), and the completions at which the stability unit takes it (R121). -/

namespace Sys2Proof.Machine

variable {s t : State}

/-! ### The threshold table (R120) -/

section
variable {points : List (Nat × Nat)} {load floor : Nat}

theorem increasing_iff {l : List Nat} : increasing l = true ↔ l.Pairwise (· < ·) := by
  rw [← List.isChain_iff_pairwise]
  induction l with
  | nil => simp [increasing]
  | cons a l ih =>
    cases l with
    | nil => simp [increasing]
    | cons b l => simp [increasing, ih]

/-- The table is read from the last point at or below the load. -/
theorem tableFrom_drop {i : Nat} (hp : points.Pairwise (·.1 < ·.1)) (hi : i < points.length)
    (hl : points[i].1 ≤ load) : tableFrom points load = tableFrom (points.drop i) load := by
  induction points generalizing i with
  | nil => simp at hi
  | cons p rest ih =>
    cases i with
    | zero => rfl
    | succ i =>
      cases rest with
      | nil => simp at hi
      | cons q rest =>
        simp only [List.length_cons, Nat.add_lt_add_iff_right, List.getElem_cons_succ] at hi hl
        obtain ⟨-, hrest⟩ := List.pairwise_cons.mp hp
        have hq : q.1 ≤ ((q :: rest)[i]'hi).1 := by
          cases i with
          | zero => exact le_rfl
          | succ i => exact Nat.le_of_lt ((List.pairwise_cons.mp hrest).1 _ (List.getElem_mem _))
        rw [List.drop_succ_cons, ← ih hrest hi hl]
        exact if_neg (Nat.not_lt.mpr (hq.trans hl))

theorem tableFrom_of_segment {i : Nat} (hp : points.Pairwise (·.1 < ·.1)) (hi : i + 1 < points.length)
    (hl : points[i].1 ≤ load) (hr : load < points[i + 1].1) :
    tableFrom points load = interpolate points[i] points[i + 1] load := by
  rw [tableFrom_drop hp (by omega) hl, List.drop_eq_getElem_cons (by omega), List.drop_eq_getElem_cons hi]
  exact if_pos hr

theorem tableFrom_of_last {i : Nat} (hp : points.Pairwise (·.1 < ·.1)) (hi : i + 1 = points.length)
    (hl : points[i].1 ≤ load) : tableFrom points load = points[i].2 := by
  rw [tableFrom_drop hp (by omega) hl, List.drop_eq_getElem_cons (by omega), hi, List.drop_length]
  rfl

/-- Between two points the quotient truncated toward zero does not leave the interval of their values. -/
theorem floor_le_interpolate {p q : Nat × Nat} (hp : floor ≤ p.2) (hq : floor ≤ q.2) (hl : p.1 ≤ load) (hr : load < q.1) :
    (floor : Int) ≤ interpolate p q load := by
  have hpos : (0 : Int) < (q.1 : Int) - p.1 := by omega
  have hstep : (0 : Int) ≤ (load : Int) - p.1 := by omega
  unfold interpolate
  rcases Nat.le_total p.2 q.2 with hup | hdown
  · have h0 := Int.tdiv_nonneg (Int.mul_nonneg (by omega : (0 : Int) ≤ (q.2 : Int) - p.2) hstep) hpos.le
    omega
  · have hneg : ((q.2 : Int) - p.2) * ((load : Int) - p.1) = -(((p.2 : Int) - q.2) * ((load : Int) - p.1)) := by ring
    have hnum : (0 : Int) ≤ ((p.2 : Int) - q.2) * ((load : Int) - p.1) := Int.mul_nonneg (by omega) hstep
    have hle : (((p.2 : Int) - q.2) * ((load : Int) - p.1)) / ((q.1 : Int) - p.1) ≤ (p.2 : Int) - q.2 :=
      Int.ediv_le_of_le_mul hpos (Int.mul_le_mul_of_nonneg_left (by omega) (by omega))
    rw [hneg, Int.neg_tdiv, Int.tdiv_eq_ediv_of_nonneg hnum]
    omega

theorem floor_le_tableFrom (hne : points ≠ []) (hf : ∀ p ∈ points, floor ≤ p.2) (hl : ∀ p ∈ points.head?, p.1 ≤ load) :
    (floor : Int) ≤ tableFrom points load := by
  induction points with
  | nil => exact absurd rfl hne
  | cons p rest ih =>
    cases rest with
    | nil => exact Int.ofNat_le.mpr (hf p (by simp))
    | cons q rest =>
      unfold tableFrom
      split
      · next hr => exact floor_le_interpolate (hf p (by simp)) (hf q (by simp)) (hl p (by simp)) hr
      · next hr => exact ih (by simp) (fun x hx => hf x (List.mem_cons_of_mem _ hx)) (by simpa using hr)

/-- No table value lies below a floor of the points' values. -/
theorem floor_le_tableValue (hne : points ≠ []) (hf : ∀ p ∈ points, floor ≤ p.2) : (floor : Int) ≤ tableValue points load := by
  cases points with
  | nil => exact absurd rfl hne
  | cons p rest =>
    unfold tableValue
    dsimp only
    split
    · exact Int.ofNat_le.mpr (hf p (by simp))
    · next hl => exact floor_le_tableFrom hne hf (by simp; omega)

/-- At the first point and beyond, the table is read from the points. -/
theorem tableValue_eq_tableFrom (hl : ∀ p ∈ points.head?, p.1 < load) : tableValue points load = tableFrom points load := by
  cases points with
  | nil => rfl
  | cons p rest => exact if_neg (by simpa using hl)

/-- On a segment the table value is interpolated, its first end included. -/
theorem tableValue_of_segment {i : Nat} (hp : points.Pairwise (·.1 < ·.1)) (hi : i + 1 < points.length)
    (hl : points[i].1 ≤ load) (hr : load < points[i + 1].1) :
    tableValue points load = interpolate points[i] points[i + 1] load := by
  rw [← tableFrom_of_segment hp hi hl hr]
  cases points with
  | nil => simp at hi
  | cons p rest =>
    by_cases hfirst : load ≤ p.1
    · have hi0 : i = 0 := by
        by_contra hne
        have hlt := (List.pairwise_cons.mp hp).1 ((p :: rest)[i]) (by
          rw [List.getElem_cons, dif_neg hne]
          exact List.getElem_mem _)
        omega
      subst hi0
      rw [tableFrom_of_segment hp hi hl hr]
      have hload : (load : Int) - p.1 = 0 := by
        simp only [List.getElem_cons_zero] at hl
        omega
      simp [tableValue, hfirst, interpolate, hload]
    · exact if_neg hfirst

end

/-! ### The threshold of a record (R120) -/

theorem thresholdOf_eq_max (r : StabRec) (load : Nat) (sev : Severity) :
    (thresholdOf r load sev : Int) = max (r.aFloor : Int) (tableValue r.points load - reduction r sev) := by
  unfold thresholdOf
  omega

/-- What the checks of a STABILITY record say of its table: six points of rising load, none below the floor (R119). -/
theorem points_of_stabOk {r : StabRec} (h : stabOk r = true) :
    r.points.length = 6 ∧ r.points.Pairwise (·.1 < ·.1) ∧ ∀ p ∈ r.points, r.aFloor ≤ p.2 := by
  simp only [stabOk, Bool.and_eq_true, decide_eq_true_eq, List.all_eq_true] at h
  obtain ⟨⟨⟨-, hlen⟩, hinc⟩, hfloor⟩ := h
  exact ⟨hlen, List.pairwise_map.mp (increasing_iff.mp hinc), hfloor⟩

theorem thresholdOf_le_tableValue {r : StabRec} (h : stabOk r = true) (load : Nat) (sev : Severity) :
    (thresholdOf r load sev : Int) ≤ tableValue r.points load := by
  obtain ⟨hlen, -, hfloor⟩ := points_of_stabOk h
  have hf := floor_le_tableValue (load := load) (List.ne_nil_of_length_pos (by omega)) hfloor
  rw [thresholdOf_eq_max]
  omega

theorem point_eq_getElem {r : StabRec} {i : Nat} (h : i < r.points.length) : r.point i = r.points[i] :=
  List.getD_eq_getElem _ _ h

section
variable {r : StabRec} {load : Nat} (h : stabOk r = true)
include h

theorem tableValue_of_le_first (hl : load ≤ (r.point 0).1) : tableValue r.points load = (r.point 0).2 := by
  obtain ⟨hlen, -, -⟩ := points_of_stabOk h
  unfold StabRec.point at hl ⊢
  cases hp : r.points with
  | nil => simp [hp] at hlen
  | cons p rest =>
    rw [hp] at hl
    exact if_pos hl

theorem tableValue_of_segment_of_stabOk {i : Nat} (hi : i < 5) (hl : (r.point i).1 ≤ load) (hr : load < (r.point (i + 1)).1) :
    tableValue r.points load = interpolate (r.point i) (r.point (i + 1)) load := by
  obtain ⟨hlen, hrising, -⟩ := points_of_stabOk h
  rw [point_eq_getElem (by omega)] at hl hr ⊢
  rw [point_eq_getElem (by omega)]
  exact tableValue_of_segment hrising (by omega) hl hr

theorem tableValue_of_last_le (hl : (r.point 5).1 ≤ load) : tableValue r.points load = (r.point 5).2 := by
  obtain ⟨hlen, hrising, -⟩ := points_of_stabOk h
  rw [point_eq_getElem (by omega)] at hl ⊢
  rw [tableValue_eq_tableFrom, tableFrom_of_last hrising hlen.symm hl]
  intro p hp
  have hfirst : r.points[0]'(by omega) = p := by
    rw [List.head?_eq_getElem?, Option.mem_def, List.getElem?_eq_getElem (by omega)] at hp
    exact Option.some.inj hp
  rw [← hfirst]
  exact (List.pairwise_iff_getElem.mp hrising 0 5 (by omega) (by omega) (by omega)).trans_le hl

end

/-! ### The trailer-wide severity (R153) -/

theorem worse_eq_critical {a b : Severity} : a.worse b = .critical ↔ a = .critical ∨ b = .critical := by
  cases a <;> cases b <;> decide

theorem worse_eq_none {a b : Severity} : a.worse b = .none ↔ a = .none ∧ b = .none := by
  cases a <;> cases b <;> decide

theorem foldl_worse_eq_critical (f : Nat → Severity) (l : List Nat) (w : Severity) :
    l.foldl (fun w i => w.worse (f i)) w = .critical ↔ w = .critical ∨ ∃ i ∈ l, f i = .critical := by
  induction l generalizing w with
  | nil => simp
  | cons a l ih => simp [ih, worse_eq_critical, or_assoc]

theorem foldl_worse_eq_none (f : Nat → Severity) (l : List Nat) (w : Severity) :
    l.foldl (fun w i => w.worse (f i)) w = .none ↔ w = .none ∧ ∀ i ∈ l, f i = .none := by
  induction l generalizing w with
  | nil => simp
  | cons a l ih => simp [ih, worse_eq_none, and_assoc]

theorem severityOf_eq_critical (st : TyreState) : severityOf st = .critical ↔ st = .critical ∨ st = .leak := by
  cases st <;> decide

theorem severityOf_eq_none (st : TyreState) : severityOf st = .none ↔ st ≠ .critical ∧ st ≠ .leak ∧ st ≠ .low := by
  cases st <;> decide

theorem trailerSeverity_eq_critical (s : State) :
    trailerSeverity s = .critical ↔ ∃ i ∈ List.range 16, judged s i = .critical ∨ judged s i = .leak := by
  unfold trailerSeverity worstOf
  simp only [foldl_worse_eq_critical, severityOf_eq_critical, reduceCtorEq, false_or]

theorem trailerSeverity_eq_none (s : State) : trailerSeverity s = .none ↔
    ∀ i ∈ List.range 16, judged s i ≠ .critical ∧ judged s i ≠ .leak ∧ judged s i ≠ .low := by
  unfold trailerSeverity worstOf
  simp only [foldl_worse_eq_none, severityOf_eq_none, true_and]

/-! ### The completions that take it (R121) -/

theorem refFresh_iff {fresh : List Nat} : refFresh s fresh = true ↔ ∃ k, (inUse s).ref = some k ∧ k ∈ fresh := by
  unfold refFresh
  split <;> simp_all

/-- From s to t the load and severity in use, the threshold and its two levels stand. -/
structure LevelsKept (s t : State) : Prop where
  load      : t.stability.load = s.stability.load
  severity  : t.stability.severity = s.stability.severity
  threshold : t.stability.threshold = s.stability.threshold
  watch     : t.stability.watchLevel = s.stability.watchLevel
  release   : t.stability.releaseLevel = s.stability.releaseLevel

theorem LevelsKept.refl (s : State) : LevelsKept s s := ⟨rfl, rfl, rfl, rfl, rfl⟩

theorem LevelsKept.trans {u : State} (h : LevelsKept s t) (g : LevelsKept t u) : LevelsKept s u where
  load := g.load.trans h.load
  severity := g.severity.trans h.severity
  threshold := g.threshold.trans h.threshold
  watch := g.watch.trans h.watch
  release := g.release.trans h.release

theorem UnitKept.levelsKept (h : UnitKept s t) : LevelsKept s t :=
  ⟨h.load, h.severity, h.threshold, h.levels.1, h.levels.2⟩

theorem levelsKept_testOff (s : State) : LevelsKept s (testOff s) := (offOrKept_testOff s).levelsKept

theorem levelsKept_acknowledgeTest (side) (s : State) : LevelsKept s (acknowledgeTest side s) := by
  constructor <;> simp [acknowledgeTest]

theorem levelsKept_abandonTest (s : State) : LevelsKept s (abandonTest s) := by
  constructor <;> simp [abandonTest, endTestPulse]

theorem levelsKept_intervene (side) (s : State) : LevelsKept s (intervene side s) := by
  constructor <;> simp [intervene]

theorem levelsKept_enterRecover (s : State) : LevelsKept s (enterRecover s) := by
  constructor <;> simp [enterRecover, dropStabInt]

theorem levelsKept_moveTo (st) (s : State) : LevelsKept s (moveTo st s) := by
  constructor <;> simp [moveTo]

theorem levelsKept_considerTest (ay) (s : State) : LevelsKept s (considerTest ay s) := by
  unfold considerTest offerTest
  dsimp only
  split
  · exact ⟨rfl, rfl, rfl, rfl, rfl⟩
  · split
    · split
      · exact levelsKept_acknowledgeTest _ s
      · exact ⟨rfl, rfl, rfl, rfl, rfl⟩
    · exact .refl s

theorem levelsKept_endTestPulse (s : State) : LevelsKept s (endTestPulse s) := ⟨rfl, rfl, rfl, rfl, rfl⟩

theorem levelsKept_lift (s : State) : LevelsKept s (lift s) := by
  constructor <;> simp [lift, intervene, endTestPulse]

theorem levelsKept_evaluate (s : State) : LevelsKept s (evaluate s) := by
  unfold evaluate
  dsimp only
  split
  · exact (offOrKept_enterOff s).levelsKept
  · split
    case h_1 => exact levelsKept_moveTo _ s
    case h_2 =>
      split
      · exact levelsKept_intervene _ s
      · split
        · exact levelsKept_moveTo _ s
        · exact .refl s
    case h_3 =>
      split
      · exact levelsKept_intervene _ s
      · split
        · exact levelsKept_moveTo _ s
        · exact levelsKept_considerTest _ s
    case h_4 =>
      split
      · exact (levelsKept_endTestPulse s).trans (levelsKept_intervene _ _)
      · split
        · exact levelsKept_abandonTest s
        · exact .refl s
    case h_5 =>
      split
      · exact .refl s
      · exact levelsKept_enterRecover s
    case h_6 =>
      split
      · exact levelsKept_intervene _ s
      · exact .refl s

theorem levelsKept_workInState (s : State) : LevelsKept s (workInState s) := by
  have hr : LevelsKept s (removeDegraded s) := ⟨rfl, rfl, rfl, rfl, rfl⟩
  unfold workInState
  split
  case h_1 =>
    unfold workTest
    dsimp only
    split
    · exact hr.trans (levelsKept_abandonTest _)
    · split
      · exact hr.trans (levelsKept_lift _)
      · exact hr
  case h_2 =>
    unfold workWatch
    dsimp only
    split
    · exact .refl s
    · split
      · exact ⟨rfl, rfl, rfl, rfl, rfl⟩
      · split
        · exact levelsKept_acknowledgeTest _ s
        · exact .refl s
  all_goals exact .refl s

/-- The unit before its evaluation: the threshold is taken at a fresh REF reading (R121). -/
def retaken (fresh : Bool) (s : State) : State := if fresh then takeThreshold s else s

/-- Beside the taking of the threshold at a fresh REF reading, a completion leaves the levels as they are (R121). -/
theorem levelsKept_stabilityWork (fresh : Bool) (s : State) : LevelsKept (retaken fresh s) (stabilityWork fresh s) := by
  have hd : LevelsKept (retaken fresh s) (if fresh then evaluate (takeThreshold s) else testOff s) := by
    unfold retaken
    split
    · exact levelsKept_evaluate _
    · exact levelsKept_testOff s
  unfold stabilityWork
  dsimp only
  generalize (if fresh then evaluate (takeThreshold s) else testOff s) = v at hd ⊢
  split
  · exact hd.trans (levelsKept_workInState _)
  · exact hd

/-- Settles O35: the table by its segments, the threshold between floor and table value, and the completions that take it. -/
theorem thresholdFollowsTheTable : Obligations.ThresholdFollowsTheTable := by
  unfold Obligations.ThresholdFollowsTheTable
  constructor
  · intro r load sev h p a
    refine ⟨tableValue_of_le_first h, tableValue_of_last_le h, fun i hi hl hr => ?_, ?_, Nat.le_max_left _ _,
      thresholdOf_le_tableValue h load sev⟩
    · exact tableValue_of_segment_of_stabOk h (List.mem_range.mp hi) hl hr
    · rw [thresholdOf_eq_max]
      cases sev <;> rfl
  · intro s fresh before t n freshRef
    have hk : LevelsKept (retaken (refFresh s fresh) s) t := levelsKept_stabilityWork (refFresh s fresh) s
    refine ⟨fun hf => ?_, fun hf => ?_, trailerSeverity_eq_critical s, trailerSeverity_eq_none s⟩
    · rw [refFresh_iff.mpr hf] at hk
      exact ⟨hk.load, hk.severity, hk.threshold, hk.watch, hk.release⟩
    · rw [Bool.eq_false_iff.mpr (mt refFresh_iff.mp hf)] at hk
      exact ⟨hk.load, hk.severity, hk.threshold, hk.watch, hk.release⟩

end Sys2Proof.Machine
end

section
/-! PROOFS. What the ends of a test and of a recovery make of the stability unit, the channels and port A (R131, R133, R137,
R139), and the expiries of the test window and recover timers (O36). -/

namespace Sys2Proof.Machine

variable {s : State} {c : Nat}

/-! ### The STABILITY frame (R16, R139) -/

/-- The STABILITY frame of a change to a state with an inner side (R16, R139). -/
def stabilityReport (s : State) (st : StabState) (side : Side) : Queued :=
  { frame := { cls := 0x04, target := 0, origin := BitVec.ofNat 3 (s.relay.own.getD 7),
               data := [BitVec.ofNat 8 st.code] ++ beBytes 2 (code16 (lateral s)) ++ beBytes 2 s.stability.threshold ++
                 [BitVec.ofNat 8 side.code] },
    restart := false }

theorem changeStab_portA (st : StabState) (s : State) : (changeStab st s).portA = s.portA.enqueue .safety
    (stabilityReport s st (frameSide (s.updStab fun u => { u with state := st }))) := by
  show s.portA.enqueue .safety { frame := ownFrame _ clsStability 0 (stabilityData _), restart := false } = _
  rw [stabilityData, beBytes_one, beBytes_one]
  rfl

/-! ### Requests that a recomposition keeps -/

theorem eased_recompose (s : State) (hc : c ∈ channelNumbers) : (s.channel c).Eased ((recompose s).channel c) :=
  mapChannels_rel (s.updLoad fun _ => loadNow s) hc (.refl _) (eased_channelNow _ c _)

theorem Channel.Unpulsed.eased {a b : Channel} (h : a.Unpulsed) (e : a.Eased b) : b.Unpulsed where
  test := by
    by_contra hb
    exact e.test hb h.test
  hold := by
    by_contra hb
    simpa [h.hold] using e.hold (by simpa using hb)

theorem unpulsed_recompose (hc : c ∈ channelNumbers) (h : (s.channel c).Unpulsed) : ((recompose s).channel c).Unpulsed :=
  h.eased (eased_recompose s hc)

/-- A change of the stability state touches no channel. -/
theorem changeStab_channel (st : StabState) (s : State) (c : Nat) : (changeStab st s).channel c = s.channel c :=
  channel_congr ((same_changeStab st s).at .channels (by decide)) c

/-! ### The end of a test with no result (R131, R133) -/

theorem abandonTest_stability (s : State) : (abandonTest s).stability = { s.stability with
    state := .watch, testChannels := [], window := none, inner := .none, spacing := some s.active.stab.spacing } :=
  changeStab_stability _ _

theorem abandonTest_portA (s : State) :
    (abandonTest s).portA = s.portA.enqueue .safety (stabilityReport s .watch .none) := changeStab_portA _ _

/-- With the requests and holds of the test channels none is left but of a channel that had one without being one. -/
theorem abandonTest_unpulsed (hc : c ∈ channelNumbers) (h : c ∉ s.stability.testChannels → (s.channel c).Unpulsed) :
    ((abandonTest s).channel c).Unpulsed := by
  refine unpulsed_recompose hc ?_
  rw [changeStab_channel]
  exact unpulsed_testUnpulsed (s := s) hc h

/-! ### The end of a recovery (R137) -/

theorem recovered_stability (s : State) :
    (recovered s).stability = { s.stability with state := .armed, recover := none, inner := .none } :=
  changeStab_stability _ _

theorem recovered_portA (s : State) :
    (recovered s).portA = s.portA.enqueue .safety (stabilityReport s .armed .none) := changeStab_portA _ _

theorem recovered_incidents (s : State) :
    (recovered s).incidents = (closeIncident .stabilityIntervention 0 s).incidents :=
  (same_changeStab _ _).at .incidents (by decide)

/-- Settles O36: each expiry of a running timer is its effect once the time left has passed. -/
theorem stabilityTimersChangeTheState : Obligations.StabilityTimersChangeTheState := by
  unfold Obligations.StabilityTimersChangeTheState
  intro s r e report
  have windowExpiry : s.stability.window = some r → exec .testWindowExpiry s = .next
      (if s.stability.state = .test then abandonTest e else e.updStab fun u => { u with window := none }) := fun hw =>
    congrArg Host.Outcome.next (onExpiry_of_running hw _ s)
  refine ⟨fun hw hs => ⟨abandonTest e, ?_, abandonTest_stability e, fun c hc hm => ?_, abandonTest_portA e,
      same_abandonTest e⟩,
    fun hw hs => ⟨e.updStab fun u => { u with window := none }, ?_, rfl, same_updStab _ e⟩,
    fun hr => ⟨recovered e, ?_, recovered_stability e, recovered_incidents e, recovered_portA e, same_recovered e⟩⟩
  · rw [windowExpiry hw, if_pos hs]
  · obtain ⟨htest, hhold⟩ := abandonTest_unpulsed (s := e) hc fun hn => absurd hm hn
    exact ⟨htest, hhold⟩
  · rw [windowExpiry hw, if_neg hs]
  · exact congrArg Host.Outcome.next (onExpiry_of_running hr recovered s)

end Sys2Proof.Machine
end

section
/-! PROOFS. What an intervention and a test make of the stability unit and the channels (R129, R134), and the evaluations that
lead to them: at the threshold (O37), and between the watch level and the threshold (O38). -/

namespace Sys2Proof.Machine

variable {s t : State} {c : Nat}

/-! ### Values that a recomposition gives an existing channel (R91, R94, R110) -/

section
variable (six : s.channels.length = 6) (hc : c ∈ channelNumbers) (he : channelExists s c = true)
include six hc he

theorem recompose_pulse : ((recompose s).channel c).stabTest = (s.channel c).stabTest ∧
    ((recompose s).channel c).testHold = (s.channel c).testHold ∧
    ((recompose s).channel c).stabInt = (s.channel c).stabInt.map fun _ => ((recompose s).channel c).intervention := by
  rw [recompose_channel_of_six six hc]
  exact channelNow_pulse (s := s.updLoad fun _ => loadNow s) he (s.channel c)

theorem recompose_intervention : ((recompose s).channel c).intervention =
    derate s.active.tuning (channelSeverity s c)
      (characteristic (s.active.group (groupOf c)) ((recompose s).group (groupOf c)).lam s.active.stab.dInt) := by
  rw [recompose_channel_of_six six hc, channelNow_of_exists (s := s.updLoad fun _ => loadNow s) he]
  unfold channelTargeted
  dsimp only
  split <;> rfl

end

/-- A channel's target is no less than a request of the stability unit's that P_max allows (R110). -/
theorem request_le_target (hf : ChannelFollows s c) {p : Nat}
    (hp : (s.channel c).stabTest = some p ∨ (s.channel c).stabInt = some p) :
    min (pMaxOf s c) p ≤ (s.channel c).target := by
  have hreq : p ≤ greatestRequest (s.channel c) := by
    unfold greatestRequest
    rcases hp with h | h
    · rw [h, Option.getD_some]
      omega
    · rw [h, Option.getD_some]
      omega
  rw [hf.target]
  unfold targetOf
  split
  · exact Nat.min_le_left _ _
  · exact min_le_min_left _ hreq

theorem pMaxOf_congr (h : t.active = s.active) (c : Nat) : pMaxOf t c = pMaxOf s c := by
  unfold pMaxOf
  rw [h]

/-! ### An intervention (R134) -/

theorem intervene_stability (side : Side) (s : State) : (intervene side s).stability = { s.stability with
    state := .intervene, inner := side, spacing := none, recover := none, pendingTest := .none,
    interventions := satSucc 65535 s.stability.interventions } := by
  rw [intervene_eq, recompose_stability, changeStab_stability, openIncident_stability]
  rfl

theorem hasOpen_intervene (side : Side) (s : State) : HasOpen .stabilityIntervention 0 (intervene side s) := by
  refine (hasOpen_congr ?_ _ _).mpr (hasOpen_openIncident .stabilityIntervention 0 ((liftPulsed s).updStab fun u =>
    { u with spacing := none, recover := none, pendingTest := .none, inner := side,
             interventions := satSucc 65535 u.interventions }))
  exact (same_changeStab .intervene _).at .incidents (by decide)

/-- What an intervention gives an existing channel: its request is its intervention value, derated, and in its target. -/
structure Intervenes (s t : State) (c : Nat) : Prop where
  request : (t.channel c).stabInt = some (t.channel c).intervention
  value   : (t.channel c).intervention = derate s.active.tuning (channelSeverity s c)
    (characteristic (s.active.group (groupOf c)) (t.group (groupOf c)).lam s.active.stab.dInt)
  target  : min (pMaxOf s c) (t.channel c).intervention ≤ (t.channel c).target

theorem intervenes_intervene (side : Side) (six : s.channels.length = 6) (hc : c ∈ channelNumbers)
    (he : channelExists s c = true) : Intervenes s (intervene side s) c := by
  have hsame := same_intervene side s
  have hactive : (intervene side s).active = s.active := hsame.at .active (by decide)
  have htyre : (intervene side s).tyre = s.tyre := hsame.at .tyre (by decide)
  have hchain : (intervene side s).chain = s.chain := hsame.at .chain (by decide)
  have hlive : channelExists (intervene side s) c = true := (channelExists_congr (inUse_congr hactive hchain) c).trans he
  have hseverity := channelSeverity_congr hactive (judged_congr htyre) c
  rw [intervene_eq] at *
  generalize hw : changeStab .intervene _ = w at *
  have hchannels : w.channels = (liftPulsed s).channels := by
    rw [← hw, (same_changeStab _ _).at .channels (by decide), openIncident_channels]
    rfl
  have hsix : w.channels.length = 6 := by rw [hchannels]; exact (mapChannels_length _ s).trans six
  have hlift : (w.channel c).stabInt = some (s.channel c).intervention := by
    rw [channel_congr hchannels c, liftPulsed, mapChannels_channel_of_six six _ hc, if_pos he]
  obtain ⟨-, -, hint⟩ := recompose_pulse hsix hc hlive
  rw [hlift] at hint
  refine ⟨hint, ?_, ?_⟩
  · rw [recompose_intervention hsix hc hlive, ← hseverity, ← hactive]
    rfl
  · rw [← pMaxOf_congr hactive c]
    exact request_le_target (channelFollows_recompose hsix hc hlive) (.inr hint)

/-! ### An evaluation at the threshold (O37) -/

theorem sideOfAy_of_pos {a : Int} (h : 0 < a) : sideOfAy a = .left := if_pos h

theorem sideOfAy_of_neg {a : Int} (h : a < 0) : sideOfAy a = .right := by
  unfold sideOfAy
  rw [if_neg (by omega), if_pos h]

/-- The state in which an intervention finds the unit: a running test has ended. -/
def testEnded (s : State) : State := if s.stability.state = .test then endTestPulse s else s

theorem same_endTestPulse (s : State) : SameBut [.channels, .stability] s (endTestPulse s) :=
  (same_mapChannels _ s).comp (same_updStab _ _) (by decide) (by decide)

theorem same_testEnded (s : State) : SameBut [.channels, .stability] s (testEnded s) := by
  unfold testEnded
  split
  · exact same_endTestPulse s
  · exact .refl _ s

theorem testEnded_length (s : State) : (testEnded s).channels.length = s.channels.length := by
  unfold testEnded
  split
  · exact endTestPulse_length s
  · rfl

theorem evaluate_of_threshold (hon : offCondition s = false) (hoff : s.stability.state ≠ .off)
    (hint : s.stability.state ≠ .intervene) (h : s.stability.threshold ≤ (lateral s).natAbs) :
    evaluate s = intervene (sideOfAy (lateral s)) (testEnded s) := by
  unfold evaluate testEnded
  dsimp only
  rw [if_neg (by simp [hon])]
  split
  case h_1 e => exact absurd e hoff
  case h_4 e => rw [if_pos h, if_pos e]
  case h_5 e => exact absurd e hint
  all_goals
    next e => rw [if_pos h, if_neg (by simp [e])]

/-- What an intervention's inputs are after the end of a test. -/
theorem Intervenes.of_same {u : State} (h : Intervenes u t c) (hactive : u.active = s.active) (htyre : u.tyre = s.tyre) :
    Intervenes s t c where
  request := h.request
  value := by
    rw [h.value, hactive, channelSeverity_congr hactive (judged_congr htyre)]
  target := (pMaxOf_congr hactive c) ▸ h.target

/-- Settles O37: an evaluation at the threshold is an intervention, a running test ended before it. -/
theorem evaluationIntervenesAtTheThreshold : Obligations.EvaluationIntervenesAtTheThreshold := by
  unfold Obligations.EvaluationIntervenesAtTheThreshold
  intro s six hon hoff hint hthreshold t
  have ht : t = intervene (sideOfAy (lateral s)) (testEnded s) := evaluate_of_threshold hon hoff hint hthreshold
  have hs : t.stability = _ := (congrArg State.stability ht).trans (intervene_stability _ _)
  have hsame := same_testEnded s
  have hactive : (testEnded s).active = s.active := hsame.at .active (by decide)
  have htyre : (testEnded s).tyre = s.tyre := hsame.at .tyre (by decide)
  have hchain : (testEnded s).chain = s.chain := hsame.at .chain (by decide)
  have hcounts : (testEnded s).stability.interventions = s.stability.interventions ∧
      (testEnded s).stability.tests = s.stability.tests ∧ (testEnded s).stability.lifts = s.stability.lifts := by
    unfold testEnded
    split <;> exact ⟨rfl, rfl, rfl⟩
  obtain ⟨hinterventions, htests, hlifts⟩ := hcounts
  refine ⟨by rw [hs], fun ha => ?_, fun ha => ?_, by rw [hs], by rw [hs], by rw [hs], ?_, fun htest => ?_, ?_, ?_,
    fun c hc he => ?_, ht ▸ hasOpen_intervene _ _, same_evaluate s⟩
  · rw [hs]
    exact sideOfAy_of_pos ha
  · rw [hs]
    exact sideOfAy_of_neg ha
  · rw [hs, hinterventions]
  · rw [hs, testEnded, if_pos htest]
    exact ⟨rfl, rfl⟩
  · rw [hs, htests]
  · rw [hs, hlifts]
  · have hlive : channelExists (testEnded s) c = true := (channelExists_congr (inUse_congr hactive hchain) c).trans he
    obtain ⟨hrequest, hvalue, htarget⟩ : Intervenes s t c := by
      rw [ht]
      exact (intervenes_intervene _ ((testEnded_length s).trans six) hc hlive).of_same hactive htyre
    exact ⟨hrequest, hvalue, fun hp => by rwa [min_eq_right hp] at htarget⟩

/-! ### A test (R126 to R129) -/

theorem acknowledgeTest_stability (side : Side) (s : State) : (acknowledgeTest side s).stability = { s.stability with
    state := .test, inner := side, pendingTest := .none, testChannels := candidates s side,
    window := some s.active.stab.window, tests := satSucc 65535 s.stability.tests } := by
  rw [acknowledgeTest_eq, recompose_stability, changeStab_stability]
  rfl

/-- What a test gives a test channel: request and hold, the request in its target. -/
theorem acknowledgeTest_channel {side : Side} (six : s.channels.length = 6) (hm : c ∈ candidates s side) :
    ((acknowledgeTest side s).channel c).stabTest = some s.active.stab.pTest ∧
      ((acknowledgeTest side s).channel c).testHold = true ∧
      min (pMaxOf s c) s.active.stab.pTest ≤ ((acknowledgeTest side s).channel c).target := by
  have hsame := same_acknowledgeTest side s
  have hactive : (acknowledgeTest side s).active = s.active := hsame.at .active (by decide)
  have hchain : (acknowledgeTest side s).chain = s.chain := hsame.at .chain (by decide)
  obtain ⟨hc, -, he, -⟩ := mem_candidates.mp hm
  have hlive : channelExists (acknowledgeTest side s) c = true :=
    (channelExists_congr (inUse_congr hactive hchain) c).trans he
  rw [acknowledgeTest_eq] at *
  generalize hw : changeStab .test _ = w at *
  have hchannels : w.channels = (testPulsed side s).channels := by
    rw [← hw, (same_changeStab _ _).at .channels (by decide)]
    rfl
  have hsix : w.channels.length = 6 := by rw [hchannels]; exact (mapChannels_length _ s).trans six
  have hpulsed : w.channel c = { s.channel c with testHold := true, stabTest := some s.active.stab.pTest } := by
    rw [channel_congr hchannels c, testPulsed, mapChannels_channel_of_six six _ hc, if_pos hm]
  obtain ⟨htest, hhold, -⟩ := recompose_pulse hsix hc hlive
  rw [hpulsed] at htest hhold
  refine ⟨htest, hhold, ?_⟩
  rw [← pMaxOf_congr hactive c]
  exact request_le_target (channelFollows_recompose hsix hc hlive) (.inl htest)

/-! ### An evaluation that considers a test (O38) -/

theorem evaluate_of_watch (hon : offCondition s = false) (hs : s.stability.state = .watch)
    (hl : s.stability.watchLevel ≤ (lateral s).natAbs) (hu : (lateral s).natAbs < s.stability.threshold) :
    evaluate s = considerTest (lateral s) s := by
  unfold evaluate
  dsimp only
  rw [if_neg (by simp [hon]), hs]
  dsimp only
  rw [if_neg (by omega), if_neg (by omega)]

theorem considerTest_of_request {ay : Int} (hspacing : s.stability.spacing = none) (hpending : s.stability.pendingTest = .none)
    (hne : candidates s (sideOfAy ay) ≠ []) : considerTest ay s = offerTest (sideOfAy ay) s := by
  unfold considerTest
  simp [hspacing, hpending, hne]

/-- Settles O38: the evaluation offers a test of the inner side, which starts on channels in FOLLOW or is held pending. -/
theorem evaluationStartsATest : Obligations.EvaluationStartsATest := by
  unfold Obligations.EvaluationStartsATest
  intro s side chans six hon hs hl hu hspacing hpending hne t
  have ht : t = offerTest side s :=
    (evaluate_of_watch hon hs hl hu).trans (considerTest_of_request hspacing hpending hne)
  constructor
  · intro hf
    have hstart : t = acknowledgeTest side s := ht.trans (if_pos (allFollow_iff.mpr hf))
    refine ⟨?_, fun c hc => ?_, ?_⟩
    · rw [hstart, acknowledgeTest_stability, ← hpending]
      rfl
    · rw [hstart]
      exact acknowledgeTest_channel six hc
    · rw [hstart]
      exact same_acknowledgeTest side s
  · rintro ⟨c, hc, hslips⟩
    have hheld : t = s.updStab fun u => { u with pendingTest := side } :=
      ht.trans (if_neg fun hf => hslips (allFollow_iff.mp hf c hc))
    rw [hheld]
    exact ⟨rfl, same_updStab _ s⟩

end Sys2Proof.Machine
end

section
/-! PROOFS. The stability unit's work at a completion (O39): the evaluation of a fresh REF record by the state it finds (R124 to
R126, R132, R136, R137), and the work on a running or a pending test where the state has not changed (R128, R130, R132). -/

namespace Sys2Proof.Machine

variable {s t u : State} {c : Nat} {fresh : Bool}

/-! ### The completion around the evaluation (R123, R124) -/

/-- The unit after the evaluation of a fresh REF record, or the test of the OFF conditions without one. -/
def evaluated (fresh : Bool) (u : State) : State := if fresh then evaluate u else testOff u

/-- The unit's work once the threshold is taken. -/
def worked (fresh : Bool) (u : State) : State :=
  if (evaluated fresh u).stability.state = u.stability.state then workInState (evaluated fresh u) else evaluated fresh u

theorem stabilityWork_eq_worked (fresh : Bool) (s : State) : stabilityWork fresh s = worked fresh (retaken fresh s) := by
  have hstate : (retaken fresh s).stability.state = s.stability.state := by cases fresh <;> rfl
  have hevaluated : evaluated fresh (retaken fresh s) = if fresh then evaluate (takeThreshold s) else testOff s := by
    cases fresh <;> simp [evaluated, retaken]
  unfold stabilityWork worked
  rw [hevaluated, hstate]

/-- A change of state ends the unit's work at the completion (R124). -/
theorem worked_of_moved (h : (evaluated fresh u).stability.state ≠ u.stability.state) : worked fresh u = evaluated fresh u :=
  if_neg h

theorem worked_of_changed (h : evaluated fresh u = t) (ht : t.stability.state ≠ u.stability.state) : worked fresh u = t := by
  subst h
  exact worked_of_moved ht

/-- Without one the unit works on its state (R124). -/
theorem worked_of_stayed (h : evaluated fresh u = t) (ht : t.stability.state = u.stability.state) :
    worked fresh u = workInState t := by
  subst h
  exact if_pos ht

theorem workInState_of_idle (ht : u.stability.state ≠ .test) (hw : u.stability.state ≠ .watch) : workInState u = u := by
  unfold workInState
  split
  case h_1 e => exact absurd e ht
  case h_2 e => exact absurd e hw
  all_goals rfl

theorem worked_of_idle (h : evaluated fresh u = u) (ht : u.stability.state ≠ .test) (hw : u.stability.state ≠ .watch) :
    worked fresh u = u := (worked_of_stayed h rfl).trans (workInState_of_idle ht hw)

theorem evaluated_of_off (h : offCondition u = true) : evaluated fresh u = enterOff u := by
  unfold evaluated evaluate testOff
  simp [h]

theorem evaluated_of_stale (h : offCondition u = false) : evaluated false u = u := by
  unfold evaluated testOff
  simp [h]

theorem worked_of_off_of_off (h : offCondition u = true) (hs : u.stability.state = .off) : worked fresh u = u :=
  worked_of_idle ((evaluated_of_off h).trans (enterOff_of_off hs)) (by simp [hs]) (by simp [hs])

theorem worked_of_off (h : offCondition u = true) (hs : u.stability.state ≠ .off) : worked fresh u = enterOff u :=
  worked_of_changed (evaluated_of_off h) fun e => hs (e.symm.trans (enterOff_state u))

/-- OFF ends the incident and every request and hold of the unit's (R122). -/
theorem enterOff_ends (hs : u.stability.state ≠ .off) : ¬ HasOpen .stabilityIntervention 0 (enterOff u) ∧
    ∀ c ∈ channelNumbers, ((enterOff u).channel c).Unpulsed ∧ ((enterOff u).channel c).stabInt = none := by
  have hincidents : (enterOff u).incidents = (closeIncident .stabilityIntervention 0 u).incidents := by
    unfold enterOff
    rw [if_neg hs]
    exact (same_changeStab .off _).at .incidents (by decide)
  refine ⟨fun h => not_hasOpen_closeIncident _ _ u ((hasOpen_congr hincidents _ _).mp h), ?_⟩
  · intro c hc
    unfold enterOff
    rw [if_neg hs]
    dsimp only
    have hclear : ((dropStabInt (dropStabTest u)).channel c).Unpulsed ∧
        ((dropStabInt (dropStabTest u)).channel c).stabInt = none := by
      refine mapChannels_rel (R := fun a b => a.Unpulsed → b.Unpulsed ∧ b.stabInt = none)
        (f := fun _ ch => { ch with stabInt := none }) (dropStabTest u) hc (fun h => ⟨h, rfl⟩)
        (fun h => ⟨⟨h.test, h.hold⟩, rfl⟩) (unpulsed_dropStabTest u hc)
    refine ⟨unpulsed_recompose hc ?_, (eased_recompose _ hc).int ?_⟩
    · rw [changeStab_channel]
      exact hclear.1
    · rw [changeStab_channel]
      exact hclear.2

/-! ### The evaluation by the state it finds (R124 to R126, R132, R136, R137) -/

section
variable (hon : offCondition u = false)
include hon

theorem evaluate_of_off (hs : u.stability.state = .off) : evaluate u = moveTo .armed u := by
  unfold evaluate
  simp [hon, hs]

theorem evaluate_of_armed (hs : u.stability.state = .armed) (hu : (lateral u).natAbs < u.stability.threshold) :
    evaluate u = if u.stability.watchLevel ≤ (lateral u).natAbs then moveTo .watch u else u := by
  unfold evaluate
  simp [hon, hs, Nat.not_le.mpr hu]

theorem evaluate_of_below_watch (hs : u.stability.state = .watch) (hu : (lateral u).natAbs < u.stability.threshold)
    (hw : (lateral u).natAbs < u.stability.watchLevel) : evaluate u = moveTo .armed u := by
  unfold evaluate
  simp [hon, hs, Nat.not_le.mpr hu, hw]

theorem evaluate_of_test (hs : u.stability.state = .test) (hu : (lateral u).natAbs < u.stability.threshold) :
    evaluate u = if reversed u.stability.inner (lateral u) then abandonTest u else u := by
  unfold evaluate
  simp [hon, hs, Nat.not_le.mpr hu]

theorem evaluate_of_intervene (hs : u.stability.state = .intervene) :
    evaluate u = if u.stability.releaseLevel ≤ (lateral u).natAbs then u else enterRecover u := by
  unfold evaluate
  simp [hon, hs]

theorem evaluate_of_recover (hs : u.stability.state = .recover) (hu : (lateral u).natAbs < u.stability.threshold) :
    evaluate u = u := by
  unfold evaluate
  simp [hon, hs, Nat.not_le.mpr hu]

end

theorem reversed_iff (side : Side) (ay : Int) :
    reversed side ay = true ↔ (side = .left ∧ ay < 0) ∨ (side = .right ∧ 0 < ay) := by
  simp [reversed]

theorem moveTo_stability (st : StabState) (s : State) :
    (moveTo st s).stability = { s.stability with state := st, pendingTest := .none } := changeStab_stability _ _

theorem enterRecover_stability (s : State) : (enterRecover s).stability =
    { s.stability with state := .recover, recover := some s.active.stab.recover } := changeStab_stability _ _

/-- The release of an intervention removes its requests (R136). -/
theorem enterRecover_stabInt (hc : c ∈ channelNumbers) : ((enterRecover s).channel c).stabInt = none := by
  refine (eased_recompose _ hc).int ?_
  rw [changeStab_channel]
  exact mapChannels_rel (R := fun _ b => b.stabInt = none) (f := fun _ ch => { ch with stabInt := none }) s hc rfl rfl

/-! ### A pending test (R128) -/

theorem side_eq_sideOfAy_iff {side : Side} (hne : side ≠ .none) (ay : Int) :
    side = sideOfAy ay ↔ (side = .left ∧ 0 < ay) ∨ (side = .right ∧ ay < 0) := by
  unfold sideOfAy
  cases side with
  | none => exact absurd rfl hne
  | left =>
    split
    · simp_all
    · split <;> simp_all
  | right =>
    split
    · simp; omega
    · split <;> simp_all

theorem considerTest_of_other {ay : Int} (hne : u.stability.pendingTest ≠ .none) (h : u.stability.pendingTest ≠ sideOfAy ay) :
    considerTest ay u = u.updStab fun x => { x with pendingTest := .none } := by
  unfold considerTest
  simp [hne, h]

theorem considerTest_of_pending {ay : Int} (hne : u.stability.pendingTest ≠ .none) (h : u.stability.pendingTest = sideOfAy ay) :
    considerTest ay u = u := by
  unfold considerTest
  simp [hne, ← h]

theorem workInState_of_watch (hs : u.stability.state = .watch) : workInState u = workWatch u := by
  unfold workInState
  rw [hs]

theorem workWatch_of_none (h : u.stability.pendingTest = .none) : workWatch u = u := if_pos h

section
variable (hne : u.stability.pendingTest ≠ .none)
include hne

theorem workWatch_of_empty (h : candidates u u.stability.pendingTest = []) :
    workWatch u = u.updStab fun x => { x with pendingTest := .none } := by
  unfold workWatch
  simp [hne, h]

theorem workWatch_of_follow (hc : candidates u u.stability.pendingTest ≠ [])
    (h : ∀ c ∈ candidates u u.stability.pendingTest, (u.channel c).slipState = .follow) :
    workWatch u = acknowledgeTest u.stability.pendingTest u := by
  unfold workWatch
  simp [hne, hc, allFollow_iff.mpr h]

theorem workWatch_of_slip (h : ∃ c ∈ candidates u u.stability.pendingTest, (u.channel c).slipState ≠ .follow) :
    workWatch u = u := by
  obtain ⟨c, hc, hslips⟩ := h
  have hnot : ¬ allFollow u (candidates u u.stability.pendingTest) = true := fun hf => hslips (allFollow_iff.mp hf c hc)
  unfold workWatch
  simp [hne, List.ne_nil_of_mem hc, hnot]

end

/-! ### A running test (R130, R132) -/

/-- The test channels whose MOD node is NORMAL (R132). -/
def normalTests (s : State) : List Nat := s.stability.testChannels.filter fun c => !(channelNode s c).degraded

theorem removeDegraded_stability (s : State) :
    (removeDegraded s).stability = { s.stability with testChannels := normalTests s } := by
  have hfilter : s.stability.testChannels.filter (fun c => !(degradedTests s).contains c) = normalTests s :=
    List.filter_congr fun c hc => by simp [degradedTests, hc]
  rw [removeDegraded_eq, recompose_stability, ← hfilter]
  rfl

theorem removeDegraded_testChannels (s : State) : (removeDegraded s).stability.testChannels = normalTests s :=
  congrArg Stability.testChannels (removeDegraded_stability s)

theorem testUnpulsed_length (l : List Nat) (s : State) : (testUnpulsed l s).channels.length = s.channels.length :=
  mapChannels_length _ s

theorem removeDegraded_length (s : State) : (removeDegraded s).channels.length = s.channels.length := by
  rw [removeDegraded_eq, recompose_length]
  exact testUnpulsed_length _ s

theorem removeDegraded_active (s : State) : (removeDegraded s).active = s.active :=
  (same_removeDegraded s).at .active (by decide)

/-- A test channel that leaves the test loses its request and hold. -/
theorem removeDegraded_unpulsed (hc : c ∈ channelNumbers) (hm : c ∈ s.stability.testChannels) (hn : c ∉ normalTests s) :
    ((removeDegraded s).channel c).Unpulsed := by
  have hd : c ∈ degradedTests s := by
    simp only [degradedTests, normalTests, List.mem_filter, hm, true_and] at hn ⊢
    simpa using hn
  exact unpulsed_recompose (s := (testUnpulsed (degradedTests s) s).updStab _) hc
    (unpulsed_testUnpulsed hc fun hnot => absurd hd hnot)

theorem recompose_slip (six : s.channels.length = 6) (hc : c ∈ channelNumbers) (he : channelExists s c = true) :
    ((recompose s).channel c).slip = (s.channel c).slip := by
  rw [recompose_channel_of_six six hc, channelNow_of_exists (s := s.updLoad fun _ => loadNow s) he]
  unfold channelTargeted
  dsimp only
  split <;> rfl

/-- The slip of an existing channel is nothing to the end of its test. -/
theorem removeDegraded_slip (six : s.channels.length = 6) (hc : c ∈ channelNumbers) (he : channelExists s c = true) :
    ((removeDegraded s).channel c).slip = (s.channel c).slip := by
  have hslip : ((testUnpulsed (degradedTests s) s).channel c).slip = (s.channel c).slip :=
    mapChannels_read Channel.slip _ (fun c ch => by split <;> rfl) s c
  have hsix : (testUnpulsed (degradedTests s) s).channels.length = 6 := (testUnpulsed_length _ s).trans six
  exact (recompose_slip (s := (testUnpulsed (degradedTests s) s).updStab fun u =>
    { u with testChannels := u.testChannels.filter fun c => !(degradedTests s).contains c }) hsix hc he).trans hslip

theorem liftFound_iff : liftFound s = true ↔ ∃ c ∈ s.stability.testChannels, s.active.stab.sLift ≤ (s.channel c).slip := by
  simp [liftFound]

/-- A lift ends the test with a result and intervenes on its side (R130). -/
theorem lift_stability (s : State) : (lift s).stability = { s.stability with
    state := .intervene, testChannels := [], window := none, spacing := none, recover := none, pendingTest := .none,
    lifts := satSucc 65535 s.stability.lifts, interventions := satSucc 65535 s.stability.interventions } :=
  intervene_stability _ _

theorem hasOpen_lift (s : State) : HasOpen .stabilityIntervention 0 (lift s) := hasOpen_intervene _ _

theorem intervene_unpulsed {side : Side} (hc : c ∈ channelNumbers) (h : (s.channel c).Unpulsed) :
    ((intervene side s).channel c).Unpulsed := by
  rw [intervene_eq]
  refine unpulsed_recompose hc ?_
  rw [changeStab_channel, channel_congr (openIncident_channels _ _ _)]
  exact unpulsed_liftPulsed hc h

theorem lift_unpulsed (hc : c ∈ channelNumbers) (h : c ∉ s.stability.testChannels → (s.channel c).Unpulsed) :
    ((lift s).channel c).Unpulsed :=
  intervene_unpulsed (s := (endTestPulse s).updStab _) hc (unpulsed_testUnpulsed (s := s) hc h)

theorem lift_stabInt (six : s.channels.length = 6) (hc : c ∈ channelNumbers) (he : channelExists s c = true) :
    ((lift s).channel c).stabInt = some ((lift s).channel c).intervention :=
  (intervenes_intervene (s := (endTestPulse s).updStab _) _ ((endTestPulse_length s).trans six) hc he).request

theorem workInState_of_test (hs : u.stability.state = .test) : workInState u = workTest u := by
  unfold workInState
  rw [hs]

theorem workTest_of_empty (h : normalTests u = []) : workTest u = abandonTest (removeDegraded u) := by
  unfold workTest
  simp [removeDegraded_testChannels, h]

section
variable (six : u.channels.length = 6)
  (hlive : ∀ c ∈ u.stability.testChannels, c ∈ channelNumbers ∧ channelExists u c = true)
include six hlive

/-- A lift is found at a NORMAL test channel's slip (R130). -/
theorem liftFound_removeDegraded : liftFound (removeDegraded u) = true ↔
    ∃ c ∈ normalTests u, u.active.stab.sLift ≤ (u.channel c).slip := by
  rw [liftFound_iff, removeDegraded_testChannels]
  refine exists_congr fun c => and_congr_right fun hc => ?_
  obtain ⟨hnumber, hexists⟩ := hlive c (List.mem_of_mem_filter hc)
  rw [removeDegraded_slip six hnumber hexists]
  rfl

theorem workTest_of_no_lift (hne : normalTests u ≠ []) (h : ∀ c ∈ normalTests u, (u.channel c).slip < u.active.stab.sLift) :
    workTest u = removeDegraded u := by
  have hnot : ¬ liftFound (removeDegraded u) = true := fun hl =>
    have ⟨c, hc, hslip⟩ := (liftFound_removeDegraded six hlive).mp hl
    absurd (h c hc) (Nat.not_lt.mpr hslip)
  unfold workTest
  simp [removeDegraded_testChannels, hne, hnot]

theorem workTest_of_lift (h : ∃ c ∈ normalTests u, u.active.stab.sLift ≤ (u.channel c).slip) :
    workTest u = lift (removeDegraded u) := by
  have hne : normalTests u ≠ [] := have ⟨_, hc, _⟩ := h; List.ne_nil_of_mem hc
  unfold workTest
  simp [removeDegraded_testChannels, hne, (liftFound_removeDegraded six hlive).mpr h]

end

/-- Whatever the work on a test finds, a channel that has left it carries no request and hold (R132). -/
theorem workTest_unpulsed (hc : c ∈ channelNumbers) (hm : c ∈ s.stability.testChannels) (hn : c ∉ normalTests s) :
    ((workTest s).channel c).Unpulsed := by
  have hr := removeDegraded_unpulsed hc hm hn
  unfold workTest
  dsimp only
  split
  · exact abandonTest_unpulsed hc fun _ => hr
  · split
    · exact lift_unpulsed hc fun _ => hr
    · exact hr

/-! ### The threshold taken before (R121) -/

/-- From s to u the stability unit's levels alone differ. -/
structure Relevelled (s u : State) : Prop where
  rest          : u = { s with stability := u.stability }
  state         : u.stability.state = s.stability.state
  inner         : u.stability.inner = s.stability.inner
  pending       : u.stability.pendingTest = s.stability.pendingTest
  testChannels  : u.stability.testChannels = s.stability.testChannels
  tests         : u.stability.tests = s.stability.tests
  lifts         : u.stability.lifts = s.stability.lifts
  interventions : u.stability.interventions = s.stability.interventions

theorem relevelled_retaken (fresh : Bool) (s : State) : Relevelled s (retaken fresh s) := by
  cases fresh <;> exact ⟨rfl, rfl, rfl, rfl, rfl, rfl, rfl, rfl⟩

/-- What is no reading of the stability unit reads the same. -/
theorem Relevelled.read {α : Type} (h : Relevelled s u) (f : State → α)
    (hf : ∀ x : Stability, f { s with stability := x } = f s) : f u = f s := by
  rw [h.rest]
  exact hf _

theorem offCondition_iff (s : State) : offCondition s = true ↔
    s.active.stab.enable = false ∨ s.composer.mode = .fallback ∨ refDegraded s = true ∨
      s.wheel.reference < s.active.stab.vMin := by
  simp [offCondition, or_assoc]

section
variable (h : Relevelled s u)
include h

theorem Relevelled.lateral : lateral u = lateral s := h.read Machine.lateral fun _ => rfl

theorem Relevelled.active : u.active = s.active := h.read State.active fun _ => rfl

theorem Relevelled.length : u.channels.length = s.channels.length := h.read (·.channels.length) fun _ => rfl

theorem Relevelled.channel (c : Nat) : u.channel c = s.channel c := h.read (·.channel c) fun _ => rfl

theorem Relevelled.channelExists (c : Nat) : channelExists u c = channelExists s c :=
  h.read (Machine.channelExists · c) fun _ => rfl

theorem Relevelled.offCondition : offCondition u = offCondition s := h.read Machine.offCondition fun _ => rfl

theorem Relevelled.candidates : candidates u u.stability.pendingTest = candidates s s.stability.pendingTest := by
  rw [h.pending]
  exact h.read (Machine.candidates · s.stability.pendingTest) fun _ => rfl

theorem Relevelled.normalTests : normalTests u = normalTests s := by
  unfold Machine.normalTests
  rw [h.testChannels]
  exact h.read (fun x => s.stability.testChannels.filter fun c => !(channelNode x c).degraded) fun _ => rfl

end

end Sys2Proof.Machine
end

section
/-! PROOFS. What the stability unit's work at a completion comes to by the state it finds (O39). -/

namespace Sys2Proof.Machine

variable {s t u : State} {c : Nat} {fresh : Bool}

/-! ### The work by the state it finds (R124 to R126, R128, R130, R132, R136, R137) -/

section
variable (hon : offCondition u = false)
include hon

theorem worked_of_stale_idle (ht : u.stability.state ≠ .test)
    (hw : u.stability.state ≠ .watch ∨ u.stability.pendingTest = .none) : worked false u = u := by
  rw [worked_of_stayed (evaluated_of_stale hon) rfl]
  by_cases hs : u.stability.state = .watch
  · rw [workInState_of_watch hs]
    exact workWatch_of_none (hw.resolve_left (not_not_intro hs))
  · exact workInState_of_idle ht hs

theorem worked_arms (hs : u.stability.state = .off) : worked true u = moveTo .armed u :=
  worked_of_changed (evaluate_of_off hon hs) (by simp [moveTo_stability, hs])

theorem worked_watches (hs : u.stability.state = .armed) (hu : (lateral u).natAbs < u.stability.threshold)
    (hw : u.stability.watchLevel ≤ (lateral u).natAbs) : worked true u = moveTo .watch u :=
  worked_of_changed ((evaluate_of_armed hon hs hu).trans (if_pos hw)) (by simp [moveTo_stability, hs])

theorem worked_stays_armed (hs : u.stability.state = .armed) (hu : (lateral u).natAbs < u.stability.threshold)
    (hw : (lateral u).natAbs < u.stability.watchLevel) : worked true u = u :=
  worked_of_idle ((evaluate_of_armed hon hs hu).trans (if_neg (Nat.not_le.mpr hw))) (by simp [hs]) (by simp [hs])

theorem worked_returns (hs : u.stability.state = .watch) (hu : (lateral u).natAbs < u.stability.threshold)
    (hw : (lateral u).natAbs < u.stability.watchLevel) : worked true u = moveTo .armed u :=
  worked_of_changed (evaluate_of_below_watch hon hs hu hw) (by simp [moveTo_stability, hs])

theorem worked_intervenes_on (hs : u.stability.state = .intervene) (hr : u.stability.releaseLevel ≤ (lateral u).natAbs) :
    worked true u = u :=
  worked_of_idle ((evaluate_of_intervene hon hs).trans (if_pos hr)) (by simp [hs]) (by simp [hs])

theorem worked_releases (hs : u.stability.state = .intervene) (hr : (lateral u).natAbs < u.stability.releaseLevel) :
    worked true u = enterRecover u :=
  worked_of_changed ((evaluate_of_intervene hon hs).trans (if_neg (Nat.not_le.mpr hr)))
    (by simp [enterRecover_stability, hs])

theorem worked_recovers (hs : u.stability.state = .recover) (hu : (lateral u).natAbs < u.stability.threshold) :
    worked true u = u := worked_of_idle (evaluate_of_recover hon hs hu) (by simp [hs]) (by simp [hs])

theorem worked_reverses (hs : u.stability.state = .test) (hu : (lateral u).natAbs < u.stability.threshold)
    (hr : reversed u.stability.inner (lateral u) = true) : worked true u = abandonTest u :=
  worked_of_changed ((evaluate_of_test hon hs hu).trans (if_pos hr)) (by simp [abandonTest_stability, hs])

/-- A test that goes on past the evaluation is worked on (R124). -/
theorem worked_of_test (hs : u.stability.state = .test) (h : fresh = true →
    (lateral u).natAbs < u.stability.threshold ∧ ¬ reversed u.stability.inner (lateral u) = true) :
    worked fresh u = workTest u := by
  rw [← workInState_of_test hs]
  refine worked_of_stayed ?_ rfl
  cases fresh with
  | false => exact evaluated_of_stale hon
  | true =>
    obtain ⟨hu, hr⟩ := h rfl
    exact (evaluate_of_test hon hs hu).trans (if_neg hr)

section
variable (hs : u.stability.state = .watch) (hne : u.stability.pendingTest ≠ .none)
include hs hne

/-- A pending test is withdrawn when the lateral acceleration has left its side (R128). -/
theorem worked_withdraws (hw : u.stability.watchLevel ≤ (lateral u).natAbs)
    (hu : (lateral u).natAbs < u.stability.threshold) (h : u.stability.pendingTest ≠ sideOfAy (lateral u)) :
    worked true u = u.updStab fun x => { x with pendingTest := .none } := by
  have he : evaluated true u = u.updStab fun x => { x with pendingTest := .none } :=
    (evaluate_of_watch hon hs hw hu).trans (considerTest_of_other hne h)
  rw [worked_of_stayed he rfl, workInState_of_watch (by exact hs)]
  exact workWatch_of_none rfl

/-- A pending test that the evaluation leaves is re-examined (R128). -/
theorem worked_of_pending (h : fresh = true →
    (u.stability.watchLevel ≤ (lateral u).natAbs ∧ (lateral u).natAbs < u.stability.threshold) ∧
      u.stability.pendingTest = sideOfAy (lateral u)) : worked fresh u = workWatch u := by
  rw [← workInState_of_watch hs]
  refine worked_of_stayed ?_ rfl
  cases fresh with
  | false => exact evaluated_of_stale hon
  | true =>
    obtain ⟨⟨hw, hu⟩, hside⟩ := h rfl
    exact (evaluate_of_watch hon hs hw hu).trans (considerTest_of_pending hne hside)

end

end

/-! ### What a test's end, its lift and its start come to, in the state before the threshold was taken -/

section
variable (hr : Relevelled s u) (six : s.channels.length = 6)
  (hlive : ∀ c ∈ s.stability.testChannels, c ∈ channelNumbers ∧ channelExists s c = true)

include hr hlive in
/-- A test channel that is not NORMAL has left its test, whatever comes of the test (R132). -/
theorem unpulsed_of_left (hc : c ∈ s.stability.testChannels) (hn : c ∉ normalTests s) :
    ((removeDegraded u).channel c).Unpulsed ∧ ((workTest u).channel c).Unpulsed := by
  have hm : c ∈ u.stability.testChannels := hr.testChannels ▸ hc
  have hleft : c ∉ normalTests u := hr.normalTests ▸ hn
  exact ⟨removeDegraded_unpulsed (hlive c hc).1 hm hleft, workTest_unpulsed (hlive c hc).1 hm hleft⟩

include hr hlive in
/-- A test abandoned with some of its channels already out of it (R132). -/
theorem abandonTest_ends {v : State} {l : List Nat} (hactive : v.active = u.active)
    (hl : v.stability = { u.stability with testChannels := l })
    (hleft : ∀ c ∈ s.stability.testChannels, c ∉ l → (v.channel c).Unpulsed) :
    (abandonTest v).stability = { u.stability with
        state := .watch, inner := .none, testChannels := [], window := none, spacing := some s.active.stab.spacing } ∧
      ∀ c ∈ s.stability.testChannels, ((abandonTest v).channel c).stabTest = none ∧
        ((abandonTest v).channel c).testHold = false := by
  refine ⟨?_, fun c hc => ?_⟩
  · rw [abandonTest_stability, hl, hactive, hr.active]
  · obtain ⟨htest, hhold⟩ := abandonTest_unpulsed (s := v) (hlive c hc).1 fun hn => hleft c hc (by rwa [hl] at hn)
    exact ⟨htest, hhold⟩

include hr six in
/-- A lift found at a NORMAL test channel intervenes on every existing channel (R130). -/
theorem lift_intervenes : (lift (removeDegraded u)).stability = { u.stability with
      state := .intervene, testChannels := [], window := none, spacing := none, recover := none, pendingTest := .none,
      lifts := satSucc 65535 s.stability.lifts, interventions := satSucc 65535 s.stability.interventions } ∧
    HasOpen .stabilityIntervention 0 (lift (removeDegraded u)) ∧
    ∀ c ∈ channelNumbers, channelExists s c = true → ((lift (removeDegraded u)).channel c).stabInt =
      some ((lift (removeDegraded u)).channel c).intervention := by
  refine ⟨?_, hasOpen_lift _, fun c hc he => lift_stabInt ?_ hc ?_⟩
  · rw [lift_stability, removeDegraded_stability, ← hr.lifts, ← hr.interventions]
  · exact (removeDegraded_length u).trans (hr.length.trans six)
  · exact (hr.channelExists c).trans he

include hr six in
/-- A pending test that starts holds its candidates under the test's pressure (R128, R129). -/
theorem acknowledgeTest_starts : (acknowledgeTest u.stability.pendingTest u).stability = { u.stability with
      state := .test, inner := s.stability.pendingTest, pendingTest := .none,
      testChannels := candidates s s.stability.pendingTest, window := some s.active.stab.window,
      tests := satSucc 65535 s.stability.tests } ∧
    ∀ c ∈ candidates s s.stability.pendingTest,
      ((acknowledgeTest u.stability.pendingTest u).channel c).stabTest = some s.active.stab.pTest ∧
        ((acknowledgeTest u.stability.pendingTest u).channel c).testHold = true := by
  refine ⟨?_, fun c hc => ?_⟩
  · rw [acknowledgeTest_stability, hr.candidates, hr.active, hr.tests, hr.pending]
  · obtain ⟨htest, hhold, -⟩ := acknowledgeTest_channel (hr.length.trans six) (hr.candidates ▸ hc)
    exact ⟨hr.active ▸ htest, hhold⟩

end

/-- Settles O39: by the OFF conditions, the freshness of the REF's record and the state, the work is one change of state, the
work on a test, or none. -/
theorem stabilityActsAtACompletion : Obligations.StabilityActsAtACompletion := by
  unfold Obligations.StabilityActsAtACompletion
  intro s fresh before new t u a off reversal abandoned six hlive
  have hr : Relevelled s u := relevelled_retaken (refFresh s fresh) s
  have ht : t = worked (refFresh s fresh) u := stabilityWork_eq_worked _ s
  have hstate : refFresh s fresh = false → u = s := fun hn => if_neg (by simp [hn])
  clear_value t u
  have hnew : new → t = worked true u := fun hn => by rw [ht, refFresh_iff.mpr hn]
  have hay : lateral u = a := hr.lateral
  have hcondition : offCondition u = true ↔ off := by
    rw [hr.offCondition]
    exact offCondition_iff s
  have hon : ¬ off → offCondition u = false := fun h => Bool.eq_false_iff.mpr (mt hcondition.mp h)
  refine ⟨fun ho hs => ?_, fun ho hs => ?_, fun hn hmoved => ?_, fun hno hn => ?_, fun hno hstale hs hw => ?_,
    fun hno hs hgoes => ?_, fun hno hs hpending => ?_⟩
  · exact ht.trans (worked_of_off_of_off (hcondition.mpr ho) (hr.state.trans hs))
  · have hs' : u.stability.state ≠ .off := hr.state ▸ hs
    obtain ⟨hclosed, hends⟩ := enterOff_ends hs'
    rw [ht.trans (worked_of_off (hcondition.mpr ho) hs')]
    refine ⟨enterOff_stability hs', fun c hc => ?_, hclosed⟩
    obtain ⟨⟨htest, hhold⟩, hint⟩ := hends c hc
    exact ⟨htest, hhold, hint⟩
  · rw [hnew hn]
    have he : evaluated true u = evaluate u := if_pos rfl
    exact (worked_of_moved (by rw [he, hr.state]; exact hmoved)).trans he
  · have hrun := hon hno
    have hw := hnew hn
    rw [← hay]
    refine ⟨fun hs => ?_, fun hs hu => ⟨fun hl => ?_, fun hl => ?_⟩, fun hs hu hl => ?_,
      fun hs => ⟨fun hl => ?_, fun hl => ?_⟩, fun hs hu => ?_, fun hs hu hback => ?_⟩
    · rw [hw, worked_arms hrun (hr.state.trans hs)]
      exact moveTo_stability _ _
    · rw [hw, worked_watches hrun (hr.state.trans hs) hu hl]
      exact moveTo_stability _ _
    · exact hw.trans (worked_stays_armed hrun (hr.state.trans hs) hu hl)
    · rw [hw, worked_returns hrun (hr.state.trans hs) hu hl]
      exact moveTo_stability _ _
    · exact hw.trans (worked_intervenes_on hrun (hr.state.trans hs) hl)
    · rw [hw, worked_releases hrun (hr.state.trans hs) hl, ← hr.active]
      exact ⟨enterRecover_stability u, fun c => enterRecover_stabInt⟩
    · exact hw.trans (worked_recovers hrun (hr.state.trans hs) hu)
    · have hback' : reversed u.stability.inner (lateral u) = true := by
        rw [hr.inner, hay]
        exact (reversed_iff _ _).mpr hback
      subst abandoned
      rw [hw.trans (worked_reverses hrun (hr.state.trans hs) hu hback')]
      exact abandonTest_ends hr hlive rfl rfl fun c hc hn => absurd (hr.testChannels ▸ hc) hn
  · have hnot : refFresh s fresh = false := Bool.eq_false_iff.mpr (mt refFresh_iff.mp hstale)
    obtain rfl := hstate hnot
    rw [hnot] at ht
    exact ht.trans (worked_of_stale_idle (hon hno) hs hw)
  · have hwork : t = workTest u := ht.trans (worked_of_test (hon hno) (hr.state.trans hs) fun hf => by
      obtain ⟨hu, hnot⟩ := hgoes (refFresh_iff.mp hf)
      rw [hr.inner, hay]
      exact ⟨hu, mt (reversed_iff _ _).mp hnot⟩)
    have hlive' : ∀ c ∈ u.stability.testChannels, c ∈ channelNumbers ∧ channelExists u c = true := by
      simpa only [hr.testChannels, hr.channelExists] using hlive
    have hslips : ∀ c, (u.channel c).slip = (s.channel c).slip := fun c => congrArg Channel.slip (hr.channel c)
    have hsix := hr.length.trans six
    refine ⟨fun c hc hn => ?_, fun hnone => ?_, fun hne hslip => ?_, fun hslip => ?_⟩
    · obtain ⟨-, htest, hhold⟩ := unpulsed_of_left hr hlive hc hn
      rw [hwork]
      exact ⟨htest, hhold⟩
    · have hnone' : normalTests u = [] := hr.normalTests.trans hnone
      subst abandoned
      rw [hwork.trans (workTest_of_empty hnone')]
      refine abandonTest_ends hr hlive (removeDegraded_active u) (removeDegraded_stability u) fun c hc hn => ?_
      exact (unpulsed_of_left hr hlive hc (hr.normalTests ▸ hn)).1
    · have hlow : ∀ c ∈ normalTests u, (u.channel c).slip < u.active.stab.sLift := by
        simp only [hr.normalTests, hslips, hr.active]
        exact hslip
      rw [hwork, workTest_of_no_lift hsix hlive' (hr.normalTests ▸ hne) hlow, removeDegraded_stability, hr.normalTests]
      rfl
    · have hhigh : ∃ c ∈ normalTests u, u.active.stab.sLift ≤ (u.channel c).slip := by
        simp only [hr.normalTests, hslips, hr.active]
        exact hslip
      rw [hwork.trans (workTest_of_lift hsix hlive' hhigh)]
      exact lift_intervenes hr six
  · have hrun := hon hno
    have hwatch := hr.state.trans hs
    have hne : u.stability.pendingTest ≠ .none := hr.pending ▸ hpending
    have hside := side_eq_sideOfAy_iff hpending a
    refine ⟨fun hn hwithin hother => ?_, fun hsame => ?_⟩
    · have hleft : u.stability.pendingTest ≠ sideOfAy (lateral u) := by
        rw [hay, hr.pending]
        exact mt hside.mp hother
      rw [hnew hn, worked_withdraws hrun hwatch hne (hay ▸ hwithin.1) (hay ▸ hwithin.2) hleft]
      rfl
    · have hwork : t = workWatch u := ht.trans (worked_of_pending hrun hwatch hne fun hf => by
        obtain ⟨hwithin, hon⟩ := hsame (refFresh_iff.mp hf)
        rw [hay, hr.pending]
        exact ⟨hwithin, hside.mpr hon⟩)
      have hslips : ∀ c, (u.channel c).slipState = (s.channel c).slipState := fun c =>
        congrArg Channel.slipState (hr.channel c)
      refine ⟨fun hnone => ?_, fun hsome hfollow => ?_, fun hslip => ?_⟩
      · rw [hwork, workWatch_of_empty hne (hr.candidates.trans hnone)]
        rfl
      · have hfollow' : ∀ c ∈ candidates u u.stability.pendingTest, (u.channel c).slipState = .follow := by
          simp only [hr.candidates, hslips]
          exact hfollow
        rw [hwork.trans (workWatch_of_follow hne (hr.candidates ▸ hsome) hfollow')]
        exact acknowledgeTest_starts hr six
      · refine hwork.trans (workWatch_of_slip hne ?_)
        simp only [hr.candidates, hslips]
        exact hslip

end Sys2Proof.Machine
end

section
/-! PROOFS. The tables and the store (O12) and the sensor IDs (O10): the commands that load nothing keep the active image, its
generation, CONFIG_INVALID and the store, and with them the IDs once each. -/

namespace Sys2Proof.Machine

variable {s t u : State} {L : List Part}

/-! ### What keeps the tables -/

/-- The active image with its generation, CONFIG_INVALID and the store (R169, R172). -/
def tableParts : List Part := [.active, .generation, .configInvalid, .store]

/-- Every part beside the tables. -/
def runtimeParts : List Part := [.time, .incidents, .portA, .portB, .relay, .hits, .chain, .wheel, .channels, .load, .composer,
  .stability, .tyre, .mgmt, .power, .unapplied, .pending]

/-- From s to t the tables are unchanged, and no ID comes to stand twice (R145, R169). -/
structure TablesKept (s t : State) : Prop where
  tables : SameBut runtimeParts s t
  ids    : UniqueIds s → UniqueIds t

theorem mem_runtimeParts_or_tableParts (p : Part) : p ∈ runtimeParts ∨ p ∈ tableParts := by cases p <;> decide

theorem sameBut_runtimeParts (h : ∀ p ∈ tableParts, s.agreeOn t p) : SameBut runtimeParts s t :=
  fun p hp => h p ((mem_runtimeParts_or_tableParts p).resolve_left hp)

theorem TablesKept.refl (s : State) : TablesKept s s := ⟨.refl _ s, id⟩

theorem TablesKept.trans (h : TablesKept s t) (g : TablesKept t u) : TablesKept s u :=
  ⟨h.tables.trans g.tables, g.ids ∘ h.ids⟩

/-- A change within parts that hold no image keeps the tables. -/
theorem tablesKept_of_same (g : SameBut L s t) (d : ∀ p ∈ .mgmt :: tableParts, p ∉ L) : TablesKept s t where
  tables := sameBut_runtimeParts fun p hp => g p (d p (List.mem_cons_of_mem _ hp))
  ids h := by
    have hactive : t.active = s.active := g.at .active (d _ (by decide))
    have hmgmt : t.mgmt = s.mgmt := g.at .mgmt (d _ (by decide))
    have hstore : t.store = s.store := g.at .store (d _ (by decide))
    exact ⟨hactive ▸ h.active, hmgmt ▸ h.shadow, hmgmt ▸ h.writing, hstore ▸ h.store⟩

/-- A change of the management unit keeps the tables when its images stay in form. -/
theorem tablesKept_updMgmt {f : Mgmt → Mgmt} (s : State)
    (hshadow : UniqueIds s → ∀ img, (f s.mgmt).shadow = some img → img.tyres.length = 16)
    (hwriting : (f s.mgmt).writing = s.mgmt.writing) : TablesKept s (s.updMgmt f) where
  tables := (same_updMgmt f s).mono (by decide)
  ids h := ⟨h.active, hshadow h, fun w hw => h.writing w (hwriting ▸ hw), h.store⟩

theorem tablesKept_elapse (r : Nat) (s : State) : TablesKept s (elapse r s) where
  tables := sameBut_runtimeParts (by simp [tableParts, State.agreeOn])
  ids h := ⟨h.active, h.shadow, h.writing, h.store⟩

/-- A timer's run down keeps the tables, so that its expiry does if its effect does. -/
theorem tablesKept_onExpiry {f : State → State} (hf : ∀ e, TablesKept e (f e)) (x : Timer) (s : State) :
    TablesKept s (onExpiry x f s) := by
  cases x with
  | none => exact .refl s
  | some r => exact (tablesKept_elapse r s).trans (hf _)

theorem tablesKept_expiry {f : State → State} (hf : ∀ e, SameBut L e (f e)) (d : ∀ p ∈ .mgmt :: tableParts, p ∉ L) (x : Timer)
    (s : State) : TablesKept s (onExpiry x f s) :=
  tablesKept_onExpiry (fun e => tablesKept_of_same (hf e) d) x s

theorem tablesKept_updPower (f) (s : State) : TablesKept s (s.updPower f) := tablesKept_of_same (same_updPower f s) (by decide)

theorem tablesKept_updTyre (f) (s : State) : TablesKept s (s.updTyre f) := tablesKept_of_same (same_updTyre f s) (by decide)

theorem tablesKept_updPort (p f) (s : State) : TablesKept s (s.updPort p f) :=
  tablesKept_of_same (same_updPort p f s) (by cases p <;> decide)

theorem tablesKept_reestablish (s : State) : TablesKept s (reestablish s) :=
  tablesKept_of_same (same_reestablish s) (by decide)

theorem tablesKept_applyHeld (s : State) : TablesKept s (applyHeld s) := tablesKept_of_same (same_applyHeld s) (by decide)

/-! ### Completions -/

/-- The end of service mode discards the shadow alone (R165). -/
theorem tablesKept_endService (s : State) : TablesKept s (endService s) := by
  unfold endService
  split
  · exact (tablesKept_updMgmt s (fun _ _ h => absurd h (by simp)) rfl).trans
      (tablesKept_of_same (same_endTests _) (by decide))
  · exact .refl s

theorem tablesKept_motionEvent (s : State) : TablesKept s (motionEvent s) :=
  ((tablesKept_endService s).trans (tablesKept_of_same (same_endLearn _) (by decide))).trans
    (tablesKept_of_same (same_endTests _) (by decide))

theorem tablesKept_stage5 (fr) (s : State) : TablesKept s (stage5 s fr) := by
  have hw : ∀ f, TablesKept s (s.updWheel f) := fun f => tablesKept_of_same (same_updWheel f s) (by decide)
  unfold stage5
  dsimp only
  split
  · split
    · exact (hw _).trans (tablesKept_motionEvent _)
    · exact hw _
  · split
    · split
      · exact .refl s
      · exact hw _
    · exact hw _

theorem tablesKept_wheelWork (fr b) (s : State) : TablesKept s (wheelWork fr b s) := by
  have h3 : SameBut [.channels, .wheel] s (stage3 (stage2 (stage1 s fr) b) fr) :=
    ((same_stage1 fr s).comp (N := [.channels, .wheel]) (same_stage2 b _) (by decide) (by decide)).comp (same_stage3 fr _)
      (by decide) (by decide)
  exact (tablesKept_of_same (L := [.channels, .load, .wheel]) (h3.comp (same_stage4 fr _) (by decide) (by decide))
    (by decide)).trans (tablesKept_stage5 fr _)

theorem tablesKept_enterSleep (s : State) : TablesKept s (enterSleep s) :=
  ((tablesKept_applyHeld s).trans (tablesKept_updPower _ _)).trans (tablesKept_of_same (same_tyreSleep _) (by decide))

theorem tablesKept_updateVoltage (v) (s : State) : TablesKept s (updateVoltage v s) := by
  unfold updateVoltage
  dsimp only
  split
  · have hl : TablesKept s (setLockout (s.updPower fun p =>
        { p with voltage := v, low := nextLow s.active.tuning.batteryLimit v s.power.low })) :=
      (tablesKept_updPower _ s).trans (tablesKept_updPower _ _)
    split
    · exact hl
    · exact hl.trans (tablesKept_enterSleep _)
  · exact tablesKept_updPower _ s

theorem tablesKept_powerWork (fr) (s : State) : TablesKept s (powerWork fr s) := by
  unfold powerWork
  split
  · exact .refl s
  · split
    · exact tablesKept_updateVoltage _ s
    · exact .refl s

theorem tablesKept_complete (fr b o) (s : State) : TablesKept s (complete fr b o s) := by
  refine List.foldlRecOn _ _ (TablesKept.refl s) fun t ht k _ => ht.trans ?_
  cases k with
  | wheel => exact tablesKept_wheelWork fr b t
  | load => exact tablesKept_of_same (same_loadWork fr t) (by decide)
  | composer => exact tablesKept_of_same (same_composerWork fr t) (by decide)
  | stability => exact tablesKept_of_same (same_stabilityWork _ t) (by decide)
  | power => exact tablesKept_powerWork fr t

/-! ### The chain -/

theorem tablesKept_failSession (x o) (s : State) : TablesKept s (failSession x o s) :=
  (tablesKept_of_same (same_failSession_chain x s) (by decide)).trans (tablesKept_complete _ _ o _)

theorem tablesKept_goodSession (rs o) (s : State) : TablesKept s (goodSession rs o s) :=
  (tablesKept_of_same (same_goodSession_chain rs s) (by decide)).trans (tablesKept_complete _ _ o _)

theorem tablesKept_sessionStart (b) (s : State) : TablesKept s (sessionStart b s) := by
  refine TablesKept.trans (t := if b || chainDiffers s then reinitialise s else bindChain s) ?_
    (tablesKept_of_same (same_sendCommands _) (by decide))
  split
  · exact tablesKept_of_same (same_reinitialise s) (by decide)
  · exact tablesKept_of_same (same_bindChain s) (by decide)

theorem tablesKept_startChain (b) (s : State) : TablesKept s (startChain b s) := by
  unfold startChain
  split
  · exact (tablesKept_sessionStart b s).trans (tablesKept_of_same (same_startPeriod _) (by decide))
  · exact .refl s

theorem tablesKept_periodExpired (o) (s : State) : TablesKept s (periodExpired o s) := by
  have hs : ∀ v, TablesKept s v → TablesKept s (if v.active.chain.configured then sessionStart false v else v) := by
    intro v hv
    split
    · exact hv.trans (tablesKept_sessionStart _ v)
    · exact hv
  have hp : TablesKept s (startPeriod s) := tablesKept_of_same (same_startPeriod s) (by decide)
  refine hs _ ?_
  split
  · exact hp.trans (tablesKept_failSession _ o _)
  · exact hp

theorem tablesKept_listReturned (l o) (s : State) : TablesKept s (listReturned l o s) := by
  unfold listReturned
  split
  · split
    · exact tablesKept_goodSession _ o s
    · exact tablesKept_failSession _ o s
  · exact .refl s

/-! ### Tyres -/

theorem tablesKept_deliver (b) (s : State) : TablesKept s (deliver b s) := by
  unfold deliver
  dsimp only
  split
  · exact .refl s
  · split
    · exact (tablesKept_applyHeld s).trans (tablesKept_updTyre _ _)
    · exact (tablesKept_applyHeld s).trans (tablesKept_updTyre _ _)

theorem tablesKept_missingExpired (i) (s : State) : TablesKept s (missingExpired i s) := by
  unfold missingExpired
  dsimp only
  split
  · exact (tablesKept_applyHeld s).trans (tablesKept_of_same (same_fallSilent i _) (by decide))
  · exact tablesKept_applyHeld s

/-! ### Power -/

theorem tablesKept_leaveMgmt (s : State) : TablesKept s (leaveMgmt s) :=
  (tablesKept_endService s).trans (tablesKept_updMgmt _ (fun h => h.shadow) rfl)

theorem tablesKept_leaveRun (s : State) : TablesKept s (leaveRun s) := by
  have hr : TablesKept s (reestablish (atRest s)) :=
    (tablesKept_of_same (same_atRest s) (by decide)).trans (tablesKept_reestablish _)
  have hl : TablesKept s (endLearn (enterOff (reestablish (atRest s)))) :=
    (hr.trans (tablesKept_of_same (same_enterOff _) (by decide))).trans (tablesKept_of_same (same_endLearn _) (by decide))
  exact (hl.trans (tablesKept_leaveMgmt _)).trans (tablesKept_of_same (same_endTests _) (by decide))

theorem tablesKept_powerOff (v) (s : State) : TablesKept s (powerOff v s) := by
  have ht : TablesKept s (turnedOff v s) :=
    ((tablesKept_updPower _ s).trans (tablesKept_updateVoltage _ _)).trans (tablesKept_leaveRun _)
  rw [powerOff_eq]
  split
  · exact ht.trans (tablesKept_updPower _ _)
  · exact (ht.trans (tablesKept_of_same (same_lockedIfLow _) (by decide))).trans (tablesKept_enterSleep _)

theorem tablesKept_parkExpired (s : State) : TablesKept s (parkExpired s) := by
  unfold parkExpired
  split
  · exact tablesKept_updPower _ s
  · split
    · exact tablesKept_updPower _ s
    · exact (tablesKept_updPower _ s).trans (tablesKept_enterSleep _)

theorem tablesKept_listenExpired (s : State) : TablesKept s (listenExpired s) := by
  unfold listenExpired
  split
  · exact tablesKept_updPower _ s
  · split
    · exact tablesKept_updPower _ s
    · exact (tablesKept_updPower _ s).trans (tablesKept_enterSleep _)

theorem tablesKept_startListening (s : State) : TablesKept s (startListening s) :=
  ((tablesKept_applyHeld s).trans (tablesKept_updPower _ _)).trans (tablesKept_of_same (same_tyreWake _) (by decide))

theorem tablesKept_wakeExpired (s : State) : TablesKept s (wakeExpired s) := by
  unfold wakeExpired
  split
  · exact tablesKept_startListening s
  · exact tablesKept_updPower _ s

theorem tablesKept_wakeLine (s : State) : TablesKept s (wakeLine s) := by
  unfold wakeLine
  split
  · exact tablesKept_startListening s
  · exact .refl s

theorem tablesKept_sampleExpired (v) (s : State) : TablesKept s (sampleExpired v s) := by
  unfold sampleExpired
  dsimp only
  split
  · exact (tablesKept_updPower _ s).trans (tablesKept_updateVoltage _ _)
  · exact tablesKept_updPower _ s

theorem tablesKept_enterRun (s : State) : TablesKept s (enterRun s) := by
  have hc : TablesKept (applyHeld s) (chainEntersRun (runPower (applyHeld s))) :=
    (tablesKept_updPower _ _).trans (tablesKept_of_same ((same_chainReset _).trans (same_updChain _ _)) (by decide))
  exact (((tablesKept_applyHeld s).trans hc).trans (tablesKept_of_same (same_setEmergency false _) (by decide))).trans
    (tablesKept_reestablish _)

theorem tablesKept_powerOn (s : State) : TablesKept s (powerOn s) := by
  have hp : TablesKept s (s.updPower fun p => { p with linkPower := true }) := tablesKept_updPower _ s
  have hr := hp.trans (tablesKept_enterRun _)
  unfold powerOn
  dsimp only
  split
  · exact hp
  · split
    · exact hr.trans (tablesKept_of_same (same_tyreWake _) (by decide))
    · exact hr

/-! ### Requests -/

theorem tablesKept_respond (code r res data) (s : State) : TablesKept s (respond code r res data s) :=
  tablesKept_of_same (same_respond code r res data s) (by cases r.port <;> decide)

/-- A change of the management unit that leaves its images alone. -/
theorem tablesKept_updMgmt_aside {f : Mgmt → Mgmt} (s : State) (hshadow : (f s.mgmt).shadow = s.mgmt.shadow)
    (hwriting : (f s.mgmt).writing = s.mgmt.writing) : TablesKept s (s.updMgmt f) :=
  tablesKept_updMgmt s (fun h img e => h.shadow img (hshadow ▸ e)) hwriting

theorem tablesKept_touchIdle (s : State) : TablesKept s (touchIdle s) := by
  unfold touchIdle
  split
  · exact tablesKept_updMgmt_aside s rfl rfl
  · exact .refl s

/-- Behind the common checks a request keeps the tables as its act does (R161). -/
theorem tablesKept_manage {act : State → State} (hact : ∀ t, TablesKept t (act t)) (code need exempt r) (s : State) :
    TablesKept s (manage code need exempt act r s) := by
  have hi := tablesKept_touchIdle s
  rcases manage_cases code need exempt act r s with ⟨_, e⟩ | ⟨_, _, _, e⟩ | ⟨_, _, _, e⟩ | ⟨_, _, _, e⟩ <;> rw [e]
  · exact .refl s
  · exact hi.trans (tablesKept_respond _ _ _ _ _)
  · exact hi.trans (tablesKept_respond _ _ _ _ _)
  · exact hi.trans (hact _)

/-- A request that is answered in service mode, after its work there, and refused outside it. -/
theorem tablesKept_inService {work : State → State} (hwork : ∀ t, TablesKept t (work t)) {data : State → List Byte}
    (code need r) (s : State) : TablesKept s (manage code need false (fun t =>
      if t.inService then respond code r .done (data t) (work t) else respond code r .notInService [] t) r s) := by
  refine tablesKept_manage (fun t => ?_) _ _ _ r s
  split
  · exact (hwork t).trans (tablesKept_respond _ _ _ _ _)
  · exact tablesKept_respond _ _ _ _ t

/-- The shadow takes a copy of the active image (R164, R167). -/
theorem tablesKept_shadowActive {f : Mgmt → Mgmt} (s : State) (hshadow : (f s.mgmt).shadow = some s.active)
    (hwriting : (f s.mgmt).writing = s.mgmt.writing) : TablesKept s (s.updMgmt f) :=
  tablesKept_updMgmt s (fun h img e => by cases hshadow.symm.trans e; exact h.active.1) hwriting

theorem tablesKept_doEnterService (r) (s : State) : TablesKept s (doEnterService r s) := by
  refine tablesKept_manage (fun t => ?_) _ _ _ r s
  split
  · exact tablesKept_respond _ _ _ _ t
  · split
    · exact tablesKept_respond _ _ _ _ t
    · exact (tablesKept_shadowActive t rfl rfl).trans (tablesKept_respond _ _ _ _ _)

theorem setConfigBytes_tyres_length (img : Image) (k : RecKind) (i : Nat) (b : List Byte) :
    (setConfigBytes img k i b).tyres.length = img.tyres.length := by
  cases k <;> simp only [setConfigBytes, List.length_set]
  case port => split <;> rfl

/-- STAGE replaces a record and adds none (R166). -/
theorem stageInto_tyres_length (img : Image) (args : List Byte) :
    (stageInto img args).2.tyres.length = img.tyres.length := by
  unfold stageInto
  dsimp only
  split
  · rfl
  · split
    · rfl
    · split
      · rfl
      · split
        · exact setConfigBytes_tyres_length _ _ _ _
        · rfl

theorem tablesKept_stageShadow {img : Image} (r) (hs : s.mgmt.shadow = some img) : TablesKept s (stageShadow img r s) := by
  unfold stageShadow
  split
  · next img' e =>
    have hlen : img'.tyres.length = img.tyres.length := by rw [← stageInto_tyres_length img r.args, e]
    refine (tablesKept_updMgmt s (fun h i hi => ?_) rfl).trans (tablesKept_respond _ _ _ _ _)
    cases hi
    exact hlen.trans (h.shadow img hs)
  · exact tablesKept_respond _ _ _ _ s

theorem tablesKept_doStage (r) (s : State) : TablesKept s (doStage r s) := by
  refine tablesKept_manage (fun t => ?_) _ _ _ r s
  split
  · exact tablesKept_respond _ _ _ _ t
  · next hs => exact tablesKept_stageShadow r hs

/-- Some field of the sixteen records holds an ID that is counted (R145). -/
theorem exists_holds_of_idCount {img : Image} {x : BitVec 32} (h : img.idCount x ≠ 0) :
    ∃ t ∈ img.tyres, t.primary.holds x = true ∨ t.alternate.holds x = true := by
  by_contra hn
  refine h (List.sum_eq_zero fun n hm => ?_)
  obtain ⟨t, ht, rfl⟩ := List.mem_map.mp hm
  have hp : t.primary.holds x = false := by by_contra hc; exact hn ⟨t, ht, .inl (by simpa using hc)⟩
  have ha : t.alternate.holds x = false := by by_contra hc; exact hn ⟨t, ht, .inr (by simpa using hc)⟩
  simp [hp, ha, bit]

/-- An ID that a field holds, alone, is counted once at most. -/
theorem idCount_le_of_alone {img : Image} {f : IdField} {x : BitVec 32} (ha : idAlone img f = true) (hx : f.holds x = true) :
    img.idCount x ≤ 1 := by
  obtain ⟨hpresent, rfl⟩ : f.present = true ∧ f.id = x := by simpa [IdField.holds] using hx
  simpa [idAlone, hpresent] using ha

/-- An image that passes the checks of R168 holds each ID once (R145). -/
theorem idsOnce_of_valid {img : Image} (hlen : img.tyres.length = 16) (h : img.valid = true) : img.idsOnce := by
  refine ⟨hlen, fun x => ?_⟩
  by_cases h0 : img.idCount x = 0
  · omega
  obtain ⟨t, ht, hx⟩ := exists_holds_of_idCount h0
  obtain ⟨i, hi, rfl⟩ := List.mem_iff_getElem.mp ht
  have hok : recordOk img .tyrePosition i = true := by
    have hnone : firstFailure img = none := by simpa [Image.valid] using h
    have hmem : (RecKind.tyrePosition, i) ∈ validationOrder := by
      refine List.mem_append_right _ (List.mem_map.mpr ⟨i, List.mem_range.mpr (by omega), rfl⟩)
    simpa using List.find?_eq_none.mp hnone _ hmem
  have htyre : img.tyre i = img.tyres[i] := by simp [Image.tyre, hi]
  have halone : idAlone img img.tyres[i].primary = true ∧ idAlone img img.tyres[i].alternate = true := by
    simp only [recordOk, tyreOk, htyre, Bool.and_eq_true] at hok
    exact ⟨hok.1.2, hok.2⟩
  exact hx.elim (idCount_le_of_alone halone.1) (idCount_le_of_alone halone.2)

/-- The image that a COMMIT begins to write has passed validation (R168). -/
theorem tablesKept_commitShadow {img : Image} (r) (hs : s.mgmt.shadow = some img) : TablesKept s (commitShadow img r s) := by
  unfold commitShadow
  split
  · exact tablesKept_respond _ _ _ _ s
  · next hf =>
    refine ⟨(same_updMgmt _ s).mono (by decide), fun h => ⟨h.active, h.shadow, fun w hw => ?_, h.store⟩⟩
    cases hw
    have hlen := h.shadow img hs
    exact ⟨hlen, fun _ => idsOnce_of_valid hlen (by simp [Image.valid, hf])⟩

theorem tablesKept_doCommit (r) (s : State) : TablesKept s (doCommit r s) := by
  refine tablesKept_manage (fun t => ?_) _ _ _ r s
  split
  · exact tablesKept_respond _ _ _ _ t
  · next hs =>
    split
    · exact tablesKept_respond _ _ _ _ t
    · exact tablesKept_commitShadow r hs

theorem tablesKept_doLearnTyre (r) (s : State) : TablesKept s (doLearnTyre r s) := by
  refine tablesKept_manage (fun t => ?_) _ _ _ r s
  split
  · exact (tablesKept_of_same (same_startLearn _ _ t) (by decide)).trans (tablesKept_respond _ _ _ _ _)
  · exact tablesKept_respond _ _ _ _ t

theorem tablesKept_doServiceTest (r) (s : State) : TablesKept s (doServiceTest r s) := by
  refine tablesKept_manage (fun t => ?_) _ _ _ r s
  split
  · exact (tablesKept_of_same (same_startTest _ _ _ t) (by decide)).trans (tablesKept_respond _ _ _ _ _)
  · exact tablesKept_respond _ _ _ _ t

/-- Every request but RESTART keeps the tables. -/
theorem tablesKept_request (r : Request) (s : State) :
    ∀ p ∈ requestsOf r, p.2 ≠ .restart r → ∃ t, exec p.2 s = .next t ∧ TablesKept s t := by
  simp only [requestsOf, List.forall_mem_cons]
  exact ⟨fun _ => ⟨_, rfl, tablesKept_manage (fun _ => tablesKept_respond _ _ _ _ _) _ _ _ r s⟩,
    fun _ => ⟨_, rfl, tablesKept_manage (fun _ => tablesKept_respond _ _ _ _ _) _ _ _ r s⟩,
    fun _ => ⟨_, rfl, tablesKept_doEnterService r s⟩, fun _ => ⟨_, rfl, tablesKept_inService tablesKept_endService _ _ r s⟩,
    fun _ => ⟨_, rfl, tablesKept_doStage r s⟩, fun _ => ⟨_, rfl, tablesKept_doCommit r s⟩,
    fun _ => ⟨_, rfl, tablesKept_inService (fun t => tablesKept_shadowActive t rfl rfl) _ _ r s⟩,
    fun _ => ⟨_, rfl, tablesKept_doLearnTyre r s⟩,
    fun _ => ⟨_, rfl, tablesKept_manage (fun _ => (tablesKept_of_same (same_endLearn _) (by decide)).trans
      (tablesKept_respond _ _ _ _ _)) _ _ _ r s⟩,
    fun _ => ⟨_, rfl, tablesKept_doServiceTest r s⟩,
    fun _ => ⟨_, rfl, tablesKept_inService (fun t => tablesKept_of_same (same_clearIncidents t) (by decide)) _ _ r s⟩,
    fun h => absurd rfl h, fun _ hp => (List.not_mem_nil hp).elim⟩

theorem tablesKept_doUnknown (code r) (s : State) : TablesKept s (doUnknown code r s) := by
  unfold doUnknown
  split
  · exact tablesKept_respond _ _ _ _ s
  · exact .refl s

/-! ### Every command that loads nothing -/

/-- A frame of another class than MGMT_REQ reaches no image. -/
theorem tablesKept_receiveFrame {f : Frame} (h : f.cls ≠ clsMgmtReq) (p o) (s : State) :
    TablesKept s (receiveFrame p f o s) := by
  unfold receiveFrame
  split
  · have hr : TablesKept s (received p f s) := tablesKept_of_same (same_received p f s) (by cases p <;> decide)
    exact (hr.trans (tablesKept_of_same (same_countHits _ _) (by decide))).trans
      (tablesKept_of_same (same_applyAction h p _ o _) (by decide))
  · exact .refl s

/-- A command outside `mayLoad` keeps the tables. -/
theorem tablesKept_exec {i : Instr} (hi : mayLoad i = false) (s : State) : ∃ t, exec i s = .next t ∧ TablesKept s t := by
  have request := fun r => tablesKept_request r s
  cases i with
  | frameReceived p f o => exact ⟨_, rfl, tablesKept_receiveFrame (of_decide_eq_false hi) p o s⟩
  | linkReportNotSent p r =>
    refine ⟨_, rfl, ?_⟩
    split
    · exact tablesKept_updPort p _ s
    · exact .refl s
  | discoveryTimerExpiry => exact ⟨_, rfl, tablesKept_expiry same_discoveryExpired (by decide) _ s⟩
  | warnTimerExpiry => exact ⟨_, rfl, tablesKept_expiry same_warnExpired (by decide) _ s⟩
  | statusTimerExpiry => exact ⟨_, rfl, tablesKept_expiry same_statusExpired (by decide) _ s⟩
  | tyreTimerExpiry => exact ⟨_, rfl, tablesKept_expiry same_tyreExpired (by decide) _ s⟩
  | periodTimerExpiry o => exact ⟨_, rfl, tablesKept_onExpiry (tablesKept_periodExpired o) _ s⟩
  | responseListReturn l o => exact ⟨_, rfl, tablesKept_listReturned l o s⟩
  | stationaryTimerExpiry => exact ⟨_, rfl, tablesKept_expiry (same_updWheel _) (by decide) _ s⟩
  | demandTimerExpiry =>
    exact ⟨_, rfl, tablesKept_onExpiry (fun e => (tablesKept_of_same (same_updComposer _ e) (by decide)).trans
      (tablesKept_reestablish _)) _ s⟩
  | testWindowExpiry => exact ⟨_, rfl, tablesKept_expiry same_testWindow (by decide) _ s⟩
  | spacingTimerExpiry => exact ⟨_, rfl, tablesKept_expiry (same_updStab _) (by decide) _ s⟩
  | recoverTimerExpiry => exact ⟨_, rfl, tablesKept_expiry same_recovered (by decide) _ s⟩
  | telegramDelivered b => exact ⟨_, rfl, tablesKept_deliver b s⟩
  | missingTimerExpiry i =>
    refine ⟨_, rfl, ?_⟩
    split
    · exact tablesKept_onExpiry (tablesKept_missingExpired i) _ s
    · exact .refl s
  | learnTimerExpiry => exact ⟨_, rfl, tablesKept_expiry same_endLearn (by decide) _ s⟩
  | lampBlinkToggle => exact ⟨_, rfl, tablesKept_expiry (same_updTyre _) (by decide) _ s⟩
  | identify r => exact request r (1#8, _) (by simp [requestsOf]) (by simp)
  | read r => exact request r (2#8, _) (by simp [requestsOf]) (by simp)
  | enterService r => exact request r (3#8, _) (by simp [requestsOf]) (by simp)
  | leaveService r => exact request r (4#8, _) (by simp [requestsOf]) (by simp)
  | stage r => exact request r (5#8, _) (by simp [requestsOf]) (by simp)
  | commit r => exact request r (6#8, _) (by simp [requestsOf]) (by simp)
  | discard r => exact request r (7#8, _) (by simp [requestsOf]) (by simp)
  | learnTyre r => exact request r (8#8, _) (by simp [requestsOf]) (by simp)
  | cancelLearn r => exact request r (9#8, _) (by simp [requestsOf]) (by simp)
  | serviceTest r => exact request r (10#8, _) (by simp [requestsOf]) (by simp)
  | clearIncidents r => exact request r (11#8, _) (by simp [requestsOf]) (by simp)
  | unknownRequest c r => exact ⟨_, rfl, tablesKept_doUnknown c r s⟩
  | serviceIdleTimerExpiry => exact ⟨_, rfl, tablesKept_onExpiry tablesKept_endService _ s⟩
  | linkPowerOff v =>
    refine ⟨_, rfl, ?_⟩
    split
    · exact tablesKept_powerOff v s
    · exact tablesKept_updPower _ s
  | linkPowerOn => exact ⟨_, rfl, tablesKept_powerOn s⟩
  | settleTimerExpiry =>
    exact ⟨_, rfl, tablesKept_onExpiry (fun e => (tablesKept_updPower _ e).trans (tablesKept_startChain _ _)) _ s⟩
  | parkTimerExpiry => exact ⟨_, rfl, tablesKept_onExpiry tablesKept_parkExpired _ s⟩
  | wakeTimerExpiry => exact ⟨_, rfl, tablesKept_onExpiry tablesKept_wakeExpired _ s⟩
  | wakeLineAsserted => exact ⟨_, rfl, tablesKept_wakeLine s⟩
  | listenTimerExpiry => exact ⟨_, rfl, tablesKept_onExpiry tablesKept_listenExpired _ s⟩
  | batterySampleTimerExpiry v => exact ⟨_, rfl, tablesKept_onExpiry (tablesKept_sampleExpired v) _ s⟩
  | serviceTestTimerExpiry c =>
    refine ⟨_, rfl, ?_⟩
    split
    · exact tablesKept_expiry (same_endTest c) (by decide) _ s
    · exact .refl s
  | _ => exact absurd hi (by simp [mayLoad])

/-- Settles O12: a command outside `mayLoad` changes runtime parts alone. -/
theorem tablesChangeAtTheirEventsAlone : Obligations.TablesChangeAtTheirEventsAlone := by
  unfold Obligations.TablesChangeAtTheirEventsAlone
  intro c s hc
  obtain ⟨t, ht, hk⟩ := tablesKept_exec hc s
  exact ⟨t, ht, hk.tables.at .active (by decide), hk.tables.at .generation (by decide),
    hk.tables.at .configInvalid (by decide), hk.tables.at .store (by decide)⟩

end Sys2Proof.Machine
end

section
/-! PROOFS. The commands that load an image keep each sensor ID in one field at most (O10): a validated store image, the image
of a commit, and a learned ID that is held nowhere (R145, R157, R168 to R172). -/

namespace Sys2Proof.Machine

variable {s t u : State} {L : List Part}

/-! ### Starts and restarts -/

theorem factoryImage_idsOnce : factoryImage.idsOnce := ⟨rfl, fun x => (factoryImage_idCount x).trans_le (Nat.zero_le 1)⟩

/-- The store load takes a valid image or the factory image (R172). -/
theorem uniqueIds_loadStore (h : UniqueIds s) : UniqueIds (loadStore s) := by
  have g := same_loadStore s
  have hmgmt : (loadStore s).mgmt = s.mgmt := g.at .mgmt (by decide)
  have hstore : (loadStore s).store = s.store := g.at .store (by decide)
  refine ⟨?_, hmgmt ▸ h.shadow, hmgmt ▸ h.writing, hstore ▸ h.store⟩
  obtain ⟨_, hvalid, hinvalid⟩ := loaded_loadStore s
  rcases store_valid_or_invalid s.store with ⟨hc, hv⟩ | hn
  · obtain ⟨hactive, _, _⟩ := hvalid hc hv
    exact hactive ▸ idsOnce_of_valid h.store hv
  · obtain ⟨hactive, _, _⟩ := hinvalid hn
    exact hactive ▸ factoryImage_idsOnce

/-- The blocks' start discards the shadow and a write (R176). -/
theorem uniqueIds_startBlocks (h : UniqueIds s) : UniqueIds (startBlocks s) := by
  have g := same_startBlocks s
  have hactive : (startBlocks s).active = s.active := g.at .active (by decide)
  have hstore : (startBlocks s).store = s.store := g.at .store (by decide)
  have hmgmt : (startBlocks s).mgmt = Mgmt.start := rfl
  exact ⟨hactive ▸ h.active, fun _ e => absurd e (by simp [hmgmt, Mgmt.start]),
    fun _ e => absurd e (by simp [hmgmt, Mgmt.start]), hstore ▸ h.store⟩

theorem uniqueIds_beginRestart (h : UniqueIds s) : UniqueIds (beginRestart s) := by
  have hc : UniqueIds (closeAll s) := ⟨h.active, h.shadow, h.writing, h.store⟩
  exact (tablesKept_enterRun _).ids (uniqueIds_startBlocks (uniqueIds_loadStore hc))

theorem uniqueIds_triggerRestart (h : UniqueIds s) : UniqueIds (triggerRestart s) := by
  unfold triggerRestart
  split
  · exact h
  · split
    · exact (tablesKept_updMgmt_aside s rfl rfl).ids h
    · exact uniqueIds_beginRestart h

theorem uniqueIds_coldStart (v l) (h : UniqueIds s) : UniqueIds (coldStart v l s) := by
  have hstore : (coldEmptied s).store = coldStore s := interrupted_eq s
  have he : UniqueIds (coldEmptied s) := ⟨h.active, h.shadow, h.writing, hstore ▸ h.store⟩
  have hb : UniqueIds (startBlocks (coldLoaded v l s)) :=
    uniqueIds_startBlocks ((tablesKept_updPower (fun _ => coldPower (loadStore (coldEmptied s)) v l) _).ids
      (uniqueIds_loadStore he))
  rw [coldStart_eq]
  split
  · exact (tablesKept_enterRun _).ids hb
  · rw [coldSleep_eq]
    exact ((tablesKept_of_same (same_lockedIfLow _) (by decide)).trans (tablesKept_enterSleep _)).ids hb

/-! ### A learn -/

/-- The record that holds a learned ID in a field (R157). -/
def TyreRec.withId (r : TyreRec) (field : IdChoice) (x : BitVec 32) : TyreRec :=
  match field with
  | .primary => { r with primary := ⟨true, x⟩ }
  | .alternate => { r with alternate := ⟨true, x⟩ }

/-- The number of a record's fields that hold an ID. -/
def TyreRec.count (r : TyreRec) (x : BitVec 32) : Nat := bit (r.primary.holds x) + bit (r.alternate.holds x)

theorem count_withId_le (r : TyreRec) (field : IdChoice) (x y : BitVec 32) :
    (r.withId field x).count y ≤ r.count y + bit (decide (x = y)) := by
  cases field with
  | primary =>
    show bit (true && decide (x = y)) + bit (r.alternate.holds y) ≤ _
    simp only [Bool.true_and, TyreRec.count]
    omega
  | alternate =>
    show bit (r.primary.holds y) + bit (true && decide (x = y)) ≤ _
    simp only [Bool.true_and, TyreRec.count]
    omega

/-- Over the records a learned ID adds one holder at most, and to its own count alone. -/
theorem sum_count_modify_le (l : List TyreRec) (i : Nat) (field : IdChoice) (x y : BitVec 32) :
    ((l.modify i (·.withId field x)).map (·.count y)).sum ≤ (l.map (·.count y)).sum + bit (decide (x = y)) := by
  induction l generalizing i with
  | nil => simp
  | cons r l ih =>
    cases i with
    | zero =>
      have hr := count_withId_le r field x y
      simp only [List.modify_zero_cons, List.map_cons, List.sum_cons]
      omega
    | succ i =>
      have hl := ih i
      simp only [List.modify_succ_cons, List.map_cons, List.sum_cons]
      omega

theorem idCount_writeId_le (i : Nat) (field : IdChoice) (x y : BitVec 32) (img : Image) :
    (writeId i field x img).idCount y ≤ img.idCount y + bit (decide (x = y)) :=
  sum_count_modify_le img.tyres i field x y

theorem writeId_tyres_length (i : Nat) (field : IdChoice) (x : BitVec 32) (img : Image) :
    (writeId i field x img).tyres.length = img.tyres.length := List.length_modify _ _ _

theorem idCount_of_not_holdsId {img : Image} {x : BitVec 32} (h : img.holdsId x = false) : img.idCount x = 0 := by
  by_contra hn
  obtain ⟨t, ht, hx⟩ := exists_holds_of_idCount hn
  refine Bool.eq_false_iff.mp h (List.any_eq_true.mpr ⟨t, ht, ?_⟩)
  simpa using hx

/-- An ID that an image does not hold may enter one of its fields (R157). -/
theorem idsOnce_writeId {img : Image} (h : img.idsOnce) {x : BitVec 32} (hx : img.holdsId x = false) (i : Nat)
    (field : IdChoice) : (writeId i field x img).idsOnce := by
  obtain ⟨hlen, hcount⟩ := h
  refine ⟨(writeId_tyres_length i field x img).trans hlen, fun y => ?_⟩
  have hle := idCount_writeId_le i field x y img
  by_cases e : x = y
  · subst e
    have h0 := idCount_of_not_holdsId hx
    simp only [decide_true, bit, if_true] at hle
    omega
  · have hy := hcount y
    simp only [e, decide_false, bit, Bool.false_eq_true, if_false] at hle
    omega

/-- An ID is held nowhere: neither in the active image, nor in the shadow, nor in the image of a commit (R157, R170). -/
theorem idHeld_eq_false {x : BitVec 32} (h : idHeld s x = false) : s.active.holdsId x = false ∧
    ∀ w, s.mgmt.writing = some w → w.commit = true → w.image.holdsId x = false := by
  simp only [idHeld, Bool.or_eq_false_iff] at h
  obtain ⟨⟨hactive, -⟩, hwriting⟩ := h
  refine ⟨hactive, fun w hw hc => ?_⟩
  rw [hw] at hwriting
  simpa [hc] using hwriting

theorem uniqueIds_writeLearned {x : BitVec 32} (hx : idHeld s x = false) (i field) (h : UniqueIds s) :
    UniqueIds (writeLearned i field x s) := by
  obtain ⟨hactive, hcommit⟩ := idHeld_eq_false hx
  refine ⟨idsOnce_writeId h.active hactive i field, fun img e => ?_, fun w e => ?_, h.store⟩
  · obtain ⟨old, hold, rfl⟩ := Option.map_eq_some_iff.mp e
    exact (writeId_tyres_length i field x old).trans (h.shadow old hold)
  · obtain ⟨old, hold, rfl⟩ := Option.map_eq_some_iff.mp e
    obtain ⟨hlen, honce⟩ := h.writing old hold
    split
    · next hc =>
      have hi := idsOnce_writeId (honce hc) (hcommit old hold hc) i field
      exact ⟨hi.1, fun _ => hi⟩
    · next hc => exact ⟨hlen, fun e => absurd e hc⟩

/-- The write of learned IDs is of the active image (R170). -/
theorem uniqueIds_beginLearnWrite (h : UniqueIds s) : UniqueIds (beginLearnWrite s) where
  active := h.active
  shadow := h.shadow
  writing w e := by
    cases e
    exact ⟨h.active.1, fun hc => absurd hc (by simp)⟩
  store := h.store

theorem uniqueIds_storeLearned (h : UniqueIds s) : UniqueIds (storeLearned s) := by
  unfold storeLearned
  split
  · exact (tablesKept_updMgmt_aside s rfl rfl).ids h
  · exact uniqueIds_beginLearnWrite h

theorem uniqueIds_completeLearn (l) {x : Telegram} (hx : idHeld s x.id = false) (h : UniqueIds s) :
    UniqueIds (completeLearn l x s) := by
  have hs := uniqueIds_storeLearned (uniqueIds_writeLearned hx l.pos l.field h)
  have hp := (tablesKept_of_same (same_updPosition l.pos
    (fun _ => Position.cleared .learning (some (missingTimeout (storeLearned (writeLearned l.pos l.field x.id s)).active))) _)
    (by decide)).ids hs
  have hc := (tablesKept_of_same (same_closeTyreIncidents l.pos _) (by decide)).ids hp
  exact ((tablesKept_updTyre _ _).trans (tablesKept_of_same (same_acceptTelegram _ _ _ _) (by decide))).ids hc

theorem uniqueIds_handleTelegram (x) (h : UniqueIds s) : UniqueIds (handleTelegram x s) := by
  unfold handleTelegram
  split
  · unfold offerLearn
    split
    · exact h
    · split
      · next hx => exact uniqueIds_completeLearn _ (by simp_all) h
      · exact h
  · split
    · exact h
    · split
      · exact h
      · exact (tablesKept_of_same (same_acceptTelegram _ _ _ s) (by decide)).ids h

theorem uniqueIds_takeTelegram (h : UniqueIds s) : UniqueIds (takeTelegram s) := by
  unfold takeTelegram
  split
  · exact h
  · exact uniqueIds_handleTelegram _ (((tablesKept_applyHeld s).trans (tablesKept_updTyre _ _)).ids h)

/-! ### The store's reports -/

theorem uniqueIds_written {w : Writing} (hw : w.image.tyres.length = 16) (h : UniqueIds s) : UniqueIds (written w s) :=
  ⟨h.active, h.shadow, h.writing, hw⟩

theorem tablesKept_endWrite (s : State) : TablesKept s (endWrite s) :=
  ⟨(same_updMgmt _ s).mono (by decide), fun h => ⟨h.active, h.shadow, fun _ e => absurd e (by simp [endWrite]), h.store⟩⟩

theorem uniqueIds_swapImage {w : Writing} (hw : w.image.idsOnce) (h : UniqueIds s) : UniqueIds (swapImage w s) where
  active := hw
  shadow img e := by
    obtain ⟨_, _, rfl⟩ := Option.map_eq_some_iff.mp e
    exact hw.1
  writing := h.writing
  store := h.store

theorem tablesKept_answerCommit (res data) (s : State) : TablesKept s (answerCommit res data s) := by
  unfold answerCommit
  split
  · exact .refl s
  · exact (tablesKept_respond _ _ _ _ s).trans (tablesKept_updMgmt_aside _ rfl rfl)

theorem uniqueIds_commitSucceeded {w : Writing} (hw : w.image.idsOnce) (h : UniqueIds s) :
    UniqueIds (commitSucceeded w s) := by
  have hr : UniqueIds (answerCommit .done [] (endWrite (swapImage w (written w s)))) :=
    ((tablesKept_endWrite _).trans (tablesKept_answerCommit _ _ _)).ids
      (uniqueIds_swapImage hw (uniqueIds_written hw.1 h))
  unfold commitSucceeded
  dsimp only
  split
  · exact (tablesKept_of_same (same_swapBlocks _ _) (by decide)).ids hr
  · exact (tablesKept_of_same (same_holdSwap _ _) (by decide)).ids hr

theorem uniqueIds_afterReport (h : UniqueIds s) : UniqueIds (afterReport s) := by
  unfold afterReport
  split
  · exact uniqueIds_beginRestart h
  · unfold followOn
    split
    · exact uniqueIds_beginLearnWrite ((tablesKept_updMgmt_aside s rfl rfl).ids h)
    · exact h

theorem uniqueIds_writeSucceeded (h : UniqueIds s) : UniqueIds (writeSucceeded s) := by
  unfold writeSucceeded
  split
  · exact h
  · next w hw =>
    obtain ⟨hlen, honce⟩ := h.writing w hw
    refine uniqueIds_afterReport ?_
    split
    · next hc => exact uniqueIds_commitSucceeded (honce hc) h
    · exact (tablesKept_endWrite _).ids (uniqueIds_written hlen h)

theorem uniqueIds_writeFailed (h : UniqueIds s) : UniqueIds (writeFailed s) := by
  unfold writeFailed
  split
  · exact h
  · have hs : UniqueIds (spoilStore s) := ⟨h.active, h.shadow, h.writing, h.store⟩
    have he := (tablesKept_endWrite _).ids hs
    refine uniqueIds_afterReport ?_
    split
    · exact ((tablesKept_answerCommit _ _ _).trans (tablesKept_of_same (same_openIncident _ _ _) (by decide))).ids he
    · exact (tablesKept_of_same (same_openIncident _ _ _) (by decide)).ids he

/-! ### Links -/

theorem uniqueIds_doRestart (r) (h : UniqueIds s) : UniqueIds (doRestart r s) := by
  have accepted : ∀ t, UniqueIds t → UniqueIds (acceptRestart r t) := by
    intro t ht
    have hm := tablesKept_updMgmt_aside t (f := fun m => { m with restartPending := true, restartTimer := some 200 }) rfl rfl
    have hq : UniqueIds (enqueueRestart r (t.updMgmt fun m => { m with restartPending := true, restartTimer := some 200 })) :=
      (hm.trans (tablesKept_updPort r.port _ _)).ids ht
    unfold acceptRestart
    dsimp only
    split
    · exact hq
    · exact uniqueIds_triggerRestart hq
  have hi := (tablesKept_touchIdle s).ids h
  unfold doRestart
  rcases manage_cases 12#8 0 false _ r s with ⟨_, e⟩ | ⟨_, _, _, e⟩ | ⟨_, _, _, e⟩ | ⟨_, _, _, e⟩ <;> rw [e]
  · exact h
  · exact (tablesKept_respond _ _ _ _ _).ids hi
  · exact (tablesKept_respond _ _ _ _ _).ids hi
  · split
    · exact accepted _ hi
    · exact (tablesKept_respond _ _ _ _ _).ids hi

theorem uniqueIds_request (r : Request) (h : UniqueIds s) : ∀ p ∈ requestsOf r, ∃ t, exec p.2 s = .next t ∧ UniqueIds t := by
  intro p hp
  by_cases hr : p.2 = .restart r
  · exact ⟨_, hr ▸ rfl, uniqueIds_doRestart r h⟩
  · obtain ⟨t, ht, hk⟩ := tablesKept_request r s p hp hr
    exact ⟨t, ht, hk.ids h⟩

theorem uniqueIds_consumeRequest (p f) (h : UniqueIds s) : UniqueIds (consumeRequest p f s) := by
  unfold consumeRequest
  split
  · exact takeRequest_induction _ (uniqueIds_request _ h) ((tablesKept_doUnknown _ _ s).ids h)
  · exact h

theorem uniqueIds_handOff (p f c) (h : UniqueIds s) : UniqueIds (handOff p f c s) := by
  by_cases hc : f.cls = clsMgmtReq
  · unfold handOff
    split
    · rw [if_neg (by simp [hc, clsMgmtReq, clsDemand])]
      exact h
    · rw [if_neg (by simp [hc, clsMgmtReq, clsDiscover])]
      exact h
    · rw [if_pos hc]
      exact uniqueIds_consumeRequest p f h
    · exact h
    · exact h
  · exact (tablesKept_of_same (same_handOff hc p c s) (by decide)).ids h

theorem uniqueIds_receiveFrame (p f o) (h : UniqueIds s) : UniqueIds (receiveFrame p f o s) := by
  unfold receiveFrame
  split
  · have hr : UniqueIds (received p f s) :=
      (tablesKept_of_same (same_received p f s) (by cases p <;> decide)).ids h
    exact applyAction_trans (R := fun u v => UniqueIds u → UniqueIds v) (fun _ => id) (fun k l => l ∘ k)
      (fun _ => uniqueIds_handOff p f _)
      (fun u => (tablesKept_of_same (same_applyPass_ports p f _ u) (by decide)).ids) o _
      ((tablesKept_of_same (same_countHits _ _) (by decide)).ids hr)
  · exact h

theorem uniqueIds_presenceExpired (p) (h : UniqueIds s) : UniqueIds (presenceExpired p s) := by
  have ht : UniqueIds (relayLoses p (s.updPort p PortState.lose)) :=
    ((tablesKept_updPort p _ s).trans (tablesKept_of_same (same_relayLoses p _) (by decide))).ids h
  unfold presenceExpired
  dsimp only
  split
  · exact uniqueIds_triggerRestart ht
  · exact ht

theorem uniqueIds_reportTransmitted (p) (h : UniqueIds s) : UniqueIds (reportTransmitted p s) := by
  have ht := (tablesKept_updPort p PortState.transmitted s).ids h
  unfold reportTransmitted
  dsimp only
  split
  · exact uniqueIds_triggerRestart ht
  · exact ht

/-! ### Every command -/

theorem uniqueIds_onExpiry (h : UniqueIds s) (x : Timer) {f : State → State} (hf : ∀ e, UniqueIds e → UniqueIds (f e)) :
    UniqueIds (onExpiry x f s) := by
  cases x with
  | none => exact h
  | some r => exact hf _ ((tablesKept_elapse r s).ids h)

/-- The commands that load an image keep the IDs once each, and the others keep the images. -/
theorem uniqueIds_exec (h : UniqueIds s) (i : Instr) : ∃ t, exec i s = .next t ∧ UniqueIds t := by
  by_cases hi : mayLoad i = true
  · cases i with
    | frameReceived p f o => exact ⟨_, rfl, uniqueIds_receiveFrame p f o h⟩
    | presenceTimerExpiry p => exact ⟨_, rfl, uniqueIds_onExpiry h _ fun _ => uniqueIds_presenceExpired p⟩
    | linkReportTransmitted p r =>
      refine ⟨_, rfl, ?_⟩
      split
      · exact uniqueIds_reportTransmitted p h
      · exact h
    | telegramTaken => exact ⟨_, rfl, uniqueIds_takeTelegram h⟩
    | restart r => exact ⟨_, rfl, uniqueIds_doRestart r h⟩
    | restartDelayExpiry => exact ⟨_, rfl, uniqueIds_onExpiry h _ fun _ => uniqueIds_triggerRestart⟩
    | storeWriteSucceeded => exact ⟨_, rfl, uniqueIds_writeSucceeded h⟩
    | storeWriteFailed => exact ⟨_, rfl, uniqueIds_writeFailed h⟩
    | coldStart v l => exact ⟨_, rfl, uniqueIds_coldStart v l h⟩
    | _ => exact absurd hi (by simp [mayLoad])
  · obtain ⟨t, ht, hk⟩ := tablesKept_exec (Bool.eq_false_iff.mpr hi) s
    exact ⟨t, ht, hk.ids h⟩

/-- Settles O10: an image becomes active or begins to be written only when validation or a learn has seen its IDs once. -/
theorem stepKeepsIdsUnique : Obligations.StepKeepsIdsUnique := by
  unfold Obligations.StepKeepsIdsUnique
  intro s t h e
  exact step_keeps (P := UniqueIds) (fun s h => (tablesKept_elapse 1 s).ids h)
    (fun _ _ h => ⟨h.active, h.shadow, h.writing, h.store⟩) (fun _ i h => uniqueIds_exec h i) h e

end Sys2Proof.Machine
end

section
/-! PROOFS. The pressure level (O42), and the telegrams that the receive line takes or counts and that the unit drops (O40). -/

namespace Sys2Proof.Machine

variable {s : State}

/-! ### The pressure level (R149) -/

theorem belowFrac_iff (p n f : Nat) : belowFrac p n f = true ↔ p * 256 < n * f := decide_eq_true_iff

theorem nextLevel_normal (r : TuningRec) (n p : Nat) : nextLevel r n p .normal =
    if p * 256 < n * r.critFrac then .critical else if p * 256 < n * r.lowFrac then .low else .normal := by
  simp only [nextLevel, belowFrac_iff]

theorem nextLevel_low (r : TuningRec) (n p : Nat) : nextLevel r n p .low =
    if p * 256 < n * r.critFrac then .critical else if p * 256 < n * r.lowFrac then .low
    else if p * 256 < n * (r.lowFrac + 6) then .low else .normal := by
  simp only [nextLevel, belowFrac_iff]

theorem nextLevel_critical (r : TuningRec) (n p : Nat) : nextLevel r n p .critical =
    if p * 256 < n * r.critFrac then .critical else if p * 256 < n * (r.critFrac + 6) then .critical
    else if p * 256 < n * (r.lowFrac + 6) then .low else .normal := by
  simp only [nextLevel, belowFrac_iff]

/-- Below the CRITICAL threshold every level falls to CRITICAL. -/
theorem nextLevel_of_below_crit {r : TuningRec} {n p : Nat} (h : p * 256 < n * r.critFrac) (l : Level) :
    nextLevel r n p l = .critical := by
  cases l with
  | normal => rw [nextLevel_normal, if_pos h]
  | low => rw [nextLevel_low, if_pos h]
  | critical => rw [nextLevel_critical, if_pos h]

/-- At or above both thresholds a LOW level recovers at the LOW threshold plus 6/256 of nominal. -/
theorem nextLevel_low_of_above {r : TuningRec} {n p : Nat} (hcrit : n * r.critFrac ≤ p * 256) (hlow : n * r.lowFrac ≤ p * 256) :
    nextLevel r n p .low = if p * 256 < n * (r.lowFrac + 6) then .low else .normal := by
  rw [nextLevel_low, if_neg hcrit.not_gt, if_neg hlow.not_gt]

/-- Settles O42: the tables of the three levels, read between the thresholds and the thresholds plus 6/256. -/
theorem pressureLevelHasItsHysteresis : Obligations.PressureLevelHasItsHysteresis := by
  unfold Obligations.PressureLevelHasItsHysteresis
  intro r n p
  refine ⟨fun h l _ => nextLevel_of_below_crit h l, fun hcrit hlow => ?_, fun hcrit hlow => ?_, fun hcrit hhyst => ?_,
    fun hhyst => ?_⟩
  · rw [nextLevel_normal, nextLevel_low, if_neg hcrit.not_gt, if_neg hcrit.not_gt, if_pos hlow, if_pos hlow]
    exact ⟨rfl, rfl⟩
  · rw [nextLevel_normal, nextLevel_low_of_above hcrit hlow, if_neg hcrit.not_gt, if_neg hlow.not_gt]
    by_cases h : p * 256 < n * (r.lowFrac + 6)
    · simp [h, h.not_ge]
    · simp [h, not_lt.mp h]
  · rw [nextLevel_critical, if_neg hcrit.not_gt, if_pos hhyst]
  · have hcrit : n * r.critFrac ≤ p * 256 := (Nat.mul_le_mul_left n (Nat.le_add_right _ 6)).trans hhyst
    rw [nextLevel_critical, if_neg hcrit.not_gt, if_neg hhyst.not_gt]
    by_cases h : p * 256 < n * (r.lowFrac + 6)
    · rw [if_pos h, if_neg h.not_ge]
    · rw [if_neg h, if_pos (not_lt.mp h)]

/-! ### The receive line (R142, R143) -/

/-- The ten bytes of a good telegram (R142). -/
def GoodBytes (b : List Byte) : Prop :=
  b.length = 10 ∧ crc8 (b.take 9) = byteAt b 9 ∧ (byteAt b 6).toNat ≤ 165 ∧ beAt b 4 2 ≤ 1400

/-- The telegram that ten good bytes spell (section 11.4). -/
def telegramAt (now : Time) (b : List Byte) : Telegram :=
  { id := BitVec.ofNat 32 (beAt b 0 4), pressure := beAt b 4 2, temp := ((byteAt b 6).toNat : Int) - 40,
    learn := (byteAt b 7).getLsbD 0, alert := (byteAt b 7).getLsbD 1, batteryLow := (byteAt b 7).getLsbD 2,
    seq := (byteAt b 8).setWidth 4, arrival := now }

/-- A temperature code holds −40 °C and above, so that the upper limit of R142 alone refuses one. -/
theorem parseTelegram_refuses (b : List Byte) : (b.length ≠ 10 || crc8 (b.take 9) ≠ byteAt b 9 ||
    decide (((beAt b 6 1 : Int) - 40) < -40) || decide (125 < (beAt b 6 1 : Int) - 40) || 1400 < beAt b 4 2) = true ↔
      ¬ GoodBytes b := by
  rw [beAt_one, GoodBytes]
  simp only [Bool.or_eq_true, decide_eq_true_eq]
  constructor
  · rintro h ⟨hlen, hcrc, htemp, hpressure⟩
    rcases h with (((h | h) | h) | h) | h
    · exact h hlen
    · exact h hcrc
    all_goals omega
  · intro h
    by_contra hn
    exact h ⟨by omega, by tauto, by omega, by omega⟩

theorem parseTelegram_of_good {b : List Byte} (h : GoodBytes b) (now : Time) :
    parseTelegram now b = some (telegramAt now b) := by
  have hn : ¬ _ := fun hr => (parseTelegram_refuses b).mp hr h
  unfold parseTelegram telegramAt
  dsimp only
  rw [if_neg hn, beAt_one]

theorem parseTelegram_of_not_good {b : List Byte} (h : ¬ GoodBytes b) (now : Time) : parseTelegram now b = none :=
  if_pos ((parseTelegram_refuses b).mpr h)

section
variable (hs : s.power.state ≠ .sleep) (hu : s.unapplied = none) {b : List Byte}
include hs hu

/-- Awake and with no swap waiting, a good telegram is offered to the FIFO (R143). -/
theorem deliver_of_good (h : GoodBytes b) : deliver b s = s.updTyre fun u =>
    if u.fifo.length < 16 then { u with fifo := u.fifo ++ [telegramAt s.time b] } else { u with overflow := true } := by
  unfold deliver
  simp only [if_neg hs, applyHeld_none s hu, parseTelegram_of_good h]

/-- Any other is counted (R142). -/
theorem deliver_of_not_good (h : ¬ GoodBytes b) :
    deliver b s = s.updTyre fun u => { u with errors := satSucc 65535 u.errors } := by
  unfold deliver
  simp only [if_neg hs, applyHeld_none s hu, parseTelegram_of_not_good h]

end

/-! ### Telegrams that the unit drops (R146, R157) -/

/-- The state with the oldest telegram taken from the FIFO. -/
def heard (rest : List Telegram) (s : State) : State := s.updTyre fun u => { u with fifo := rest }

/-- With no swap waiting the unit handles the oldest telegram whole (R143). -/
theorem takeTelegram_eq {x : Telegram} {rest : List Telegram} (hf : s.tyre.fifo = x :: rest) (hu : s.unapplied = none) :
    takeTelegram s = handleTelegram x (heard rest s) := by
  unfold takeTelegram
  rw [hf, applyHeld_none s hu]
  rfl

theorem isDuplicate_iff (q : Position) (fd : IdChoice) (x : Telegram) : isDuplicate q fd x = true ↔
    q.lastSeq = some x.seq ∧ q.lastField = some fd ∧ ∃ u, q.lastTime = some u ∧ (x.arrival - u).toNat < 2000 := by
  unfold isDuplicate interval
  cases q.lastTime <;> simp [and_assoc]

/-- An unknown sensor's telegram is dropped unless it completes a learn. -/
theorem handleTelegram_of_unmatched {x : Telegram} (h : findMatch s.active x.id = none)
    (hl : s.tyre.learn = none ∨ x.learn = false ∨ idHeld s x.id = true) : handleTelegram x s = s := by
  unfold handleTelegram offerLearn
  rw [h]
  dsimp only
  split
  · rfl
  · next l e =>
    refine if_neg ?_
    rcases hl with hl | hl | hl
    · simp [hl] at e
    · simp [hl]
    · simp [hl]

/-- A position that is LEARNING takes no telegram, and none takes a duplicate. -/
theorem handleTelegram_of_matched {x : Telegram} {m : Nat × IdChoice} (h : findMatch s.active x.id = some m)
    (hd : (s.position m.1).state = .learning ∨ isDuplicate (s.position m.1) m.2 x = true) : handleTelegram x s = s := by
  unfold handleTelegram
  rw [h]
  dsimp only
  split
  · rfl
  · next hs => exact if_pos (hd.resolve_left hs)

/-- Settles O40: the checks of R142, the FIFO's two outcomes, and the telegrams that are taken and dropped. -/
theorem telegramsAreCheckedAndDropped : Obligations.TelegramsAreCheckedAndDropped := by
  unfold Obligations.TelegramsAreCheckedAndDropped
  intro s b good x
  refine ⟨fun hs => ?_, fun hs hu => ⟨_, rfl, ?_⟩, fun hf => ?_, fun y rest hf hu hdrop => ⟨heard rest s, ?_, rfl, ?_⟩⟩
  · show Host.Outcome.next (deliver b s) = _
    unfold deliver
    rw [if_pos hs]
  · by_cases h : GoodBytes b
    · rw [deliver_of_good hs hu h]
      exact ⟨fun hn => absurd h hn, fun _ hroom => if_pos hroom, fun _ hfull => if_neg hfull, same_updTyre _ s⟩
    · rw [deliver_of_not_good hs hu h]
      exact ⟨fun _ => rfl, fun hg => absurd hg h, fun hg => absurd hg h, same_updTyre _ s⟩
  · show Host.Outcome.next (takeTelegram s) = _
    unfold takeTelegram
    rw [hf]
  · show Host.Outcome.next (takeTelegram s) = _
    rw [takeTelegram_eq hf hu]
    rcases hdrop with ⟨hm, hl⟩ | ⟨m, hm, hd⟩
    · rw [handleTelegram_of_unmatched (s := heard rest s) hm hl]
    · rw [handleTelegram_of_matched (s := heard rest s) hm (hd.imp_right (isDuplicate_iff _ _ _).mpr)]
  · exact same_updTyre _ s

end Sys2Proof.Machine
end

section
/-! PROOFS. A telegram that a position accepts (O41): its record, its incidents and its state (R147 to R151, R154). -/

namespace Sys2Proof.Machine

variable {s t : State} {i : Nat}

/-! ### Incidents that stay OPEN (R173) -/

/-- An opening that merges into no record appends one. -/
theorem openIncident_appends {k : IncidentKind} {d : Nat} (h : ¬ HasOpen k d s) : (openIncident k d s).incidents =
    makeRoom s.incidents ++ [{ kind := k, detail := d, repeats := 0, opened := s.time, closed := none }] := by
  unfold openIncident
  rw [if_neg]
  intro hany
  obtain ⟨x, hx, ho⟩ := List.any_eq_true.mp hany
  exact h ⟨x, hx, (openFor_iff k d x).mp ho⟩

/-- Room is made of a CLOSED record or the oldest, so that the newest record stays while it is OPEN. -/
theorem last_mem_makeRoom {x : Incident} (hx : x.closed = none) (l : List Incident) : x ∈ makeRoom (l ++ [x]) := by
  have hl : x ∈ l ++ [x] := List.mem_append_right _ (List.mem_singleton.mpr rfl)
  unfold makeRoom
  split
  · exact hl
  · next hlen =>
    split
    · exact (List.mem_eraseP_of_neg (by simp [hx])).mpr hl
    · cases l with
      | nil => simp at hlen
      | cons y l => simp

/-- An incident that has just opened is OPEN after the next opening, which may evict another record. -/
theorem hasOpen_after_openIncident {k : IncidentKind} {d : Nat} (h : ¬ HasOpen k d s) (k' : IncidentKind) (d' : Nat) :
    HasOpen k d (openIncident k' d' (openIncident k d s)) := by
  have hlist := openIncident_appends h
  generalize openIncident k d s = u at hlist
  unfold openIncident
  split
  · refine ⟨_, List.mem_map_of_mem (hlist ▸ List.mem_append_right _ (List.mem_singleton.mpr rfl)), ?_⟩
    split <;> exact ⟨rfl, rfl, rfl⟩
  · exact ⟨_, List.mem_append_left _ (hlist ▸ last_mem_makeRoom rfl _), rfl, rfl, rfl⟩

/-- The TYRE_CRITICAL incident of a position follows its level (R154). -/
def criticalFollows (i : Nat) (old new : Position) (s : State) : State :=
  if new.level = .critical && old.level ≠ .critical then openIncident .tyreCritical i s
  else if old.level = .critical && new.level ≠ .critical then closeIncident .tyreCritical i s
  else s

/-- The TYRE_LEAK incident of a position follows its leak flag (R154). -/
def leakFollows (i : Nat) (old new : Position) (s : State) : State :=
  if new.leak && !old.leak then openIncident .tyreLeak i s
  else if old.leak && !new.leak then closeIncident .tyreLeak i s
  else s

theorem tyreIncidents_eq (i : Nat) (old new : Position) (s : State) :
    tyreIncidents i old new s = leakFollows i old new (criticalFollows i old new s) := rfl

/-- The incidents of level and leak flag are no TYRE_MISSING. -/
theorem hasOpen_missing_of_tyreIncidents {a b : Position} (h : HasOpen .tyreMissing i (tyreIncidents i a b s)) :
    HasOpen .tyreMissing i s := by
  have opened : ∀ {k u}, k ≠ .tyreMissing → HasOpen .tyreMissing i (openIncident k i u) → HasOpen .tyreMissing i u :=
    fun hk => hasOpen_of_openIncident fun ⟨e, _⟩ => hk e
  have closed : ∀ {k u}, HasOpen .tyreMissing i (closeIncident k i u) → HasOpen .tyreMissing i u := fun {k u} =>
    unopened_closeIncident k i u .tyreMissing (by decide)
  have hcritical : HasOpen .tyreMissing i (criticalFollows i a b s) := by
    rw [tyreIncidents_eq, leakFollows] at h
    split at h
    · exact opened (by decide) h
    · split at h
      · exact closed h
      · exact h
  unfold criticalFollows at hcritical
  split at hcritical
  · exact opened (by decide) hcritical
  · split at hcritical
    · exact closed hcritical
    · exact hcritical

/-- A leak flag that is set opens TYRE_LEAK. -/
theorem hasOpen_leak_tyreIncidents {a b : Position} (hb : b.leak = true) (ha : a.leak = false) (i : Nat) (s : State) :
    HasOpen .tyreLeak i (tyreIncidents i a b s) := by
  rw [tyreIncidents_eq, leakFollows, if_pos (by simp [hb, ha])]
  exact hasOpen_openIncident .tyreLeak i _

/-- A level that becomes CRITICAL opens TYRE_CRITICAL, and an opening of TYRE_LEAK with it evicts another record. -/
theorem hasOpen_critical_tyreIncidents {a b : Position} (hb : b.level = .critical) (ha : a.level ≠ .critical)
    (h : b.leak = true → a.leak = false → ¬ HasOpen .tyreCritical i s) : HasOpen .tyreCritical i (tyreIncidents i a b s) := by
  have ho := hasOpen_openIncident .tyreCritical i s
  have hc : criticalFollows i a b s = openIncident .tyreCritical i s := if_pos (by simp [hb, ha])
  rw [tyreIncidents_eq, hc, leakFollows]
  split
  · next hl =>
    obtain ⟨hbl, hal⟩ : b.leak = true ∧ a.leak = false := by simpa using hl
    exact hasOpen_after_openIncident (h hbl hal) _ _
  · split
    · exact hasOpen_closeIncident (by decide) ho
    · exact ho

/-! ### The record of an accepted telegram (R148, R151) -/

/-- The state after a position's record is written and its incidents have followed (R148, R154). -/
def followed (i : Nat) (new : Position) (s : State) : State :=
  let u := tyreIncidents i (s.position i) new (s.updPosition i fun _ => new)
  if (s.position i).state = .missing then closeIncident .tyreMissing i u else u

theorem acceptTelegram_eq (i : Nat) (fd : IdChoice) (x : Telegram) (s : State) : acceptTelegram i fd x s =
    tyreSettle (setTyreState i (deriveState (acceptRecord s.active i fd x (s.position i)).leak
      (acceptRecord s.active i fd x (s.position i)).level) (followed i (acceptRecord s.active i fd x (s.position i)) s)) := rfl

theorem followed_tyre (i : Nat) (new : Position) (s : State) : (followed i new s).tyre = (s.updPosition i fun _ => new).tyre := by
  unfold followed
  dsimp only
  split
  · exact tyreIncidents_tyre _ _ _ _
  · exact tyreIncidents_tyre _ _ _ _

/-- The accepted telegram's position holds the new record in the derived state; the others are as they were. -/
theorem acceptTelegram_position (hi : i < s.tyre.positions.length) (fd : IdChoice) (x : Telegram) (j : Nat) :
    (acceptTelegram i fd x s).position j =
      if j = i then { acceptRecord s.active i fd x (s.position i) with
        state := deriveState (acceptRecord s.active i fd x (s.position i)).leak
          (acceptRecord s.active i fd x (s.position i)).level }
      else s.position j := by
  rw [acceptTelegram_eq]
  generalize acceptRecord s.active i fd x (s.position i) = new
  have htyre := followed_tyre i new s
  have hlen : i < (followed i new s).tyre.positions.length := by
    rw [htyre]
    exact (List.length_modify ..).symm ▸ hi
  rw [tyreSettle_position, setTyreState_position hlen, position_congr htyre, position_congr htyre,
    updPosition_position i i _ s hi, updPosition_position i j _ s hi, if_pos rfl]
  split <;> rfl

/-- The lamp is all that the tyre unit changes of its own when it settles (R155). -/
theorem tyreSettle_tyre (s : State) : (tyreSettle s).tyre = { s.tyre with
    lamp := (tyreSettle s).tyre.lamp, lampOn := (tyreSettle s).tyre.lampOn, blink := (tyreSettle s).tyre.blink } := by
  unfold tyreSettle driveLamp
  dsimp only
  split <;> rfl

theorem setTyreState_tyre (i : Nat) (st : TyreState) (s : State) :
    (setTyreState i st s).tyre = (s.updPosition i fun q => { q with state := st }).tyre := by
  unfold setTyreState
  dsimp only
  split
  · rfl
  · exact (same_originateTyre _ _).at .tyre (by decide)

/-- An accepted telegram changes nothing of the receive line. -/
theorem acceptTelegram_line (i : Nat) (fd : IdChoice) (x : Telegram) (s : State) :
    (acceptTelegram i fd x s).tyre.fifo = s.tyre.fifo ∧ (acceptTelegram i fd x s).tyre.errors = s.tyre.errors ∧
      (acceptTelegram i fd x s).tyre.overflow = s.tyre.overflow := by
  rw [acceptTelegram_eq, tyreSettle_tyre, setTyreState_tyre]
  show (followed i _ s).tyre.fifo = _ ∧ (followed i _ s).tyre.errors = _ ∧ (followed i _ s).tyre.overflow = _
  rw [followed_tyre]
  exact ⟨rfl, rfl, rfl⟩

/-- Neither the change of state nor the lamp moves an incident. -/
theorem hasOpen_acceptTelegram (k : IncidentKind) (d i : Nat) (fd : IdChoice) (x : Telegram) (s : State) :
    HasOpen k d (acceptTelegram i fd x s) ↔ HasOpen k d (followed i (acceptRecord s.active i fd x (s.position i)) s) :=
  hasOpen_congr (SameBut.at (L := [.tyre, .portA, .channels, .load])
    ((same_setTyreState i _ _).comp (same_tyreSettle _) (by decide) (by decide)) .incidents (by decide)) k d

/-- What is OPEN of level and leak flag stays OPEN when TYRE_MISSING closes. -/
theorem hasOpen_followed {k : IncidentKind} {new : Position} (hk : k ≠ .tyreMissing)
    (h : HasOpen k i (tyreIncidents i (s.position i) new (s.updPosition i fun _ => new))) : HasOpen k i (followed i new s) := by
  unfold followed
  dsimp only
  split
  · exact hasOpen_closeIncident hk h
  · exact h

/-- A position that was MISSING has its incident closed (R154). -/
theorem not_hasOpen_missing_followed (h : (s.position i).state = .missing) (new : Position) :
    ¬ HasOpen .tyreMissing i (followed i new s) := by
  unfold followed
  rw [if_pos h]
  exact not_hasOpen_closeIncident .tyreMissing i _

theorem pushHistory_eq {l : List (Time × Nat)} (h : l.length ≤ 4) (e : Time × Nat) :
    pushHistory l e = (l ++ [e]).drop (l.length + 1 - 4) := by
  unfold pushHistory
  dsimp only
  rw [List.length_append, List.length_singleton]
  split
  · rw [show l.length + 1 - 4 = 1 by omega, List.drop_one]
  · rw [show l.length + 1 - 4 = 0 by omega, List.drop_zero]

/-- A position that a match names is one of the sixteen (R146). -/
theorem findMatch_lt {img : Image} {x : BitVec 32} {fd : IdChoice} (h : findMatch img x = some (i, fd)) : i < 16 := by
  obtain ⟨j, hj, hm⟩ := List.exists_of_findSome?_eq_some h
  have hji : j = i := by
    dsimp only at hm
    split at hm
    · exact absurd hm (by simp)
    · split at hm
      · exact congrArg Prod.fst (Option.some.inj hm)
      · split at hm
        · exact congrArg Prod.fst (Option.some.inj hm)
        · exact absurd hm (by simp)
  exact hji ▸ List.mem_range.mp hj

theorem handleTelegram_of_accepted {x : Telegram} {fd : IdChoice} (hm : findMatch s.active x.id = some (i, fd))
    (hl : (s.position i).state ≠ .learning) (hd : isDuplicate (s.position i) fd x = false) :
    handleTelegram x s = acceptTelegram i fd x s := by
  unfold handleTelegram
  rw [hm]
  dsimp only
  rw [if_neg hl, if_neg (by simp [hd])]

/-- Settles O41: the record of R148 in its derived state, and the incidents that its level and leak flag open. -/
theorem telegramIsAccepted : Obligations.TelegramIsAccepted := by
  unfold Obligations.TelegramIsAccepted
  intro s x rest i fd q d p h hu hf h16 hhistory hm hl hd
  have hi : i < (heard rest s).tyre.positions.length := h16.symm ▸ findMatch_lt hm
  have hpos := acceptTelegram_position hi fd x
  have hrec : acceptRecord (heard rest s).active i fd x ((heard rest s).position i) = { q with
      lastP := some p, lastTemp := some x.temp, lastSeq := some x.seq, lastField := some fd,
      lastTime := some x.arrival, batteryLow := x.batteryLow, history := h,
      missing := some (s.active.tuning.missing * 60000),
      level := nextLevel s.active.tuning (s.active.tyre i).nominal p q.level,
      leak := nextLeak s.active.tuning.leak (lossRate h) x.alert q.leak } := by
    have hh : pushHistory q.history (x.arrival, p) = h := pushHistory_eq hhistory _
    rw [← hh]
    rfl
  rw [hrec] at hpos
  obtain ⟨hfifo, herrors, hoverflow⟩ := acceptTelegram_line i fd x (heard rest s)
  have hopen := fun k => hasOpen_acceptTelegram k i i fd x (heard rest s)
  rw [hrec] at hopen
  refine ⟨acceptTelegram i fd x (heard rest s), ?_, ?_, fun j _ hj => (hpos j).trans (if_neg hj), hfifo,
    acceptTelegram_learn _ _ _ _, herrors, hoverflow, ?_, ?_, ?_, ?_⟩
  · show Host.Outcome.next (takeTelegram s) = _
    rw [takeTelegram_eq hf hu, handleTelegram_of_accepted (s := heard rest s) hm hl hd]
  · rw [hpos i, if_pos rfl]
  · rw [hpos i, if_pos rfl, hopen]
    exact fun hb ha hn => hasOpen_followed (by decide) (hasOpen_critical_tyreIncidents hb ha hn)
  · rw [hpos i, if_pos rfl, hopen]
    exact fun hb ha => hasOpen_followed (by decide) (hasOpen_leak_tyreIncidents hb ha i _)
  · rw [hopen]
    exact fun hs => not_hasOpen_missing_followed (s := heard rest s) hs _
  · exact (same_updTyre _ s).comp (same_acceptTelegram _ _ _ _) (by decide) (by decide)

end Sys2Proof.Machine
end

section
/-! PROOFS. A learn that its first candidate completes (O43), and the silence of a position and the end of a learn at their
timers' expiry (O44). -/

namespace Sys2Proof.Machine

variable {s t : State} {i : Nat} {l : Learn} {x : Telegram}

/-! ### The tables at a learn (R157, R170) -/

/-- The state whose images and store hold a learned ID, or are about to (R157, R170). -/
def idStored (l : Learn) (x : Telegram) (s : State) : State := storeLearned (writeLearned l.pos l.field x.id s)

theorem same_idStored (l : Learn) (x : Telegram) (s : State) : SameBut [.active, .mgmt] s (idStored l x s) := by
  have hw : SameBut [.active, .mgmt] s (writeLearned l.pos l.field x.id s) := by
    intro p hp; cases p <;> simp at hp <;> rfl
  exact hw.comp (same_storeLearned _) (by decide) (by decide)

theorem storeLearned_mgmt (s : State) : (storeLearned s).mgmt =
    if s.mgmt.writing.isSome then { s.mgmt with followOn := true }
    else { s.mgmt with writing := some { image := s.active, generation := s.generation, commit := false } } := by
  unfold storeLearned beginLearnWrite State.storeWriting
  split <;> rfl

theorem idStored_active (l : Learn) (x : Telegram) (s : State) :
    (idStored l x s).active = writeId l.pos l.field x.id s.active := (same_storeLearned _).at .active (by decide)

theorem idStored_shadow (l : Learn) (x : Telegram) (s : State) :
    (idStored l x s).mgmt.shadow = s.mgmt.shadow.map (writeId l.pos l.field x.id) := by
  unfold idStored
  rw [storeLearned_mgmt]
  split <;> rfl

/-- With no write in progress the write of the active image begins (R170). -/
theorem idStored_idle (h : s.mgmt.writing = none) (l : Learn) (x : Telegram) :
    (idStored l x s).mgmt.writing =
      some { image := writeId l.pos l.field x.id s.active, generation := s.generation, commit := false } ∧
    (idStored l x s).mgmt.followOn = s.mgmt.followOn := by
  unfold idStored
  rw [storeLearned_mgmt, if_neg (by simp [writeLearned, h])]
  exact ⟨rfl, rfl⟩

/-- A write in progress is followed by another, and a commit's image holds the ID (R157, R170). -/
theorem idStored_writing {w : Writing} (h : s.mgmt.writing = some w) (l : Learn) (x : Telegram) :
    (idStored l x s).mgmt.followOn = true ∧ (idStored l x s).mgmt.writing =
      some (if w.commit then { w with image := writeId l.pos l.field x.id w.image } else w) := by
  unfold idStored
  rw [storeLearned_mgmt, if_pos (by simp [writeLearned, h])]
  exact ⟨rfl, congrArg (Option.map _) h⟩

/-! ### The position at a learn (R157) -/

/-- The state in which the learned position accepts its first telegram: afresh, its incidents closed, the learn at its end. -/
def learnEnded (l : Learn) (x : Telegram) (s : State) : State :=
  withLearn none (closeTyreIncidents l.pos ((idStored l x s).updPosition l.pos fun _ =>
    Position.cleared .learning (some (missingTimeout (idStored l x s).active))))

theorem completeLearn_eq (l : Learn) (x : Telegram) (s : State) :
    completeLearn l x s = acceptTelegram l.pos l.field x (learnEnded l x s) := rfl

theorem same_learnEnded (l : Learn) (x : Telegram) (s : State) :
    SameBut [.incidents, .tyre] (idStored l x s) (learnEnded l x s) :=
  ((same_updPosition _ _ _).comp (N := [.incidents, .tyre]) (same_closeTyreIncidents l.pos _) (by decide) (by decide)).comp
    (same_updTyre _ _) (by decide) (by decide)

theorem learnEnded_active (l : Learn) (x : Telegram) (s : State) :
    (learnEnded l x s).active = writeId l.pos l.field x.id s.active :=
  ((same_learnEnded l x s).at .active (by decide) : _ = _).trans (idStored_active l x s)

theorem learnEnded_tyre (l : Learn) (x : Telegram) (s : State) : (learnEnded l x s).tyre = { s.tyre with
    positions := s.tyre.positions.modify l.pos fun _ => Position.cleared .learning (some (missingTimeout s.active))
    learn := none } := by
  have htyre : (idStored l x s).tyre = s.tyre := (same_idStored l x s).at .tyre (by decide)
  have htimeout : missingTimeout (idStored l x s).active = missingTimeout s.active := by rw [idStored_active]; rfl
  show ({ (idStored l x s).tyre with positions := (idStored l x s).tyre.positions.modify l.pos _, learn := none } : Tyre) = _
  rw [htyre, htimeout]

theorem learnEnded_position (h : l.pos < s.tyre.positions.length) (x : Telegram) :
    (learnEnded l x s).position l.pos = Position.cleared .learning (some (missingTimeout s.active)) := by
  simp [State.position, learnEnded_tyre, List.getD_eq_getElem?_getD, h]

/-- All that the learn changes once its ID is in the images. -/
theorem same_completeLearn (l : Learn) (x : Telegram) (s : State) :
    SameBut [.incidents, .portA, .channels, .load, .tyre] (idStored l x s) (completeLearn l x s) :=
  (same_learnEnded l x s).comp (same_acceptTelegram _ _ _ _) (by decide) (by decide)

theorem completeLearn_active (l : Learn) (x : Telegram) (s : State) :
    (completeLearn l x s).active = writeId l.pos l.field x.id s.active :=
  ((same_completeLearn l x s).at .active (by decide) : _ = _).trans (idStored_active l x s)

theorem completeLearn_mgmt (l : Learn) (x : Telegram) (s : State) : (completeLearn l x s).mgmt = (idStored l x s).mgmt :=
  (same_completeLearn l x s).at .mgmt (by decide)

theorem completeLearn_generation (l : Learn) (x : Telegram) (s : State) : (completeLearn l x s).generation = s.generation :=
  ((same_completeLearn l x s).at .generation (by decide) : _ = _).trans ((same_idStored l x s).at .generation (by decide))

theorem completeLearn_learn (l : Learn) (x : Telegram) (s : State) : (completeLearn l x s).tyre.learn = none := by
  rw [completeLearn_eq, acceptTelegram_learn, learnEnded_tyre]

theorem completeLearn_fifo (l : Learn) (x : Telegram) (s : State) : (completeLearn l x s).tyre.fifo = s.tyre.fifo := by
  rw [completeLearn_eq, (acceptTelegram_line _ _ _ _).1, learnEnded_tyre]

/-- What the first telegram gives a position that starts afresh (R148, R150, R151, R157). -/
structure LearnedRecord (img : Image) (fd : IdChoice) (x : Telegram) (q : Position) : Prop where
  field   : q.lastField = some fd
  history : q.history.length = 1
  leak    : q.leak = x.alert
  state   : q.state = deriveState q.leak q.level
  missing : q.missing = some (img.tuning.missing * 60000)

/-- With no loss rate and no leak before, the ALERT flag is the leak flag (R150). -/
theorem nextLeak_first (threshold : Nat) (alert : Bool) : nextLeak threshold none alert false = alert := by
  unfold nextLeak
  split <;> simp_all

/-- The learned position's record, its history of one entry giving no loss rate (R150, R157). -/
theorem learnedRecord_completeLearn (h : l.pos < s.tyre.positions.length) (x : Telegram) :
    LearnedRecord s.active l.field x ((completeLearn l x s).position l.pos) := by
  have hlen : l.pos < (learnEnded l x s).tyre.positions.length := by
    rw [learnEnded_tyre]
    exact (List.length_modify ..).symm ▸ h
  have hp := (acceptTelegram_position hlen l.field x l.pos).trans (if_pos rfl)
  rw [learnEnded_position h, learnEnded_active] at hp
  rw [completeLearn_eq, hp]
  exact ⟨rfl, rfl, nextLeak_first s.active.tuning.leak x.alert, rfl, rfl⟩

/-- An accepted telegram opens no TYRE_MISSING. -/
theorem hasOpen_missing_of_acceptTelegram {fd : IdChoice} (h : HasOpen .tyreMissing i (acceptTelegram i fd x s)) :
    HasOpen .tyreMissing i s := by
  rw [hasOpen_acceptTelegram] at h
  generalize acceptRecord s.active i fd x (s.position i) = new at h
  have hu : HasOpen .tyreMissing i (s.updPosition i fun _ => new) → HasOpen .tyreMissing i s := id
  unfold followed at h
  dsimp only at h
  split at h
  · exact absurd h (not_hasOpen_closeIncident .tyreMissing i _)
  · exact hu (hasOpen_missing_of_tyreIncidents h)

/-- After the learn no TYRE_MISSING of the position is open (R154). -/
theorem not_hasOpen_missing_completeLearn (l : Learn) (x : Telegram) (s : State) :
    ¬ HasOpen .tyreMissing l.pos (completeLearn l x s) := by
  have hclosed : ∀ u, ¬ HasOpen .tyreMissing l.pos (withLearn none (closeTyreIncidents l.pos u)) := fun u =>
    not_hasOpen_closeTyreIncidents l.pos u .tyreMissing (by decide)
  rw [completeLearn_eq]
  exact fun ho => hclosed _ (hasOpen_missing_of_acceptTelegram ho)

/-- The first candidate completes the learn (R157). -/
theorem handleTelegram_of_candidate (hl : s.tyre.learn = some l) (hm : findMatch s.active x.id = none)
    (hx : x.learn = true) (hid : idHeld s x.id = false) : handleTelegram x s = completeLearn l x s := by
  unfold handleTelegram offerLearn
  rw [hm, hl]
  exact if_pos (by simp [hx, hid])

/-- Settles O43: the images and the store's write, and then an accepted telegram at a position that starts afresh. -/
theorem learnTakesTheFirstCandidate : Obligations.LearnTakesTheFirstCandidate := by
  unfold Obligations.LearnTakesTheFirstCandidate
  intro s x rest l hu hf h16 hl hlt hm hx hid
  have hexec : exec .telegramTaken s = .next (completeLearn l x (heard rest s)) := by
    show Host.Outcome.next (takeTelegram s) = _
    rw [takeTelegram_eq hf hu, handleTelegram_of_candidate (s := heard rest s) hl hm hx hid]
  have hactive := completeLearn_active l x (heard rest s)
  have hrec := learnedRecord_completeLearn (s := heard rest s) (l := l) (h16.symm ▸ hlt) x
  refine ⟨_, hexec, completeLearn_learn l x _, completeLearn_fifo l x _, hactive, completeLearn_generation l x _, ?_,
    fun hw => ?_, fun w hw => ?_, hrec.field, hrec.history, hrec.leak, hrec.state, hrec.missing,
    not_hasOpen_missing_completeLearn l x _, ?_⟩
  · rw [completeLearn_mgmt]
    exact idStored_shadow l x _
  · rw [completeLearn_mgmt, hactive]
    exact idStored_idle (s := heard rest s) hw l x
  · rw [completeLearn_mgmt]
    exact idStored_writing (s := heard rest s) hw l x
  · have hs : SameBut [.tyre] s (heard rest s) := same_updTyre _ s
    exact (hs.comp (N := [.active, .tyre, .mgmt]) (same_idStored l x _) (by decide) (by decide)).comp
      (same_completeLearn l x _) (by decide) (by decide)

/-! ### Silence (R152, R154) -/

/-- The state with a position's missing timer stopped. -/
def untimed (i : Nat) (s : State) : State := s.updPosition i fun q => { q with missing := none }

theorem untimed_position (hi : i < s.tyre.positions.length) (j : Nat) :
    (untimed i s).position j = if j = i then { s.position i with missing := none } else s.position j := by
  rw [untimed, updPosition_position i j _ s hi]
  split
  · next e => rw [e]
  · rfl

/-- A stopped timer leaves the state of its position. -/
theorem untimed_state (i : Nat) (s : State) : ((untimed i s).position i).state = (s.position i).state := by
  by_cases hi : i < s.tyre.positions.length
  · rw [untimed_position hi, if_pos rfl]
  · simp [untimed, State.position, State.updPosition, List.getD_eq_getElem?_getD, not_lt.mp hi]

theorem fallSilent_of_missing (h : (s.position i).state = .missing) : fallSilent i s = untimed i s := by
  have hs := (untimed_state i s).trans h
  unfold fallSilent
  dsimp only
  split
  · next e => exact absurd (e.symm.trans hs) TyreState.noConfusion
  · rfl
  · next _ hn => exact absurd hs hn

theorem fallSilent_of_other (hl : (s.position i).state ≠ .learning) (hm : (s.position i).state ≠ .missing) :
    fallSilent i s = tyreSettle (openIncident .tyreMissing i (setTyreState i .missing (untimed i s))) := by
  have hs := untimed_state i s
  unfold fallSilent
  dsimp only
  split
  · next e => exact absurd (hs.symm.trans e) hl
  · next e => exact absurd (hs.symm.trans e) hm
  · rfl

/-- A LEARNING position's saved state becomes MISSING (R152, R156). -/
theorem fallSilent_of_learning (hl : s.tyre.learn = some l) (hp : l.pos = i) (hs : (s.position i).state = .learning) :
    fallSilent i s = if l.saved = .missing then untimed i s
      else tyreSettle (openIncident .tyreMissing i (withLearn (some { l with saved := .missing }) (untimed i s))) := by
  have hst := (untimed_state i s).trans hs
  have hsaved : fallSilent i s = savedMissing i (untimed i s) := by
    unfold fallSilent
    dsimp only
    split
    · rfl
    · next e => exact absurd (hst.symm.trans e) TyreState.noConfusion
    · next hn _ => exact absurd hst hn
  have hlearn : (untimed i s).tyre.learn = some l := hl
  rw [hsaved, savedMissing, hlearn]
  by_cases h : l.saved = .missing
  · rw [if_pos h]
    exact if_neg (by simp [h])
  · rw [if_neg h]
    exact if_pos (by simp [h, hp])

/-- Out of LEARNING the position becomes MISSING, and a learn elsewhere goes on. -/
theorem fallSilent_position (hi : i < s.tyre.positions.length) (hl : (s.position i).state ≠ .learning) :
    (fallSilent i s).position i = { s.position i with missing := none, state := .missing } ∧
      (fallSilent i s).tyre.learn = s.tyre.learn := by
  have hp := (untimed_position hi i).trans (if_pos rfl)
  by_cases hm : (s.position i).state = .missing
  · rw [fallSilent_of_missing hm, hp, ← hm]
    exact ⟨rfl, rfl⟩
  · have hlen : i < (untimed i s).tyre.positions.length := (List.length_modify ..).symm ▸ hi
    rw [fallSilent_of_other hl hm, tyreSettle_position, tyreSettle_learn, position_congr (openIncident_tyre _ _ _),
      openIncident_tyre, setTyreState_learn, setTyreState_position hlen, if_pos rfl, hp]
    exact ⟨rfl, rfl⟩

/-- The lamp and the loads move no incident. -/
theorem hasOpen_tyreSettle {k : IncidentKind} {d : Nat} : HasOpen k d (tyreSettle s) ↔ HasOpen k d s :=
  hasOpen_congr ((same_tyreSettle s).at .incidents (by decide)) k d

/-- A LEARNING position keeps its state, and its saved state is MISSING with the incident that follows it (log entry 24). -/
theorem fallSilent_learning (hi : i < s.tyre.positions.length) (hl : s.tyre.learn = some l) (hp : l.pos = i)
    (hs : (s.position i).state = .learning) :
    (fallSilent i s).position i = { s.position i with missing := none } ∧
      (fallSilent i s).tyre.learn = some { l with saved := .missing } ∧
      (l.saved ≠ .missing → HasOpen .tyreMissing i (fallSilent i s)) := by
  have hu := (untimed_position hi i).trans (if_pos rfl)
  rw [fallSilent_of_learning hl hp hs]
  by_cases hm : l.saved = .missing
  · rw [if_pos hm, ← hm]
    exact ⟨hu, hl, fun hn => absurd rfl hn⟩
  · rw [if_neg hm, tyreSettle_position, tyreSettle_learn, position_congr (openIncident_tyre _ _ _), openIncident_tyre]
    exact ⟨hu, rfl, fun _ => hasOpen_tyreSettle.mpr (hasOpen_openIncident .tyreMissing i _)⟩

/-! ### The two expiries -/

/-- Time runs a position's missing timer down and leaves the rest. -/
theorem elapse_position (r : Nat) (s : State) (i : Nat) :
    (elapse r s).position i = { s.position i with missing := runDown r (s.position i).missing } := by
  show (s.tyre.positions.map fun q => { q with missing := runDown r q.missing }).getD i _ = _
  rw [List.getD_eq_getElem?_getD, List.getElem?_map, State.position, List.getD_eq_getElem?_getD]
  cases s.tyre.positions[i]? <;> rfl

/-- With no swap waiting a missing timer's expiry occurs at its end (R152). -/
theorem exec_missingTimerExpiry_idle {r : Nat} (hi : i < 16) (hu : s.unapplied = none)
    (h : (s.position i).missing = some r) : exec (.missingTimerExpiry i) s = .next (fallSilent i (elapse r s)) := by
  have hzero : ((elapse r s).position i).missing = some 0 := by
    rw [elapse_position, h]
    exact congrArg some (Nat.sub_self r)
  rw [exec_missingTimerExpiry hi h, missingExpired, applyHeld_none (elapse r s) hu]
  exact congrArg Host.Outcome.next (if_pos hzero)

/-- Settles O44: what silence makes of the position in its state, and the learn's return to the saved state. -/
theorem missingAndLearnTimersExpire : Obligations.MissingAndLearnTimersExpire := by
  unfold Obligations.MissingAndLearnTimersExpire
  intro s r e h16 hu
  have hlen : e.tyre.positions.length = 16 := (List.length_map ..).trans h16
  have hstate : ∀ i, (e.position i).state = (s.position i).state := fun i => by rw [elapse_position]
  refine ⟨fun i hi hr => ?_, fun l hl hr hlt => ?_⟩
  · have hi16 := List.mem_range.mp hi
    have hie : i < e.tyre.positions.length := hlen.symm ▸ hi16
    refine ⟨_, exec_missingTimerExpiry_idle hi16 hu hr, ?_⟩
    rw [← hstate i]
    refine ⟨fun hl _ => fallSilent_position hie hl, fun hm => ?_, fun hm hl => ?_,
      fun l hl hs hp => fallSilent_learning hie hl hp hs, same_fallSilent i e⟩
    · rw [fallSilent_of_missing hm]
      exact ⟨rfl, rfl⟩
    · rw [fallSilent_of_other hl hm]
      exact hasOpen_tyreSettle.mpr (hasOpen_openIncident .tyreMissing i _)
  · have hle : e.tyre.learn = some { l with timer := runDown r l.timer } := by
      show s.tyre.learn.map _ = _
      rw [hl]
      rfl
    have hpos := endLearn_position hle (hlen.symm ▸ hlt)
    refine ⟨endLearn e, ?_, endLearn_learn e, ?_, fun j _ hj => (hpos j).trans (if_neg hj), same_endLearn e⟩
    · show Host.Outcome.next (onExpiry (learnTimer s) endLearn s) = _
      rw [learnTimer, hl]
      dsimp only
      rw [hr]
      rfl
    · rw [hpos l.pos]
      exact congrArg Position.state (if_pos rfl)

end Sys2Proof.Machine
end

section
/-! PROOFS. The passing of time and the timers that stand still (O2). -/

namespace Sys2Proof.Machine

variable {s : State}

theorem elapse_port (r : Nat) (s : State) (p : Port) :
    (elapse r s).port p = { s.port p with presence := runDown r (s.port p).presence } := by
  cases p <;> rfl

theorem same_elapse (r : Nat) (s : State) : SameBut [.time, .portA, .portB, .relay, .chain, .wheel, .channels, .composer,
    .stability, .tyre, .mgmt, .power] s (elapse r s) := by
  intro p hp; cases p <;> simp at hp <;> rfl

/-- A stopped timer has no expiry (log entry 1). -/
theorem next_onExpiry_stopped {timer : Timer} (h : timer = none) (effect : State → State) :
    (Host.Outcome.next (onExpiry timer effect s) : Host.Outcome State Fault Refusal) = .next s := by
  rw [h, onExpiry_none]

theorem learnTimer_of_none (h : s.tyre.learn = none) : learnTimer s = none := by
  unfold learnTimer
  rw [h]

/-- Settles O2: time runs the timers down field by field, and an expiry without a running timer does nothing. -/
theorem idleStepAndStoppedTimers : Obligations.IdleStepAndStoppedTimers := by
  unfold Obligations.IdleStepAndStoppedTimers
  intro s
  refine ⟨fun h => ?idle, fun r => ?elapsed, fun h => next_onExpiry_stopped h _, fun h => next_onExpiry_stopped h _,
    fun h => next_onExpiry_stopped h _, fun h => next_onExpiry_stopped h _, fun _ _ h => next_onExpiry_stopped h _,
    fun _ h => next_onExpiry_stopped h _, fun h => next_onExpiry_stopped h _, fun h => next_onExpiry_stopped h _,
    fun h => next_onExpiry_stopped h _, fun h => next_onExpiry_stopped h _, fun h => next_onExpiry_stopped h _,
    fun i hi h => ?missing, fun h => next_onExpiry_stopped (learnTimer_of_none h) _, fun h => next_onExpiry_stopped h _,
    fun h => next_onExpiry_stopped h _, fun h => next_onExpiry_stopped h _, fun h => next_onExpiry_stopped h _,
    fun h => next_onExpiry_stopped h _, fun h => next_onExpiry_stopped h _, fun h => next_onExpiry_stopped h _,
    fun _ h => next_onExpiry_stopped h _, fun c hc h => ?test⟩
  case idle =>
    unfold step
    rw [h]
  case elapsed =>
    exact ⟨rfl, elapse_port r s, rfl, rfl, rfl, elapse_length r s, fun c _ => elapse_channel r s c, rfl, rfl, rfl,
      List.length_map _, fun i _ => elapse_position r s i, rfl, rfl, same_elapse r s⟩
  case missing =>
    have hexec : exec (.missingTimerExpiry i) s = .next (onExpiry (s.position i).missing (missingExpired i) s) :=
      congrArg Host.Outcome.next (if_pos (List.mem_range.mp hi))
    exact hexec.trans (next_onExpiry_stopped h _)
  case test =>
    have hw : within 1 6 c = true := by simpa [within] using mem_channelNumbers.mp hc
    have hexec : exec (.serviceTestTimerExpiry c) s = .next (onExpiry (s.channel c).testTimer (endTest c) s) :=
      congrArg Host.Outcome.next (if_pos hw)
    exact hexec.trans (next_onExpiry_stopped h _)

end Sys2Proof.Machine
end

section
/-! PROOFS. The incident list (O5): an opening, a closing and a clearing keep it within 16 records and with one OPEN record of
a kind and detail (R173), and no command does anything else to it. -/

namespace Sys2Proof.Machine

variable {s t : State} {L : List Part}

/-! ### What keeps the form of R173 -/

theorem IncidentsWf.of_eq (h : IncidentsWf s) (e : t.incidents = s.incidents) : IncidentsWf t := by
  obtain ⟨hlength, hrepeats, hsingle⟩ := h
  rw [← e] at hlength hrepeats hsingle
  exact ⟨hlength, hrepeats, hsingle⟩

theorem IncidentsWf.of_same (h : IncidentsWf s) (g : SameBut L s t) (d : Part.incidents ∉ L) : IncidentsWf t :=
  h.of_eq (g.at .incidents d)

theorem IncidentsWf.of_sublist (h : IncidentsWf s) (g : t.incidents.Sublist s.incidents) : IncidentsWf t where
  length := g.length_le.trans h.length
  repeats i hi := h.repeats i (g.subset hi)
  single := h.single.sublist g

theorem incidentsWf_of_empty (h : s.incidents = []) : IncidentsWf s where
  length := by simp [h]
  repeats := by simp [h]
  single := by simp [h]

/-- A change of every record that opens none, keeps kinds and details and keeps the repeat counts' limit. -/
theorem IncidentsWf.map {f : Incident → Incident} (h : IncidentsWf s) (e : t.incidents = s.incidents.map f)
    (hrepeats : ∀ i, i.repeats ≤ 255 → (f i).repeats ≤ 255)
    (hclash : ∀ a b, (f a).clash (f b) → a.clash b) : IncidentsWf t where
  length := by rw [e, List.length_map]; exact h.length
  repeats := by
    rw [e, List.forall_mem_map]
    exact fun i hi => hrepeats i (h.repeats i hi)
  single := by
    rw [e, List.pairwise_map]
    exact h.single.imp fun {a b} hn hc => hn (hclash a b hc)

/-! ### Room for one more record -/

theorem makeRoom_sublist (l : List Incident) : (makeRoom l).Sublist l := by
  unfold makeRoom
  split
  · exact .refl l
  · split
    · exact List.eraseP_sublist
    · exact List.tail_sublist l

theorem makeRoom_length {l : List Incident} (h : l.length ≤ 16) : (makeRoom l).length ≤ 15 := by
  unfold makeRoom
  split
  · omega
  · split
    · next hany =>
      obtain ⟨i, hi, hc⟩ := List.any_eq_true.mp hany
      rw [List.length_eraseP_of_mem hi hc]
      omega
    · rw [List.length_tail]
      omega

/-! ### Openings, closings and clearings -/

theorem incidentsWf_openIncident (h : IncidentsWf s) (k : IncidentKind) (d : Nat) : IncidentsWf (openIncident k d s) := by
  unfold openIncident
  split
  · refine h.map rfl (fun i hi => ?_) (fun a b hc => ?_)
    · split
      · exact satSucc_le hi
      · exact hi
    · unfold Incident.clash at hc ⊢
      split at hc <;> split at hc <;> exact hc
  · next hnone =>
    have hsub := makeRoom_sublist s.incidents
    refine ⟨?_, fun i hi => ?_, ?_⟩
    · have := makeRoom_length h.length
      simpa using by omega
    · rcases List.mem_append.mp hi with hi | hi
      · exact h.repeats i (hsub.subset hi)
      · rw [List.mem_singleton.mp hi]
        exact Nat.zero_le _
    · refine List.pairwise_append.mpr ⟨h.single.sublist hsub, List.pairwise_singleton _ _, fun a ha b hb hc => hnone ?_⟩
      obtain ⟨hopen, _, hkind, hdetail⟩ := List.mem_singleton.mp hb ▸ hc
      exact List.any_eq_true.mpr ⟨a, hsub.subset ha, (openFor_iff k d a).mpr ⟨hkind, hdetail, hopen⟩⟩

theorem incidentsWf_closeIncidents (h : IncidentsWf s) (w : Incident → Bool) : IncidentsWf (closeIncidents w s) := by
  refine h.map rfl (fun i hi => ?_) (fun a b hc => ?_)
  · split <;> exact hi
  · unfold Incident.clash at hc ⊢
    split at hc
    · exact absurd hc.1 (by simp)
    · split at hc
      · exact absurd hc.2.1 (by simp)
      · exact hc

theorem incidentsWf_of_moves (m : Moves s t) (h : IncidentsWf s) : IncidentsWf t := by
  induction m with
  | quiet _ _ hI _ => exact h.of_eq hI
  | enqueued p q x _ ih => exact ih.of_eq (enqueue_incidents p q x _)
  | opened k d _ ih => exact incidentsWf_openIncident ih k d
  | closed w _ ih => exact incidentsWf_closeIncidents ih w
  | after _ _ _ hI _ ih => exact ih.of_eq hI

theorem incidentsWf_clearIncidents (h : IncidentsWf s) : IncidentsWf (clearIncidents s) :=
  h.of_sublist (List.filter_sublist)

/-! ### Starts and restarts -/

theorem incidentsWf_loadStore (h : IncidentsWf s) : IncidentsWf (loadStore s) := by
  rcases store_valid_or_invalid s.store with ⟨hc, hv⟩ | hi
  · rw [loadStore_of_valid hc hv]
    exact h.of_eq rfl
  · have hf : IncidentsWf { s with active := factoryImage, generation := 0, configInvalid := true } := h.of_eq rfl
    rw [loadStore_of_invalid hi]
    exact incidentsWf_openIncident hf _ _

theorem incidentsWf_beginRestart (h : IncidentsWf s) : IncidentsWf (beginRestart s) :=
  incidentsWf_of_moves (moves_enterRun _)
    ((incidentsWf_loadStore (incidentsWf_closeIncidents h _)).of_same (same_startBlocks _) (by decide))

theorem incidentsWf_triggerRestart (h : IncidentsWf s) : IncidentsWf (triggerRestart s) := by
  unfold triggerRestart
  split
  · exact h
  · split
    · exact h.of_eq rfl
    · exact incidentsWf_beginRestart h

theorem incidentsWf_coldStart (v link) (s : State) : IncidentsWf (coldStart v link s) := by
  have hl : IncidentsWf (coldLoaded v link s) :=
    (incidentsWf_loadStore (incidentsWf_of_empty (s := coldEmptied s) rfl)).of_eq rfl
  have hb := hl.of_same (same_startBlocks _) (by decide)
  rw [coldStart_eq]
  split
  · exact incidentsWf_of_moves (moves_enterRun _) hb
  · rw [coldSleep_eq]
    exact incidentsWf_of_moves (moves_enterSleep _) (hb.of_same (same_lockedIfLow _) (by decide))

/-! ### Requests -/

theorem incidentsWf_updPort (h : IncidentsWf s) (p f) : IncidentsWf (s.updPort p f) :=
  h.of_same (same_updPort p f s) (by cases p <;> decide)

theorem incidentsWf_acceptRestart (h : IncidentsWf s) (r : Request) : IncidentsWf (acceptRestart r s) := by
  have hq : IncidentsWf (enqueueRestart r (s.updMgmt fun m => { m with restartPending := true, restartTimer := some 200 })) :=
    incidentsWf_updPort (s := s.updMgmt _) (h.of_eq rfl) _ _
  unfold acceptRestart
  dsimp only
  split
  · exact hq
  · exact incidentsWf_triggerRestart hq

/-- A request keeps the form when its own work does. -/
theorem incidentsWf_manage {act : State → State} (h : IncidentsWf s) (hact : ∀ u, IncidentsWf u → IncidentsWf (act u))
    (code need exempt r) : IncidentsWf (manage code need exempt act r s) := by
  have hi := incidentsWf_of_moves (moves_touchIdle s) h
  have hr : ∀ res, IncidentsWf (respond code r res [] (touchIdle s)) :=
    fun res => incidentsWf_of_moves (moves_respond _ _ _ _ _) hi
  rcases manage_cases code need exempt act r s with ⟨_, e⟩ | ⟨_, _, _, e⟩ | ⟨_, _, _, e⟩ | ⟨_, _, _, e⟩ <;> rw [e]
  · exact h
  · exact hr _
  · exact hr _
  · exact hact _ hi

theorem incidentsWf_doRestart (h : IncidentsWf s) (r : Request) : IncidentsWf (doRestart r s) := by
  refine incidentsWf_manage h (fun u hu => ?_) _ _ _ r
  split
  · exact incidentsWf_acceptRestart hu r
  · exact incidentsWf_of_moves (moves_respond _ _ _ _ _) hu

theorem incidentsWf_doClearIncidents (h : IncidentsWf s) (r : Request) : IncidentsWf (doClearIncidents r s) := by
  refine incidentsWf_manage h (fun u hu => ?_) _ _ _ r
  split
  · exact incidentsWf_of_moves (moves_respond _ _ _ _ _) (incidentsWf_clearIncidents hu)
  · exact incidentsWf_of_moves (moves_respond _ _ _ _ _) hu

theorem incidentsWf_request (h : IncidentsWf s) (r : Request) :
    ∀ p ∈ requestsOf r, ∃ t, exec p.2 s = .next t ∧ IncidentsWf t := by
  have hm : ∀ {t}, Moves s t → IncidentsWf t := fun m => incidentsWf_of_moves m h
  simp only [requestsOf, List.forall_mem_cons]
  exact ⟨⟨_, rfl, hm (moves_doIdentify r s)⟩, ⟨_, rfl, hm (moves_doRead r s)⟩, ⟨_, rfl, hm (moves_doEnterService r s)⟩,
    ⟨_, rfl, hm (moves_doLeaveService r s)⟩, ⟨_, rfl, hm (moves_doStage r s)⟩, ⟨_, rfl, hm (moves_doCommit r s)⟩,
    ⟨_, rfl, hm (moves_doDiscard r s)⟩, ⟨_, rfl, hm (moves_doLearnTyre r s)⟩, ⟨_, rfl, hm (moves_doCancelLearn r s)⟩,
    ⟨_, rfl, hm (moves_doServiceTest r s)⟩, ⟨_, rfl, incidentsWf_doClearIncidents h r⟩, ⟨_, rfl, incidentsWf_doRestart h r⟩,
    fun _ hp => (List.not_mem_nil hp).elim⟩

/-! ### Links -/

theorem incidentsWf_applyHandOff (h : IncidentsWf s) (p f a) : IncidentsWf (applyHandOff p f a s) := by
  unfold applyHandOff handOff consumeRequest
  split
  · split
    · split
      · exact incidentsWf_of_moves (moves_consumeDemand _ _ s) h
      · exact h
    · split
      · exact incidentsWf_of_moves (moves_discoverConsume _ _ s) h
      · exact h
    · split
      · split
        · exact takeRequest_induction _ (incidentsWf_request h _) (incidentsWf_of_moves (moves_doUnknown _ _ s) h)
        · exact h
      · exact h
    · exact h
    · exact h
  · exact h

theorem incidentsWf_receiveFrame (h : IncidentsWf s) (p f o) : IncidentsWf (receiveFrame p f o s) := by
  have pass : ∀ {a u}, IncidentsWf u → IncidentsWf (applyPass p f a u) := incidentsWf_of_moves (moves_applyPass p f _ _)
  unfold receiveFrame
  split
  · have hr : IncidentsWf (received p f s) :=
      incidentsWf_of_moves ((moves_startIfNew p _ _).trans (moves_hearWarn p f _)) (incidentsWf_updPort h p _)
    have hc := fun w => hr.of_same (same_countHits w _) (by decide)
    cases o with
    | passFirst => exact incidentsWf_applyHandOff (pass (hc _)) p f _
    | handOffFirst => exact pass (incidentsWf_applyHandOff (hc _) p f _)
  · exact h

theorem incidentsWf_presenceExpired (h : IncidentsWf s) (p) : IncidentsWf (presenceExpired p s) := by
  have ht : IncidentsWf (relayLoses p (s.updPort p PortState.lose)) := by
    refine (incidentsWf_updPort h p PortState.lose).of_eq ?_
    cases p <;> rfl
  unfold presenceExpired
  dsimp only
  split
  · exact incidentsWf_triggerRestart ht
  · exact ht

theorem incidentsWf_reportTransmitted (h : IncidentsWf s) (p) : IncidentsWf (reportTransmitted p s) := by
  have ht := incidentsWf_updPort h p PortState.transmitted
  unfold reportTransmitted
  dsimp only
  split
  · exact incidentsWf_triggerRestart ht
  · exact ht

/-! ### Leaving RUN and the store's reports -/

theorem incidentsWf_leaveRun (h : IncidentsWf s) : IncidentsWf (leaveRun s) := by
  have hl : IncidentsWf (leaveLinks (s.updPower fun p => { p with state := .parkWatch, phase := .parked, settle := none })) :=
    h.of_eq rfl
  have rest : ∀ u, Moves u (leaveComposer (leaveLoad (leaveWheel (stopChain u)))) := fun u =>
    ((moves_stopChain u).trans (.quiet (t := leaveLoad (leaveWheel (stopChain u))) rfl rfl rfl rfl)).trans
      (((moves_updComposer _ _).trans (moves_closeKind _ _)).trans (moves_closeKind _ _))
  have follow : ∀ u, Moves u (endTests (leaveMgmt (endLearn (enterOff (reestablish u))))) := fun u =>
    ((((moves_reestablish u).trans (moves_enterOff _)).trans (moves_endLearn _)).trans (moves_leaveMgmt _)).trans
      (moves_endTests _)
  exact incidentsWf_of_moves (follow _) (incidentsWf_of_moves (rest _) hl)

theorem incidentsWf_powerOff (h : IncidentsWf s) (v) : IncidentsWf (powerOff v s) := by
  have hl : IncidentsWf (turnedOff v s) :=
    incidentsWf_leaveRun (incidentsWf_of_moves ((moves_updPower _ s).trans (moves_updateVoltage _ _)) h)
  rw [powerOff_eq]
  split
  · exact hl.of_eq rfl
  · exact incidentsWf_of_moves (moves_enterSleep _) (hl.of_same (same_lockedIfLow _) (by decide))

theorem incidentsWf_afterReport (h : IncidentsWf s) : IncidentsWf (afterReport s) := by
  unfold afterReport
  split
  · exact incidentsWf_beginRestart h
  · exact incidentsWf_of_moves (moves_followOn s) h

theorem incidentsWf_writeSucceeded (h : IncidentsWf s) : IncidentsWf (writeSucceeded s) := by
  unfold writeSucceeded
  split
  · exact h
  · refine incidentsWf_afterReport ?_
    split
    · exact incidentsWf_of_moves (moves_commitSucceeded _ s) h
    · exact incidentsWf_of_moves ((moves_written _ s).trans (moves_endWrite _)) h

theorem incidentsWf_writeFailed (h : IncidentsWf s) : IncidentsWf (writeFailed s) := by
  unfold writeFailed
  split
  · exact h
  · refine incidentsWf_afterReport ?_
    have he : IncidentsWf (endWrite (spoilStore s)) := h.of_eq rfl
    split
    · exact incidentsWf_of_moves ((moves_answerCommit _ _ _).trans (moves_openIncident _ _ _)) he
    · exact incidentsWf_openIncident he _ _

/-! ### Every command -/

theorem incidentsWf_elapse (h : IncidentsWf s) (r : Nat) : IncidentsWf (elapse r s) := h.of_eq rfl

theorem incidentsWf_onExpiry (h : IncidentsWf s) (timer : Timer) {f : State → State}
    (hf : ∀ e, IncidentsWf e → IncidentsWf (f e)) : IncidentsWf (onExpiry timer f s) := by
  cases timer with
  | none => exact h
  | some r => exact hf _ (incidentsWf_elapse h r)

/-- An expiry whose effect moves keeps the form. -/
theorem incidentsWf_expiry (h : IncidentsWf s) (timer : Timer) {f : State → State} (hf : ∀ e, Moves e (f e)) :
    IncidentsWf (onExpiry timer f s) :=
  incidentsWf_onExpiry h timer fun e he => incidentsWf_of_moves (hf e) he

theorem incidentsWf_exec (h : IncidentsWf s) (i : Instr) : ∃ t, exec i s = .next t ∧ IncidentsWf t := by
  have hm : ∀ {t}, Moves s t → IncidentsWf t := fun m => incidentsWf_of_moves m h
  cases i with
  | frameReceived p f o => exact ⟨_, rfl, incidentsWf_receiveFrame h p f o⟩
  | presenceTimerExpiry p => exact ⟨_, rfl, incidentsWf_onExpiry h _ fun _ he => incidentsWf_presenceExpired he p⟩
  | linkReportTransmitted p r =>
    refine ⟨_, rfl, ?_⟩
    split
    · exact incidentsWf_reportTransmitted h p
    · exact h
  | linkReportNotSent p r =>
    refine ⟨_, rfl, ?_⟩
    split
    · exact incidentsWf_updPort h p _
    · exact h
  | discoveryTimerExpiry => exact ⟨_, rfl, incidentsWf_expiry h _ moves_discoveryExpired⟩
  | warnTimerExpiry => exact ⟨_, rfl, incidentsWf_expiry h _ moves_warnExpired⟩
  | statusTimerExpiry => exact ⟨_, rfl, incidentsWf_expiry h _ moves_statusExpired⟩
  | tyreTimerExpiry => exact ⟨_, rfl, incidentsWf_expiry h _ moves_tyreExpired⟩
  | periodTimerExpiry o => exact ⟨_, rfl, incidentsWf_expiry h _ (moves_periodExpired o)⟩
  | responseListReturn l o => exact ⟨_, rfl, hm (moves_listReturned l o s)⟩
  | stationaryTimerExpiry => exact ⟨_, rfl, incidentsWf_expiry h _ (moves_updWheel _)⟩
  | demandTimerExpiry =>
    exact ⟨_, rfl, incidentsWf_expiry h _ fun e => (moves_updComposer _ e).trans (moves_reestablish _)⟩
  | testWindowExpiry => exact ⟨_, rfl, incidentsWf_expiry h _ moves_testWindow⟩
  | spacingTimerExpiry => exact ⟨_, rfl, incidentsWf_expiry h _ (moves_updStab _)⟩
  | recoverTimerExpiry => exact ⟨_, rfl, incidentsWf_expiry h _ moves_recovered⟩
  | telegramDelivered b => exact ⟨_, rfl, hm (moves_deliver b s)⟩
  | telegramTaken => exact ⟨_, rfl, hm (moves_takeTelegram s)⟩
  | missingTimerExpiry i =>
    refine ⟨_, rfl, ?_⟩
    split
    · exact incidentsWf_expiry h _ (moves_missingExpired i)
    · exact h
  | learnTimerExpiry => exact ⟨_, rfl, incidentsWf_expiry h _ moves_endLearn⟩
  | lampBlinkToggle => exact ⟨_, rfl, incidentsWf_expiry h _ (moves_updTyre _)⟩
  | identify r => exact incidentsWf_request h r (1#8, .identify r) (by simp [requestsOf])
  | read r => exact incidentsWf_request h r (2#8, .read r) (by simp [requestsOf])
  | enterService r => exact incidentsWf_request h r (3#8, .enterService r) (by simp [requestsOf])
  | leaveService r => exact incidentsWf_request h r (4#8, .leaveService r) (by simp [requestsOf])
  | stage r => exact incidentsWf_request h r (5#8, .stage r) (by simp [requestsOf])
  | commit r => exact incidentsWf_request h r (6#8, .commit r) (by simp [requestsOf])
  | discard r => exact incidentsWf_request h r (7#8, .discard r) (by simp [requestsOf])
  | learnTyre r => exact incidentsWf_request h r (8#8, .learnTyre r) (by simp [requestsOf])
  | cancelLearn r => exact incidentsWf_request h r (9#8, .cancelLearn r) (by simp [requestsOf])
  | serviceTest r => exact incidentsWf_request h r (10#8, .serviceTest r) (by simp [requestsOf])
  | clearIncidents r => exact incidentsWf_request h r (11#8, .clearIncidents r) (by simp [requestsOf])
  | restart r => exact incidentsWf_request h r (12#8, .restart r) (by simp [requestsOf])
  | unknownRequest c r => exact ⟨_, rfl, hm (moves_doUnknown c r s)⟩
  | serviceIdleTimerExpiry => exact ⟨_, rfl, incidentsWf_expiry h _ moves_endService⟩
  | restartDelayExpiry => exact ⟨_, rfl, incidentsWf_onExpiry h _ fun _ he => incidentsWf_triggerRestart he⟩
  | storeWriteSucceeded => exact ⟨_, rfl, incidentsWf_writeSucceeded h⟩
  | storeWriteFailed => exact ⟨_, rfl, incidentsWf_writeFailed h⟩
  | coldStart v l => exact ⟨_, rfl, incidentsWf_coldStart v l s⟩
  | linkPowerOff v =>
    refine ⟨_, rfl, ?_⟩
    split
    · exact incidentsWf_powerOff h v
    · exact h.of_eq rfl
  | linkPowerOn => exact ⟨_, rfl, hm (moves_powerOn s)⟩
  | settleTimerExpiry => exact ⟨_, rfl, incidentsWf_expiry h _ moves_settleExpired⟩
  | parkTimerExpiry => exact ⟨_, rfl, incidentsWf_expiry h _ moves_parkExpired⟩
  | wakeTimerExpiry => exact ⟨_, rfl, incidentsWf_expiry h _ moves_wakeExpired⟩
  | wakeLineAsserted => exact ⟨_, rfl, hm (moves_wakeLine s)⟩
  | listenTimerExpiry => exact ⟨_, rfl, incidentsWf_expiry h _ moves_listenExpired⟩
  | batterySampleTimerExpiry v => exact ⟨_, rfl, incidentsWf_expiry h _ (moves_sampleExpired v)⟩
  | serviceTestTimerExpiry c =>
    refine ⟨_, rfl, ?_⟩
    split
    · exact incidentsWf_expiry h _ (moves_endTest c)
    · exact h

/-- Settles O5: openings merge or make room, closings and clearings open nothing, and no command changes the list in another
way. -/
theorem stepKeepsTheIncidentList : Obligations.StepKeepsTheIncidentList := by
  unfold Obligations.StepKeepsTheIncidentList
  intro s t h e
  exact step_keeps (P := IncidentsWf) (fun _ h => incidentsWf_elapse h 1) (fun _ _ h => h.of_eq rfl)
    (fun _ i h => incidentsWf_exec h i) h e

end Sys2Proof.Machine
end

section
/-! PROOFS. The requests that only answer (O46), STAGE's results (O49) and COMMIT's (O51). -/

namespace Sys2Proof.Machine

variable {s t : State} {r : Request} {img img' : Image}

/-! ### IDENTIFY, READ and unknown codes (R161 to R163) -/

/-- IDENTIFY and READ pass the common checks at any time in RUN (R161). -/
theorem manage_of_exempt (ht : taken s r) {code : Byte} {need : Nat} {act : State → State}
    (hn : need ≤ r.args.length) : manage code need true act r s = act (touchIdle s) := by
  simp [manage, (takes_eq_true s r).mpr ht, hn]

theorem exec_identify (ht : taken s r) :
    exec (.identify r) s = .next (respond 1#8 r .done (identifyData (touchIdle s)) (touchIdle s)) :=
  congrArg Host.Outcome.next (manage_of_exempt ht (Nat.zero_le _))

theorem identifyData_touchIdle (s : State) : identifyData (touchIdle s) =
    [0x34#8, 0x01#8, BitVec.ofNat 8 (s.relay.own.getD 7)] ++ beBytes 2 s.generation.toNat := by
  have hrelay : (touchIdle s).relay = s.relay := (same_touchIdle s).at .relay (by decide)
  have hgen : (touchIdle s).generation = s.generation := (same_touchIdle s).at .generation (by decide)
  rw [identifyData, ownCode, hrelay, hgen, beBytes_one]
  rfl

theorem exec_read (ht : taken s r) (hn : 3 ≤ r.args.length) : exec (.read r) s =
    .next (respond 2#8 r (readAnswer (touchIdle s) r.args).1 (readAnswer (touchIdle s) r.args).2 (touchIdle s)) :=
  congrArg Host.Outcome.next (manage_of_exempt ht hn)

/-- No record holds the idle timer (section 11.2). -/
theorem readAnswer_touchIdle (s : State) (args : List Byte) : readAnswer (touchIdle s) args = readAnswer s args := by
  unfold touchIdle
  split <;> rfl

theorem readAnswer_of_view {args : List Byte} (h : 1 < beAt args 2 1) : readAnswer s args = (.badValue, []) := if_pos h

theorem readFrom_length (s : State) (k i off view) : (readFrom s k i off view).2.length ≤ 5 := by
  unfold readFrom
  dsimp only
  split
  · exact Nat.zero_le _
  · exact List.length_take_le _ _

/-- READ gives five bytes at most (R163). -/
theorem readAnswer_length (s : State) (args : List Byte) : (readAnswer s args).2.length ≤ 5 := by
  unfold readAnswer
  dsimp only
  split
  · exact Nat.zero_le _
  · split
    · exact Nat.zero_le _
    · split
      · exact Nat.zero_le _
      · split
        · exact Nat.zero_le _
        · exact readFrom_length _ _ _ _ _

theorem exec_unknownRequest (ht : taken s r) {code : Byte} (hc : knownCode code = false) :
    exec (.unknownRequest code r) s = .next (respond code r .unknown [] s) :=
  congrArg Host.Outcome.next (if_pos (by simp [(takes_eq_true s r).mpr ht, hc]))

/-- Settles O46: an exempt request answers behind the idle timer's restart, and an unknown code answers alone. -/
theorem identifyReadAndUnknownOnlyAnswer : Obligations.IdentifyReadAndUnknownOnlyAnswer := by
  unfold Obligations.IdentifyReadAndUnknownOnlyAnswer
  intro s r ht
  refine ⟨?identify, fun hn => ?read, fun code hc =>
    ⟨_, exec_unknownRequest ht hc, answered_respond rfl rfl, same_respond _ _ _ _ s⟩⟩
  case identify => exact ⟨_, exec_identify ht, identifyData_touchIdle s ▸ refusal_effects _ _ _ _ s⟩
  case read =>
    obtain ⟨hmgmt, hanswer, hframe⟩ := refusal_effects 2#8 r (readAnswer s r.args).1 (readAnswer s r.args).2 s
    exact ⟨_, readAnswer_touchIdle s r.args ▸ exec_read ht hn, hmgmt, hanswer, readAnswer_length s _, readAnswer_of_view,
      hframe⟩

/-! ### Answers in service mode (R161) -/

theorem idled_of_shadow (h : s.mgmt.shadow = some img) : idled s.mgmt = { s.mgmt with idle := some 300000 } :=
  if_pos (by rw [h]; rfl)

theorem touchIdle_shadow (s : State) : (touchIdle s).mgmt.shadow = s.mgmt.shadow := by
  rw [touchIdle_mgmt, idled]
  split <;> rfl

/-! ### STAGE (R166, R185) -/

theorem exec_stage (ht : taken s r) (hf : free s) (hs : s.mgmt.shadow = some img) (hn : 3 ≤ r.args.length) :
    exec (.stage r) s = .next (stageShadow img r (touchIdle s)) := by
  show Host.Outcome.next (doStage r s) = _
  rw [doStage, manage_of_free ht hf hn, touchIdle_shadow, hs]

theorem same_stageShadow (img : Image) (r : Request) (s : State) :
    SameBut [portPart r.port, .mgmt] s (stageShadow img r s) := by
  unfold stageShadow
  split
  · exact (same_updMgmt _ s).comp (same_respond _ _ _ _ _) (by simp) (by simp)
  · exact (same_respond _ _ _ _ s).mono (by simp)

/-- STAGE's effects with a result: a refusal leaves the answer and the idle timer. -/
theorem stageShadow_refused (hs : s.mgmt.shadow = some img) {res : Result} (hr : stageInto img r.args = (res, img))
    (hne : res ≠ .done) : Answered 5#8 r res [] s (stageShadow img r (touchIdle s)) ∧
      (stageShadow img r (touchIdle s)).mgmt = { s.mgmt with idle := some 300000 } := by
  have he : stageShadow img r (touchIdle s) = respond 5#8 r res [] (touchIdle s) := by
    unfold stageShadow
    rw [hr]
    split
    · next h => exact absurd (Prod.mk.inj h).1 hne
    · next h =>
      cases h
      rfl
  obtain ⟨hmgmt, hanswer, _⟩ := refusal_effects 5#8 r res [] s
  rw [he]
  exact ⟨hanswer, hmgmt.trans (idled_of_shadow hs)⟩

theorem stageShadow_done (hs : s.mgmt.shadow = some img) (hr : stageInto img r.args = (.done, img')) :
    Answered 5#8 r .done [] s (stageShadow img r (touchIdle s)) ∧
      (stageShadow img r (touchIdle s)).mgmt =
        { s.mgmt with idle := some 300000, shadow := some img', dirty := true } := by
  have he : stageShadow img r (touchIdle s) =
      respond 5#8 r .done [] ((touchIdle s).updMgmt fun m => { m with shadow := some img', dirty := true }) := by
    unfold stageShadow
    rw [hr]
  have g : SameBut [.mgmt] s ((touchIdle s).updMgmt fun m => { m with shadow := some img', dirty := true }) :=
    (same_touchIdle s).trans (same_updMgmt _ _)
  rw [he]
  refine ⟨answered_of_same g (by decide) _ _ _ _, ?_⟩
  rw [respond_mgmt, updMgmt_mgmt, touchIdle_mgmt, idled_of_shadow hs]

section
variable {args : List Byte}

theorem stageInto_of_noKind (h : RecKind.ofCode (beAt args 0 2 / 4096) = none) :
    stageInto img args = (.badAddress, img) := by
  simp [stageInto, addressOf, h]

variable {k : RecKind} (hk : RecKind.ofCode (beAt args 0 2 / 4096) = some k)
include hk

theorem stageInto_of_unstageable (h : stageable k (beAt args 0 2 / 64 % 64) = false) :
    stageInto img args = (.badAddress, img) := by
  simp [stageInto, addressOf, hk, h]

theorem stageInto_of_misaligned (h : fieldsWritten (configLayout img k (beAt args 0 2 / 64 % 64)) (beAt args 0 2 % 64)
    (args.drop 2).length = none) : stageInto img args = (.badAddress, img) := by
  unfold stageInto
  simp only [addressOf, hk, h]
  split <;> rfl

variable {fs : List Field} (hst : stageable k (beAt args 0 2 / 64 % 64) = true)
  (hfs : fieldsWritten (configLayout img k (beAt args 0 2 / 64 % 64)) (beAt args 0 2 % 64) (args.drop 2).length = some fs)
include hst hfs

theorem stageInto_of_badValue (h : valuesOk fs (args.drop 2) = false) : stageInto img args = (.badValue, img) := by
  unfold stageInto
  simp only [addressOf, hk, hst, hfs, h]
  rfl

theorem stageInto_of_done (h : valuesOk fs (args.drop 2) = true) : stageInto img args =
    (.done, setConfigBytes img k (beAt args 0 2 / 64 % 64)
      (splice (configBytes img k (beAt args 0 2 / 64 % 64)) (beAt args 0 2 % 64) (args.drop 2))) := by
  unfold stageInto
  simp only [addressOf, hk, hst, hfs, h]
  rfl

end

/-- Settles O49: STAGE's effect on the shadow, case by case of R166, and the answer behind it. -/
theorem stageWritesTheShadow : Obligations.StageWritesTheShadow := by
  unfold Obligations.StageWritesTheShadow
  intro s r img ht hf hs hn
  refine ⟨_, exec_stage ht hf hs hn, (same_touchIdle s).comp (same_stageShadow img r _) (by simp) (by simp), fun hk =>
    stageShadow_refused hs (stageInto_of_noKind hk) (by decide), fun k hk => ⟨?address, fun fs hfs hst => ⟨fun hv =>
      stageShadow_refused hs (stageInto_of_badValue hk hst hfs hv) (by decide), fun hv =>
      stageShadow_done hs (stageInto_of_done hk hst hfs hv)⟩⟩⟩
  rintro (hst | hfs)
  · exact stageShadow_refused hs (stageInto_of_unstageable hk hst) (by decide)
  · exact stageShadow_refused hs (stageInto_of_misaligned hk hfs) (by decide)

/-! ### COMMIT (R162, R168) -/

/-- What COMMIT does with a shadow (R168). -/
def commitWork (img : Image) (r : Request) (s : State) : State :=
  if !s.wheel.stationary then respond 6#8 r .refusedMoving [] s else commitShadow img r s

theorem exec_commit (ht : taken s r) (hf : free s) (hs : s.mgmt.shadow = some img) :
    exec (.commit r) s = .next (commitWork img r (touchIdle s)) := by
  show Host.Outcome.next (doCommit r s) = _
  rw [doCommit, manage_of_free ht hf (Nat.zero_le _), touchIdle_shadow, hs]
  rfl

theorem same_commitWork (img : Image) (r : Request) (s : State) :
    SameBut [portPart r.port, .mgmt] s (commitWork img r s) := by
  unfold commitWork commitShadow
  split
  · exact (same_respond _ _ _ _ s).mono (by simp)
  · split
    · exact (same_respond _ _ _ _ s).mono (by simp)
    · exact (same_updMgmt _ s).mono (by simp)

theorem commitWork_of_moving (h : s.wheel.stationary = false) (img : Image) (r : Request) :
    commitWork img r s = respond 6#8 r .refusedMoving [] s := if_pos (by simp [h])

theorem commitWork_of_failure (h : s.wheel.stationary = true) {p : RecKind × Nat} (hp : firstFailure img = some p)
    (r : Request) :
    commitWork img r s = respond 6#8 r .invalid [BitVec.ofNat 8 p.1.code, BitVec.ofNat 8 p.2] s := by
  rw [commitWork, if_neg (by simp [h]), commitShadow, hp]
  dsimp only
  rw [beBytes_one, beBytes_one]
  rfl

theorem commitWork_of_valid (h : s.wheel.stationary = true) (hp : firstFailure img = none) (r : Request) :
    commitWork img r s = beginCommit img r s := by
  rw [commitWork, if_neg (by simp [h]), commitShadow, hp]

/-- The record that fails with none before it in the order of validation is the one named (R168). -/
theorem firstFailure_of_order {a b : List (RecKind × Nat)} {p : RecKind × Nat} (ho : validationOrder = a ++ p :: b)
    (hp : recordOk img p.1 p.2 = false) (ha : ∀ q ∈ a, recordOk img q.1 q.2 = true) : firstFailure img = some p := by
  have hnone : a.find? (fun q => !recordOk img q.1 q.2) = none :=
    List.find?_eq_none.mpr fun q hq => by simp [ha q hq]
  rw [firstFailure, ho, List.find?_append, hnone, List.find?_cons_of_pos (by simp [hp])]
  rfl

theorem firstFailure_of_all (h : ∀ q ∈ validationOrder, recordOk img q.1 q.2 = true) : firstFailure img = none :=
  List.find?_eq_none.mpr fun q hq => by simp [h q hq]

/-- Settles O51: standstill is asked first, then the first failing record, and a shadow without one is written. -/
theorem commitValidatesAndWrites : Obligations.CommitValidatesAndWrites := by
  unfold Obligations.CommitValidatesAndWrites
  intro s r img ht hf hs
  have hw : (touchIdle s).wheel = s.wheel := (same_touchIdle s).at .wheel (by decide)
  have refused : ∀ res data, Answered 6#8 r res data s (respond 6#8 r res data (touchIdle s)) ∧
      (respond 6#8 r res data (touchIdle s)).mgmt = { s.mgmt with idle := some 300000 } := fun res data =>
    have ⟨hmgmt, hanswer, _⟩ := refusal_effects 6#8 r res data s
    ⟨hanswer, hmgmt.trans (idled_of_shadow hs)⟩
  refine ⟨_, exec_commit ht hf hs, (same_touchIdle s).comp (same_commitWork img r _) (by simp) (by simp), fun hm => ?moving,
    fun a p b ho hst hp ha => ?invalid, fun hst hall => ?valid⟩
  case moving =>
    rw [commitWork_of_moving (hw ▸ hm)]
    exact refused _ _
  case invalid =>
    rw [commitWork_of_failure (hw ▸ hst) (firstFailure_of_order ho hp ha)]
    exact refused _ _
  case valid =>
    have hgen : (touchIdle s).generation = s.generation := (same_touchIdle s).at .generation (by decide)
    rw [commitWork_of_valid (hw ▸ hst) (firstFailure_of_all hall)]
    refine ⟨touchIdle_port r.port s, ?_⟩
    rw [beginCommit, updMgmt_mgmt, touchIdle_mgmt, idled_of_shadow hs, hgen]

end Sys2Proof.Machine
end

section
/-! PROOFS. A pending restart (O53): the events at which it begins, and that it waits for the report of a store write (R171,
R183). -/

namespace Sys2Proof.Machine

variable {s t u : State} {r : Request} {L : List Part}

/-! ### What a restart reaches (R171, R183) -/

theorem same_closeAll (s : State) : SameBut [.incidents] s (closeAll s) := same_closeIncidents _ s

theorem not_hasOpen_closeAll (k : IncidentKind) (d : Nat) (s : State) : ¬ HasOpen k d (closeAll s) := by
  rintro ⟨i, hi, _, _, hopen⟩
  obtain ⟨j, _, rfl⟩ := List.mem_map.mp hi
  split at hopen
  · exact absurd hopen (by simp)
  · next h => exact h (by simp [hopen])

/-- The store load opens STORE_INVALID alone (R172). -/
theorem hasOpen_of_loadStore {k : IncidentKind} {d : Nat} (hk : k ≠ .storeInvalid) (h : HasOpen k d (loadStore s)) :
    HasOpen k d s := by
  rcases store_valid_or_invalid s.store with ⟨hc, hv⟩ | hi
  · rw [loadStore_of_valid hc hv] at h
    exact h
  · rw [loadStore_of_invalid hi] at h
    exact hasOpen_of_openIncident (s := { s with active := factoryImage, generation := 0, configInvalid := true })
      (fun e => hk e.1.symm) h

/-- A restart ends in the start values under the store's content, with every earlier incident closed. -/
theorem restarted_beginRestart (s : State) : Restarted s (beginRestart s) := by
  have gc := same_closeAll s
  have gl := same_loadStore (closeAll s)
  have gb := same_startBlocks (loadStore (closeAll s))
  have hstore : (closeAll s).store = s.store := gc.at .store (by decide)
  have hb : StartedBlocks s.store (startBlocks (loadStore (closeAll s))) :=
    startedBlocks_startBlocks (hstore ▸ loaded_loadStore (closeAll s))
  have ge := same_enterRun_of_started hb
  have hpower := enterRun_power_of_started hb
  constructor
  case started => exact started_enterRun hb
  case time =>
    calc (beginRestart s).time
      _ = (startBlocks (loadStore (closeAll s))).time := ge.at .time (by decide)
      _ = (loadStore (closeAll s)).time := gb.at .time (by decide)
      _ = (closeAll s).time := gl.at .time (by decide)
      _ = s.time := gc.at .time (by decide)
  case open_ =>
    intro i hi hopen
    have hincidents : (beginRestart s).incidents = (loadStore (closeAll s)).incidents :=
      (ge.at .incidents (by decide) : _ = _).trans (gb.at .incidents (by decide))
    by_contra hk
    exact not_hasOpen_closeAll i.kind i.detail s
      (hasOpen_of_loadStore hk ⟨i, hincidents ▸ hi, rfl, rfl, hopen⟩)
  case power =>
    have hactive : (beginRestart s).active = (startBlocks (loadStore (closeAll s))).active := ge.at .active (by decide)
    rw [hactive]
    exact ⟨congrArg Power.state hpower, congrArg Power.settle hpower⟩

/-- A restart is told by the store and the operating time it begins with. -/
theorem restarted_beginRestart_of_eq (hs : t.store = s.store) (ht : t.time = s.time) : Restarted s (beginRestart t) := by
  have h := restarted_beginRestart t
  exact ⟨hs ▸ h.started, h.time.trans ht, h.open_, h.power⟩

/-! ### The events of a pending restart (R171) -/

theorem triggerRestart_of_idle (hp : s.mgmt.restartPending = true) (hw : s.mgmt.writing = none) :
    triggerRestart s = beginRestart s := by
  simp [triggerRestart, State.storeWriting, hp, hw]

/-- While the store is WRITING an event only marks the restart as due. -/
theorem triggerRestart_of_writing (hp : s.mgmt.restartPending = true) (hw : s.mgmt.writing ≠ none) :
    triggerRestart s = s.updMgmt fun m => { m with restartDue := true, restartTimer := none } := by
  have hs : s.storeWriting = true := Option.isSome_iff_ne_none.mpr hw
  simp [triggerRestart, hp, hs]

/-- An event's own work, within parts that a restart does not ask about, and then the restart. -/
theorem restarted_triggerRestart (g : SameBut L t s) (d : ∀ p ∈ [Part.store, .time], p ∉ L)
    (hp : s.mgmt.restartPending = true) (hw : s.mgmt.writing = none) : Restarted t (triggerRestart s) := by
  rw [triggerRestart_of_idle hp hw]
  exact restarted_beginRestart_of_eq (g.at .store (d _ (by decide))) (g.at .time (d _ (by decide)))

theorem portPart_ne (p : Port) : ∀ q ∈ [Part.store, .time, .mgmt], q ∉ [portPart p] := by cases p <;> decide

/-! ### RESTART (R171) -/

/-- The part with a RESTART pending, before its answer. -/
def restartMarked (s : State) : State :=
  (touchIdle s).updMgmt fun m => { m with restartPending := true, restartTimer := some 200 }

theorem same_restartMarked (s : State) : SameBut [.mgmt] s (restartMarked s) := (same_touchIdle s).trans (same_updMgmt _ _)

theorem restartMarked_mgmt (h : s.mgmt.shadow.isSome = true) : (restartMarked s).mgmt =
    { s.mgmt with restartPending := true, restartTimer := some 200, idle := some 300000 } := by
  rw [restartMarked, touchIdle_of_in h]
  rfl

theorem restartMarked_port (s : State) (p : Port) : (restartMarked s).port p = s.port p := by
  cases p
  · exact (same_restartMarked s).at .portA (by decide)
  · exact (same_restartMarked s).at .portB (by decide)

theorem same_enqueueRestart (r : Request) (s : State) : SameBut [portPart r.port] s (enqueueRestart r s) :=
  same_updPort _ _ s

theorem enqueueRestart_port (r : Request) (s : State) : (enqueueRestart r (restartMarked s)).port r.port =
    (s.port r.port).enqueue .general { answerTo s 12#8 r .done [] with restart := true } := by
  have hrelay : (restartMarked s).relay = s.relay := (same_restartMarked s).at .relay (by decide)
  rw [enqueueRestart, updPort_port_self, restartMarked_port]
  simp only [responseFrame, ownFrame, ownCode, hrelay]
  rfl

theorem exec_restart (ht : taken s r) (hf : free s) (hs : s.mgmt.shadow.isSome = true) : exec (.restart r) s =
    .next (if (s.port r.port).accepts then enqueueRestart r (restartMarked s)
      else triggerRestart (enqueueRestart r (restartMarked s))) := by
  show Host.Outcome.next (doRestart r s) = _
  rw [doRestart, manage_of_free ht hf (Nat.zero_le _), if_pos (inService_touchIdle hs), acceptRestart, touchIdle_port]
  rfl

theorem accepts_iff (ps : PortState) : ps.accepts = true ↔ ps.present = true ∧ ps.general.length < 24 := by
  simp [PortState.accepts]

/-- Settles O53: an event begins the restart from the state it leaves, which has the store and the time of the one before. -/
theorem restartBeginsAtItsEvents : Obligations.RestartBeginsAtItsEvents := by
  unfold Obligations.RestartBeginsAtItsEvents
  intro s r p k
  have gq : SameBut [portPart r.port, .mgmt] s (enqueueRestart r (restartMarked s)) :=
    (same_restartMarked s).comp (same_enqueueRestart r _) (by simp) (by simp)
  have hm : (enqueueRestart r (restartMarked s)).mgmt = (restartMarked s).mgmt :=
    (same_enqueueRestart r _).at .mgmt (portPart_ne _ _ (by decide))
  have expiry : s.mgmt.restartTimer = some k → exec .restartDelayExpiry s = .next (triggerRestart (elapse k s)) := fun h =>
    congrArg Host.Outcome.next (onExpiry_of_running h _ s)
  refine ⟨fun ht hf hs hpresent hroom => ?taken, fun ht hf hs hfull => ?discarded, fun hk hp hw => ?delay,
    fun hk hp hw => ?waits, fun ho hp hw => ?transmitted, fun hk hh hp hw => ?flushed⟩
  case taken =>
    refine ⟨_, exec_restart ht hf hs, ?_⟩
    rw [if_pos ((accepts_iff _).mpr ⟨hpresent, hroom⟩)]
    exact ⟨enqueueRestart_port r s, hm.trans (restartMarked_mgmt hs), gq⟩
  case discarded =>
    have hrefused : ¬ (s.port r.port).accepts = true := by
      rw [accepts_iff]
      rintro ⟨hpresent, hroom⟩
      exact hfull.elim (fun h => absurd (hpresent.symm.trans h) (by decide)) fun h => h hroom
    refine ⟨_, exec_restart ht hf hs, ?_⟩
    rw [if_neg hrefused]
    have hmgmt := hm.trans (restartMarked_mgmt hs)
    exact restarted_triggerRestart gq (by cases r.port <;> decide) (by rw [hmgmt]) (by rw [hmgmt]; exact hf.1)
  case delay => exact ⟨_, expiry hk, restarted_triggerRestart (.refl [] _) (by decide) hp hw⟩
  case waits =>
    refine ⟨_, expiry hk, ?_⟩
    rw [triggerRestart_of_writing (s := elapse k s) hp hw]
    exact ⟨rfl, same_updMgmt _ _⟩
  case transmitted =>
    have g := same_updPort p PortState.transmitted s
    have hmgmt : (s.updPort p PortState.transmitted).mgmt = s.mgmt := g.at .mgmt (portPart_ne _ _ (by decide))
    have hexec : exec (.linkReportTransmitted p .onOffer) s = .next (triggerRestart (s.updPort p PortState.transmitted)) :=
      congrArg Host.Outcome.next (if_pos ho)
    exact ⟨_, hexec, restarted_triggerRestart g (by cases p <;> decide) (hmgmt ▸ hp) (hmgmt ▸ hw)⟩
  case flushed =>
    have g : SameBut [portPart p, .relay] (elapse k s) (relayLoses p ((elapse k s).updPort p PortState.lose)) :=
      (same_updPort p _ _).comp (same_relayLoses p _) (by simp) (by simp)
    have hmgmt : (relayLoses p ((elapse k s).updPort p PortState.lose)).mgmt = (elapse k s).mgmt :=
      g.at .mgmt (by cases p <;> decide)
    have hholds : ((elapse k s).port p).holdsRestart = true := (elapse_holdsRestart k p s).trans hh
    have hexec : exec (.presenceTimerExpiry p) s =
        .next (triggerRestart (relayLoses p ((elapse k s).updPort p PortState.lose))) :=
      congrArg Host.Outcome.next ((onExpiry_of_running hk _ s).trans (if_pos hholds))
    exact ⟨_, hexec, restarted_triggerRestart g (by cases p <;> decide) (hmgmt ▸ hp) (hmgmt ▸ hw)⟩

end Sys2Proof.Machine
end

section
/-! PROOFS. The store's reports (O54): what each leaves in the store, the tables and the management unit (R169, R170), and the
restart that has waited for one (R171). -/

namespace Sys2Proof.Machine

variable {s t u : State} {L : List Part} {w : Writing}

/-! ### The store's incidents stay closed through a swap (R169, R170) -/

/-- The incidents of the store (R170, R172). -/
def storeKinds : List IncidentKind := [.storeInvalid, .storeWriteFailed]

/-- From s to t no incident of the store has opened. -/
def StoreQuiet (s t : State) : Prop := ∀ k ∈ storeKinds, ∀ d, HasOpen k d t → HasOpen k d s

theorem StoreQuiet.refl (s : State) : StoreQuiet s s := fun _ _ _ h => h

theorem StoreQuiet.trans (h : StoreQuiet s t) (g : StoreQuiet t u) : StoreQuiet s u :=
  fun k hk d ho => h k hk d (g k hk d ho)

theorem storeQuiet_of_eq (h : t.incidents = s.incidents) : StoreQuiet s t := fun k _ d => (hasOpen_congr h k d).mp

theorem storeQuiet_of_same (g : SameBut L s t) (d : Part.incidents ∉ L) : StoreQuiet s t :=
  storeQuiet_of_eq (g.at .incidents d)

theorem storeQuiet_ite {c : Prop} [Decidable c] (ht : StoreQuiet s t) (hu : StoreQuiet s u) :
    StoreQuiet s (if c then t else u) := by
  split
  · exact ht
  · exact hu

theorem storeQuiet_openIncident {k : IncidentKind} (hk : k ∉ storeKinds) (d : Nat) (s : State) :
    StoreQuiet s (openIncident k d s) :=
  fun _ hk' _ => hasOpen_of_openIncident fun ⟨hkind, _⟩ => hk (hkind ▸ hk')

/-- A closing opens nothing (R174). -/
theorem hasOpen_of_closeIncidents {k : IncidentKind} {d : Nat} {which : Incident → Bool}
    (h : HasOpen k d (closeIncidents which s)) : HasOpen k d s := by
  obtain ⟨i, hi, hk, hd, hopen⟩ := h
  obtain ⟨j, hj, rfl⟩ := List.mem_map.mp hi
  split at hopen
  · exact absurd hopen (by simp)
  · next hn =>
    rw [if_neg hn] at hk hd
    exact ⟨j, hj, hk, hd, hopen⟩

theorem storeQuiet_closeIncidents (which) (s : State) : StoreQuiet s (closeIncidents which s) :=
  fun _ _ _ => hasOpen_of_closeIncidents

theorem storeQuiet_closeIncident (k d) (s : State) : StoreQuiet s (closeIncident k d s) := storeQuiet_closeIncidents _ s

theorem not_hasOpen_closeKind (k : IncidentKind) (d : Nat) (s : State) : ¬ HasOpen k d (closeKind k s) := by
  rintro ⟨i, hi, hk, _, hopen⟩
  obtain ⟨j, _, rfl⟩ := List.mem_map.mp hi
  split at hopen
  · exact absurd hopen (by simp)
  · next hn =>
    rw [if_neg hn] at hk
    exact hn (by simp [hk, hopen])

/-- Every record of a kind with nothing OPEN is CLOSED. -/
theorem closed_of_not_hasOpen {k : IncidentKind} (h : ∀ d, ¬ HasOpen k d s) :
    ∀ i ∈ s.incidents, i.kind = k → i.closed ≠ none :=
  fun i hi hk hopen => h i.detail ⟨i, hi, hk, rfl, hopen⟩

theorem storeQuiet_testOff (s : State) : StoreQuiet s (testOff s) := by
  have hoff : StoreQuiet s (enterOff s) := by
    unfold enterOff
    split
    · exact .refl s
    · refine (storeQuiet_closeIncident .stabilityIntervention 0 s).trans (storeQuiet_of_eq ?_)
      simp [changeStab, originateStability, closeIncident, closeIncidents, dropStabInt, dropStabTest]
  exact storeQuiet_ite hoff (.refl s)

theorem storeQuiet_reestablish (s : State) : StoreQuiet s (reestablish s) := by
  have lost : ∀ a b u, StoreQuiet u (demandLost a b u) := fun a b u =>
    storeQuiet_ite (storeQuiet_openIncident (by decide) _ u)
      (storeQuiet_ite (storeQuiet_closeIncident _ _ u) (.refl u))
  have hr : StoreQuiet s (remoded s) :=
    ((storeQuiet_of_same (same_updComposer _ s) (by decide)).trans (lost _ _ _)).trans
      (storeQuiet_of_same (same_recompose _) (by decide))
  rw [reestablish_eq]
  exact storeQuiet_ite hr (hr.trans (storeQuiet_testOff _))

theorem storeQuiet_tyreIncidents (i a b) (s : State) : StoreQuiet s (tyreIncidents i a b s) := by
  have follows : ∀ (k : IncidentKind) (opens closes : Prop) [Decidable opens] [Decidable closes] (u : State), k ∉ storeKinds →
      StoreQuiet u (if opens then openIncident k i u else if closes then closeIncident k i u else u) :=
    fun k _ _ _ _ u hk => storeQuiet_ite (storeQuiet_openIncident hk i u)
      (storeQuiet_ite (storeQuiet_closeIncident _ _ u) (.refl u))
  exact (follows .tyreCritical _ _ s (by decide)).trans (follows .tyreLeak _ _ _ (by decide))

theorem storeQuiet_clearAtSwap (i st tm) (s : State) : StoreQuiet s (clearAtSwap i st tm s) := by
  have hclose : ∀ u, StoreQuiet u (closeTyreIncidents i u) := fun u =>
    ((storeQuiet_closeIncident _ _ u).trans (storeQuiet_closeIncident _ _ _)).trans (storeQuiet_closeIncident _ _ _)
  exact ((storeQuiet_of_same (same_updPosition _ _ s) (by decide)).trans (hclose _)).trans
    (storeQuiet_of_same (same_setAtSwap _ _ _) (by decide))

theorem storeQuiet_reevaluate (i) (s : State) : StoreQuiet s (reevaluate i s) := by
  have h : ∀ q : Position, StoreQuiet s (tyreIncidents i (s.position i) q (s.updPosition i fun _ => q)) := fun q =>
    (storeQuiet_of_same (same_updPosition _ _ s) (by decide)).trans (storeQuiet_tyreIncidents i _ q _)
  unfold reevaluate
  dsimp only
  split
  · exact .refl s
  · split
    · exact h _
    · exact h _
    · exact h _
    · exact h _
    · exact (h _).trans (storeQuiet_of_same (same_setAtSwap _ _ _) (by decide))

theorem storeQuiet_swapPosition (b i) (s : State) : StoreQuiet s (swapPosition b i s) := by
  unfold swapPosition
  exact storeQuiet_ite ((storeQuiet_of_same (same_endLearnAt i s) (by decide)).trans (storeQuiet_clearAtSwap _ _ _ _))
    (storeQuiet_ite (storeQuiet_clearAtSwap _ _ _ s)
      (storeQuiet_ite (storeQuiet_clearAtSwap _ _ _ s) (storeQuiet_reevaluate i s)))

theorem storeQuiet_tyreSwap (b) (s : State) : StoreQuiet s (tyreSwap b s) := by
  have turns : ∀ (l : List Nat) (u : State), StoreQuiet u (l.foldl (fun v i => swapPosition b i v) u) := by
    intro l
    induction l with
    | nil => exact .refl
    | cons i l ih => exact fun u => (storeQuiet_swapPosition b i u).trans (ih _)
  exact (turns _ s).trans (storeQuiet_of_same (same_tyreSettle _) (by decide))

theorem storeQuiet_startAnew (s : State) : StoreQuiet s (startChain true s) := by
  have ended : ∀ u, StoreQuiet u (setEmergency false u) := fun u => by
    unfold setEmergency
    exact storeQuiet_ite (.refl u)
      ((storeQuiet_of_same (same_updComposer _ u) (by decide)).trans (storeQuiet_closeIncident .supplyEmergency 0 _))
  have chain : StoreQuiet s (closeKind .nodeDegraded (closeKind .chainFaulted (bindChain (chainReset s)))) :=
    ((storeQuiet_of_same ((same_chainReset s).trans (same_bindChain _)) (by decide)).trans
      (storeQuiet_closeIncidents _ _)).trans (storeQuiet_closeIncidents _ _)
  have wheel : ∀ u, StoreQuiet u (recompose (wheelReinit u)) := fun u =>
    storeQuiet_of_same (L := [.wheel, .channels, .load])
      ((same_wheelReinit u).comp (same_recompose _) (by decide) (by decide)) (by decide)
  have hr : StoreQuiet s (reinitialise s) :=
    ((chain.trans (wheel _)).trans (ended _)).trans (storeQuiet_reestablish _)
  unfold startChain
  refine storeQuiet_ite (hr.trans (storeQuiet_of_same (L := [.chain, .channels]) ?_ (by decide))) (.refl s)
  exact (same_sendCommands _).comp (same_startPeriod _) (by decide) (by decide)

theorem storeQuiet_swapBlocks (b) (s : State) : StoreQuiet s (swapBlocks b s) := by
  have retuned : StoreQuiet s (stabilityRetuned s) :=
    storeQuiet_of_same (L := [.stability, .channels])
      ((same_updStab _ s).comp (same_mapChannels _ _) (by decide) (by decide)) (by decide)
  have applied : StoreQuiet s (applySwap b (stabilitySwap s)) :=
    ((retuned.trans (storeQuiet_testOff _)).trans (storeQuiet_reestablish _)).trans (storeQuiet_tyreSwap b _)
  unfold swapBlocks
  exact storeQuiet_ite (applied.trans (storeQuiet_startAnew _)) applied

/-! ### The end of a write and its follow-on (R169, R170) -/

theorem answerCommit_mgmt (res data) (s : State) : (answerCommit res data s).mgmt = { s.mgmt with inProgress := none } := by
  unfold answerCommit
  split
  · next h => rw [← h]
  · rw [updMgmt_mgmt, respond_mgmt]

theorem answerCommit_port {q : InProgress} (h : s.mgmt.inProgress = some q) (res data) :
    (answerCommit res data s).port q.port = (s.port q.port).enqueue .general
      (answerTo s 6#8 { port := q.port, origin := q.origin, tag := q.tag, args := [] } res data) := by
  unfold answerCommit
  rw [h]
  exact respond_port (r := { port := q.port, origin := q.origin, tag := q.tag, args := [] }) rfl

/-- What a report leaves of the write that has ended: a pending follow-on write has begun (R170). -/
structure FollowOn (s t : State) : Prop where
  frame    : SameBut [.mgmt] s t
  cleared  : t.mgmt.followOn = false
  writing  : t.mgmt.writing = if s.mgmt.followOn then
    some { image := t.active, generation := t.generation, commit := false } else none
  shadow   : t.mgmt.shadow = s.mgmt.shadow
  dirty    : t.mgmt.dirty = s.mgmt.dirty
  request  : t.mgmt.inProgress = s.mgmt.inProgress

theorem followOn_of_ended (h : s.mgmt.writing = none) : FollowOn s (followOn s) := by
  have g := same_followOn s
  unfold followOn at g ⊢
  split
  · next hf => exact ⟨by rwa [if_pos hf] at g, rfl, by rw [if_pos hf]; rfl, rfl, rfl, rfl⟩
  · next hf => exact ⟨.refl _ s, by simpa using hf, by rw [if_neg hf]; exact h, rfl, rfl, rfl⟩

/-! ### The report of success (R169, R170) -/

/-- What the blocks may change at a swap, in RUN or out of it (R169, R176). -/
theorem same_commitSucceeded (w) (s : State) :
    SameBut [.incidents, .portA, .chain, .wheel, .channels, .load, .composer, .stability, .tyre, .unapplied]
      (reported w s) (commitSucceeded w s) := by
  by_cases h : s.power.state = .run
  · rw [commitSucceeded_run h]
    exact (same_swapBlocks _ _).mono (by decide)
  · rw [commitSucceeded_out h]
    exact (same_holdSwap _ _).mono (by decide)

/-- No incident of the store is OPEN after a commit's report of success (R169, R170). -/
theorem not_hasOpen_commitSucceeded (w) (s : State) : ∀ k ∈ storeKinds, ∀ d, ¬ HasOpen k d (commitSucceeded w s) := by
  have hincidents : (reported w s).incidents = (swapImage w (written w s)).incidents :=
    (same_answerCommit _ _ _).at .incidents (by decide)
  have hr : ∀ k ∈ storeKinds, ∀ d, ¬ HasOpen k d (reported w s) := by
    intro k hk d ho
    rw [hasOpen_congr hincidents] at ho
    simp only [storeKinds, List.mem_cons, List.not_mem_nil, or_false] at hk
    rcases hk with rfl | rfl
    · exact not_hasOpen_closeKind _ _ _ ho
    · exact not_hasOpen_closeKind _ d { s with store := _ } (hasOpen_of_closeIncidents ho)
  intro k hk d ho
  refine hr k hk d ?_
  by_cases h : s.power.state = .run
  · rw [commitSucceeded_run h] at ho
    exact storeQuiet_swapBlocks _ _ k hk d ho
  · rw [commitSucceeded_out h] at ho
    exact ho

theorem same_learnWritten (w) (s : State) : SameBut [.incidents, .store, .mgmt] s (endWrite (written w s)) :=
  (same_written w s).comp (same_updMgmt _ _) (by decide) (by decide)

/-- What a report of success leaves before a restart or a follow-on write (R169, R170). -/
def succeeded (w : Writing) (s : State) : State := if w.commit then commitSucceeded w s else endWrite (written w s)

theorem succeeded_commit (hc : w.commit = true) (s : State) : succeeded w s = commitSucceeded w s := if_pos hc

theorem succeeded_learn (hc : w.commit = false) (s : State) : succeeded w s = endWrite (written w s) :=
  if_neg (by simp [hc])

theorem exec_succeeded (hw : s.mgmt.writing = some w) :
    exec .storeWriteSucceeded s = .next (afterReport (succeeded w s)) := by
  show Host.Outcome.next (writeSucceeded s) = _
  unfold writeSucceeded
  rw [hw]
  rfl

theorem commitSucceeded_mgmt (w) (s : State) : (commitSucceeded w s).mgmt =
    { s.mgmt with shadow := s.mgmt.shadow.map (fun _ => w.image), dirty := false, writing := none, inProgress := none } :=
  ((same_commitSucceeded w s).at .mgmt (by decide) : _ = _).trans (answerCommit_mgmt _ _ _)

/-- The store holds what was written, and the write has ended (R170). -/
theorem succeeded_store (w) (s : State) :
    (succeeded w s).store = { image := w.image, generation := w.generation, crcOk := true } := by
  unfold succeeded
  split
  · have ga : SameBut [.portA, .portB, .mgmt] (endWrite (swapImage w (written w s))) (reported w s) :=
      same_answerCommit _ _ _
    exact ((same_commitSucceeded w s).at .store (by decide) : _ = _).trans (ga.at .store (by decide))
  · rfl

theorem succeeded_time (w) (s : State) : (succeeded w s).time = s.time := by
  unfold succeeded
  split
  · exact ((same_commitSucceeded w s).at .time (by decide) : _ = _).trans ((same_reported w s).at .time (by decide))
  · rfl

theorem succeeded_mgmt (w) (s : State) : (succeeded w s).mgmt.writing = none ∧
    (succeeded w s).mgmt.followOn = s.mgmt.followOn ∧ (succeeded w s).mgmt.restartDue = s.mgmt.restartDue := by
  unfold succeeded
  split
  · rw [commitSucceeded_mgmt]
    exact ⟨rfl, rfl, rfl⟩
  · exact ⟨rfl, rfl, rfl⟩

/-- STORE_WRITE_FAILED ends with either kind of write (R170). -/
theorem not_hasOpen_succeeded (w) (s : State) (d : Nat) : ¬ HasOpen .storeWriteFailed d (succeeded w s) := by
  unfold succeeded
  split
  · exact not_hasOpen_commitSucceeded w s _ (by decide) d
  · exact not_hasOpen_closeKind _ d { s with store := _ }

/-- The tables after a commit's report of success (R169). -/
theorem commitSucceeded_tables (w) (s : State) :
    (commitSucceeded w s).active = w.image ∧ (commitSucceeded w s).generation = w.generation ∧
      (commitSucceeded w s).configInvalid = false ∧ (commitSucceeded w s).hits = List.replicate 64 0 := by
  have gc := same_commitSucceeded w s
  have ga : SameBut [.portA, .portB, .mgmt] (endWrite (swapImage w (written w s))) (reported w s) := same_answerCommit _ _ _
  exact ⟨(gc.at .active (by decide) : _ = _).trans (ga.at .active (by decide)),
    (gc.at .generation (by decide) : _ = _).trans (ga.at .generation (by decide)),
    (gc.at .configInvalid (by decide) : _ = _).trans (ga.at .configInvalid (by decide)),
    (gc.at .hits (by decide) : _ = _).trans (ga.at .hits (by decide))⟩

/-! ### The report of failure (R170) -/

/-- What a report of failure leaves before a restart or a follow-on write (R162, R170). -/
def failed (w : Writing) (s : State) : State :=
  let u := endWrite (spoilStore s)
  if w.commit then openIncident .storeWriteFailed 1 (answerCommit .invalid [0xFF#8, 0xFF#8] u)
  else openIncident .storeWriteFailed 2 u

theorem exec_failed (hw : s.mgmt.writing = some w) :
    exec .storeWriteFailed s = .next (afterReport (failed w s)) := by
  show Host.Outcome.next (writeFailed s) = _
  unfold writeFailed
  rw [hw]
  rfl

theorem same_failed (w) (s : State) : SameBut [.store, .incidents, .portA, .portB, .mgmt] s (failed w s) := by
  have g : SameBut [.store, .mgmt] s (endWrite (spoilStore s)) := by
    intro p hp; cases p <;> simp at hp <;> rfl
  unfold failed
  dsimp only
  split
  · exact (g.comp (N := [.store, .portA, .portB, .mgmt]) (same_answerCommit _ _ _) (by decide) (by decide)).comp
      (same_openIncident _ _ _) (by decide) (by decide)
  · exact g.comp (same_openIncident _ _ _) (by decide) (by decide)

theorem failed_store (w) (s : State) : (failed w s).store = { s.store with crcOk := false } := by
  unfold failed
  dsimp only
  split
  · exact (openIncident_store _ _ _).trans ((same_answerCommit _ _ _).at .store (by decide))
  · exact openIncident_store _ _ _

theorem hasOpen_failed (w) (s : State) : HasOpen .storeWriteFailed (if w.commit then 1 else 2) (failed w s) := by
  unfold failed
  dsimp only
  split
  · exact hasOpen_openIncident _ _ _
  · exact hasOpen_openIncident _ _ _

theorem failed_mgmt (w) (s : State) : (failed w s).mgmt = { s.mgmt with
    writing := none, inProgress := if w.commit then none else s.mgmt.inProgress } := by
  unfold failed
  dsimp only
  split
  · rw [openIncident_mgmt, answerCommit_mgmt]
    rfl
  · exact openIncident_mgmt _ _ _

theorem failed_port {q : InProgress} (hq : s.mgmt.inProgress = some q) (hc : w.commit = true) :
    (failed w s).port q.port = (s.port q.port).enqueue .general
      (answerTo s 6#8 { port := q.port, origin := q.origin, tag := q.tag, args := [] } .invalid [0xFF, 0xFF]) := by
  have hp : ∀ k d u, (openIncident k d u).port q.port = u.port q.port := fun k d u => by
    cases q.port
    · exact openIncident_portA k d u
    · exact openIncident_portB k d u
  unfold failed
  dsimp only
  rw [if_pos hc, hp, answerCommit_port (s := endWrite (spoilStore s)) hq]
  cases q.port <;> rfl

theorem failed_ports (hc : w.commit = false) : (failed w s).portA = s.portA ∧ (failed w s).portB = s.portB := by
  unfold failed
  dsimp only
  rw [hc]
  exact ⟨openIncident_portA _ _ _, openIncident_portB _ _ _⟩

/-- A report ends the write: what it leaves is told from the state before the follow-on write begins. -/
theorem afterReport_of_no_restart (h : s.mgmt.restartDue = false) : afterReport s = followOn s := if_neg (by simp [h])

theorem afterReport_of_restart (h : s.mgmt.restartDue = true) : afterReport s = beginRestart s := if_pos h

/-- Settles O54: each report ends the write in a state that a waiting restart loads from, and that a follow-on write begins
from where none waits. -/
theorem storeReportsEndTheWrite : Obligations.StoreReportsEndTheWrite := by
  unfold Obligations.StoreReportsEndTheWrite
  refine ⟨fun s => ⟨fun hw => ?noneWritten, fun w hw hd => ?success, fun w hw hd => ?successRestart⟩,
    fun s => ⟨fun hw => ?noneFailed, fun w hw hd => ?failure, fun w hw hd => ?failureRestart⟩⟩
  case noneWritten =>
    show Host.Outcome.next (writeSucceeded s) = _
    unfold writeSucceeded
    rw [hw]
  case noneFailed =>
    show Host.Outcome.next (writeFailed s) = _
    unfold writeFailed
    rw [hw]
  case successRestart =>
    obtain ⟨_, _, hdue⟩ := succeeded_mgmt w s
    refine ⟨_, exec_succeeded hw, ?_⟩
    rw [afterReport_of_restart (hdue.trans hd)]
    exact restarted_beginRestart_of_eq (succeeded_store w s) (succeeded_time w s)
  case failureRestart =>
    have hmgmt := failed_mgmt w s
    refine ⟨_, exec_failed hw, ?_⟩
    rw [afterReport_of_restart (by rw [hmgmt]; exact hd)]
    exact restarted_beginRestart_of_eq (failed_store w s) ((same_failed w s).at .time (by decide))
  case success =>
    obtain ⟨hended, hfollow, hdue⟩ := succeeded_mgmt w s
    have f := followOn_of_ended hended
    refine ⟨_, exec_succeeded hw, ?_⟩
    rw [afterReport_of_no_restart (hdue.trans hd)]
    have hincidents := f.frame.at .incidents (by decide)
    refine ⟨(f.frame.at .store (by decide) : _ = _).trans (succeeded_store w s),
      closed_of_not_hasOpen fun d ho => not_hasOpen_succeeded w s d ((hasOpen_congr hincidents _ d).mp ho),
      f.cleared, hfollow ▸ f.writing, fun hc => ?_, fun hc => ?_⟩
    · rw [succeeded_commit hc] at f hincidents ⊢
      have hm := commitSucceeded_mgmt w s
      have g : SameBut _ s (commitSucceeded w s) :=
        (same_reported w s).comp (N := reportParts ++ swapParts ++ [.unapplied]) (same_commitSucceeded w s) (by decide)
          (by decide)
      obtain ⟨hactive, hgeneration, hvalid, hhits⟩ := commitSucceeded_tables w s
      exact ⟨(f.frame.at .active (by decide) : _ = _).trans hactive,
        (f.frame.at .generation (by decide) : _ = _).trans hgeneration,
        (f.frame.at .configInvalid (by decide) : _ = _).trans hvalid,
        (f.frame.at .hits (by decide) : _ = _).trans hhits, f.shadow.trans (congrArg Mgmt.shadow hm),
        f.dirty.trans (congrArg Mgmt.dirty hm), f.request.trans (congrArg Mgmt.inProgress hm),
        closed_of_not_hasOpen fun d ho =>
          not_hasOpen_commitSucceeded w s _ (by decide) d ((hasOpen_congr hincidents _ d).mp ho),
        (f.frame.at .time (by decide) : _ = _).trans (g.at .time (by decide)),
        (f.frame.at .relay (by decide) : _ = _).trans (g.at .relay (by decide)),
        (f.frame.at .power (by decide) : _ = _).trans (g.at .power (by decide))⟩
    · rw [succeeded_learn hc] at f ⊢
      exact (same_learnWritten w s).comp f.frame (by decide) (by decide)
  case failure =>
    have hmgmt := failed_mgmt w s
    have g := same_failed w s
    have f := followOn_of_ended (s := failed w s) (by rw [hmgmt])
    refine ⟨_, exec_failed hw, ?_⟩
    rw [afterReport_of_no_restart (by rw [hmgmt]; exact hd)]
    have hactive : (followOn (failed w s)).active = s.active :=
      (f.frame.at .active (by decide) : _ = _).trans (g.at .active (by decide))
    have hgeneration : (followOn (failed w s)).generation = s.generation :=
      (f.frame.at .generation (by decide) : _ = _).trans (g.at .generation (by decide))
    have hA : (followOn (failed w s)).portA = (failed w s).portA := f.frame.at .portA (by decide)
    have hB : (followOn (failed w s)).portB = (failed w s).portB := f.frame.at .portB (by decide)
    refine ⟨(f.frame.at .store (by decide) : _ = _).trans (failed_store w s),
      (hasOpen_congr (f.frame.at .incidents (by decide)) _ _).mpr (hasOpen_failed w s),
      f.shadow.trans (by rw [hmgmt]), f.dirty.trans (by rw [hmgmt]), f.cleared, ?_, fun q hq hc => ⟨?_, ?_⟩, fun hc => ?_,
      g.comp f.frame (by decide) (by decide)⟩
    · rw [f.writing, hactive, hgeneration, hmgmt]
    · rw [f.request, hmgmt]
      exact if_pos hc
    · rw [← failed_port hq hc]
      cases q.port
      · exact hA
      · exact hB
    · obtain ⟨hportA, hportB⟩ := failed_ports (s := s) hc
      exact ⟨hA.trans hportA, hB.trans hportB⟩

end Sys2Proof.Machine
end

section
/-! PROOFS. READ (O47): its answer from the address (R163, R185), and the fields of every record (section 11.2). -/

namespace Sys2Proof.Machine

variable {s : State} {img : Image}

/-! ### Fields shown at an offset (section 11.2) -/

@[simp] theorem shows_self (v : List Byte) : Shows v 0 v := List.take_length

@[simp] theorem shows_zero (v b : List Byte) : Shows (v ++ b) 0 v := List.take_left

/-- A field past the first bytes is a field of the rest. -/
@[simp] theorem shows_append {a : List Byte} {off : Nat} (h : a.length ≤ off) (b v : List Byte) :
    Shows (a ++ b) off v ↔ Shows b (off - a.length) v := by
  unfold Shows
  rw [List.drop_append, List.drop_eq_nil_of_le h, List.nil_append]

/-- A field of the first bytes is a field of the whole. -/
theorem Shows.append {a v : List Byte} {off : Nat} (h : Shows a off v) (b : List Byte) : Shows (a ++ b) off v := by
  unfold Shows at h ⊢
  have hlen : v.length ≤ (a.drop off).length := by
    rw [← h, List.length_take]
    exact Nat.min_le_right _ _
  rw [List.drop_append, List.take_append_of_le_length hlen, h]

/-- The bytes from an offset past the first bytes. -/
theorem drop_past {a : List Byte} {off : Nat} (h : a.length ≤ off) (b : List Byte) :
    (a ++ b).drop off = b.drop (off - a.length) := by
  rw [List.drop_append, List.drop_eq_nil_of_le h, List.nil_append]

@[simp] theorem beBytes_length (w n : Nat) : (beBytes w n).length = w := by
  induction w with
  | zero => rfl
  | succ w ih => exact congrArg (· + 1) ih

@[simp] theorem optBytes_length (w : Nat) (o : Option Nat) : (optBytes w o).length = w := by
  cases o with
  | none => exact List.length_replicate
  | some n => exact beBytes_length w n

@[simp] theorem absentBytes_length (w : Nat) : (absentBytes w).length = w := List.length_replicate

@[simp] theorem timeBytes_length (t : Option Time) : (timeBytes t).length = 4 := optBytes_length 4 _

@[simp] theorem historyBytes_length (h : List (Time × Nat)) (i : Nat) : (historyBytes h i).length = 6 := by
  unfold historyBytes
  split
  · exact absentBytes_length 6
  · simp

/-! ### Flags as numbers -/

theorem bit_eq (b : Bool) : bit b = if b then 1 else 0 := rfl

theorem ite_isSome {α : Type} (o : Option α) [Decidable (o = none)] (n : Nat) :
    (if o.isSome = true then n else 0) = if o = none then 0 else n := by cases o <;> simp

theorem portCode_eq (p : Port) : portCode p = if p = .A then 0 else 1 := by cases p <;> rfl

/-! ### Records with parts that may be absent -/

/-- An ID reads as all ones while its present bit is 0 (R145). -/
theorem beBytes_shown (f : IdField) : beBytes 4 f.shown.id.toNat =
    if f.present then beBytes 4 f.id.toNat else List.replicate 4 (0xFF : Byte) := by
  have hones : beBytes 4 (BitVec.allOnes 32).toNat = List.replicate 4 (0xFF : Byte) := by
    rw [BitVec.toNat_allOnes]
    rfl
  unfold IdField.shown
  split
  · rfl
  · exact hones

@[simp] theorem shown_present (f : IdField) : f.shown.present = f.present := by
  unfold IdField.shown
  split <;> rfl

theorem historyBytes_of_none {h : List (Time × Nat)} {j : Nat} (hj : h.length ≤ j) :
    historyBytes h j = List.replicate 6 0xFF#8 := by
  unfold historyBytes
  rw [List.getElem?_eq_none hj]
  rfl

theorem historyBytes_of_some {h : List (Time × Nat)} {j : Nat} {x : Time × Nat} (hj : h[j]? = some x) :
    historyBytes h j = beBytes 4 x.1.toNat ++ beBytes 2 x.2 := by
  unfold historyBytes
  rw [hj]

/-- The j-th place of the history ring begins at byte 6 j of its bytes. -/
theorem shows_history (h : List (Time × Nat)) {j off : Nat} {v : List Byte} (hj : j ∈ [0, 1, 2, 3])
    (hv : Shows (historyBytes h j) off v) : Shows ((List.range 4).flatMap (historyBytes h)) (6 * j + off) v := by
  have hsplit : List.range 4 = List.range j ++ j :: List.range' (j + 1) (3 - j) := by
    simp only [List.mem_cons, List.not_mem_nil, or_false] at hj
    rcases hj with rfl | rfl | rfl | rfl <;> rfl
  have hlen : ((List.range j).flatMap (historyBytes h)).length = 6 * j := by
    simp [List.length_flatMap, mul_comm]
  rw [hsplit, List.flatMap_append, List.flatMap_cons, shows_append (by omega), hlen, Nat.add_sub_cancel_left]
  exact hv.append _

@[simp] theorem history_length (h : List (Time × Nat)) : ((List.range 4).flatMap (historyBytes h)).length = 24 := by
  simp [List.length_flatMap]

/-- The history ring begins at byte 28 of a position's record (section 11.2). -/
theorem shows_place (t : TyreRec) (q : Position) {j off : Nat} {v : List Byte} (hj : j ∈ [0, 1, 2, 3])
    (hv : Shows (historyBytes q.history j) off v) :
    Shows (recBytes tyreFields t ++ positionBytes q) (28 + (6 * j + off)) v := by
  have hfields : (recBytes tyreFields t).length = 16 := by simp [recBytes, tyreFields]
  rw [shows_append (by omega), hfields, positionBytes, shows_append (by simp; omega)]
  convert shows_history q.history hj hv using 1
  simp
  omega

@[simp] theorem demandBytes_length (d : Option Demand) : (demandBytes d).length = 11 := by
  unfold demandBytes
  split
  · exact absentBytes_length 11
  · simp

/-! ### The answer from the address (R163, R185) -/

theorem ofCode_code (k : RecKind) : RecKind.ofCode k.code = some k := by cases k <;> rfl

theorem ofCode_of_none {n : Nat} (h : n = 0 ∨ 11 < n) : RecKind.ofCode n = none := by
  unfold RecKind.ofCode
  rcases h with rfl | h
  · rfl
  · rw [if_neg (by omega)]
    exact List.getElem?_eq_none (by simp; omega)

/-- The indices of a kind (table of R163). -/
def indexLimits : RecKind → Nat × Nat
  | .classEntry => (0, 63)
  | .port => (0, 1)
  | .range => (1, 4)
  | .chain => (0, 4)
  | .group => (1, 3)
  | .channel => (0, 6)
  | .stability => (0, 0)
  | .tuning => (0, 0)
  | .tyrePosition => (0, 16)
  | .incident => (0, 16)
  | .hits => (0, 63)

theorem readable_iff (k : RecKind) (i : Nat) :
    readable k i = true ↔ (indexLimits k).1 ≤ i ∧ i ≤ (indexLimits k).2 := by
  cases k <;> simp [readable, indexLimits, within]

/-- A record exists for READ when its index is one of its kind's and an incident is held (R163). -/
theorem readExists_iff (s : State) (k : RecKind) (i : Nat) : readExists s k i = true ↔
    (indexLimits k).1 ≤ i ∧ i ≤ (indexLimits k).2 ∧ (k = .incident → i ≤ 15 → i < s.incidents.length) := by
  simp [readExists, readable_iff, and_assoc, imp_iff_not_or, or_assoc]

theorem hasConfig_iff (k : RecKind) : k.hasConfig = true ↔ k ≠ .channel ∧ k ≠ .incident ∧ k ≠ .hits := by
  cases k <;> simp [RecKind.hasConfig]

section
variable {args : List Byte} (hview : beAt args 2 1 ≤ 1)
include hview

theorem readAnswer_of_noKind (h : RecKind.ofCode (beAt args 0 2 / 4096) = none) :
    readAnswer s args = (.badAddress, []) := by
  simp [readAnswer, addressOf, h, Nat.not_lt.mpr hview]

variable {k : RecKind} (hk : beAt args 0 2 / 4096 = k.code)
include hk

theorem readAnswer_of_absent (h : readExists s k (beAt args 0 2 / 64 % 64) = false) :
    readAnswer s args = (.badAddress, []) := by
  simp [readAnswer, addressOf, hk, ofCode_code, h, Nat.not_lt.mpr hview]

theorem readAnswer_of_noShadow (h : readExists s k (beAt args 0 2 / 64 % 64) = true)
    (hs : shadowMissing s k (beAt args 2 1) = true) : readAnswer s args = (.notInService, []) := by
  simp [readAnswer, addressOf, hk, ofCode_code, h, hs, Nat.not_lt.mpr hview]

theorem readAnswer_of_present (h : readExists s k (beAt args 0 2 / 64 % 64) = true)
    (hs : shadowMissing s k (beAt args 2 1) = false) :
    readAnswer s args = readFrom s k (beAt args 0 2 / 64 % 64) (beAt args 0 2 % 64) (beAt args 2 1) := by
  simp [readAnswer, addressOf, hk, ofCode_code, h, hs, Nat.not_lt.mpr hview]

end

/-- The image that READ shows, and that no shadow is missing for it (R163). -/
theorem view_of_image {k : RecKind} {view : Nat}
    (h : (view = 0 ∧ img = s.active) ∨ (view = 1 ∧ s.mgmt.shadow = some img) ∨
      (view = 1 ∧ ¬ (k ≠ .channel ∧ k ≠ .incident ∧ k ≠ .hits) ∧ s.mgmt.shadow = none ∧ img = s.active)) :
    shadowMissing s k view = false ∧ viewImage s view = img := by
  rw [← hasConfig_iff] at h
  rcases h with ⟨rfl, rfl⟩ | ⟨rfl, hs⟩ | ⟨rfl, hc, hs, rfl⟩
  · exact ⟨rfl, rfl⟩
  · simp [shadowMissing, viewImage, hs]
  · simp [shadowMissing, viewImage, hs, hc]

theorem readFrom_of_past {k : RecKind} {i off view : Nat} (hv : viewImage s view = img)
    (h : (recordBytes img s k i).length ≤ off) : readFrom s k i off view = (.badAddress, []) := by
  simp [readFrom, hv, h]

theorem readFrom_of_within {k : RecKind} {i off view : Nat} (hv : viewImage s view = img)
    (h : off < (recordBytes img s k i).length) :
    readFrom s k i off view = (.done, ((recordBytes img s k i).drop off).take 5) := by
  simp [readFrom, hv, Nat.not_le.mpr h]

/-! ### The bytes of each record (section 11.2) -/

section
variable (img : Image) (s : State)

theorem recordBytes_classEntry (i : Nat) :
    recordBytes img s .classEntry i = (img.slot i).take (layoutLength (slotLayout img i)) := List.append_nil _

theorem recordBytes_range (i : Nat) :
    recordBytes img s .range i = recBytes rangeFields (img.ranges.getD (i - 1) ⟨0, 0, 0⟩) := List.append_nil _

theorem recordBytes_chain_zero : recordBytes img s .chain 0 = recBytes chainFields img.chain ++ chainBytes s := rfl

theorem recordBytes_chain_node {n : Nat} (h : n ≠ 0) : recordBytes img s .chain n = nodeBytes s n := by
  simp [recordBytes, shownConfig, configBytes, runtimeBytes, h]

theorem recordBytes_group (g : Nat) :
    recordBytes img s .group g = recBytes groupFields (img.group g) ++ groupBytes s g := rfl

theorem recordBytes_channel_zero : recordBytes img s .channel 0 = composerBytes s := rfl

theorem recordBytes_channel {c : Nat} (h : c ≠ 0) : recordBytes img s .channel c = channelBytes s c := by
  simp [recordBytes, shownConfig, configBytes, runtimeBytes, h]

theorem recordBytes_stability (i : Nat) :
    recordBytes img s .stability i = recBytes stabFields img.stab ++ stabilityBytes s.stability := rfl

theorem recordBytes_tuning (i : Nat) : recordBytes img s .tuning i = recBytes tuningFields img.tuning := List.append_nil _

theorem recordBytes_position {i : Nat} (h : i ≤ 15) : recordBytes img s .tyrePosition i =
    recBytes tyreFields { img.tyre i with
      primary := (img.tyre i).primary.shown, alternate := (img.tyre i).alternate.shown } ++
    positionBytes (s.position i) := by
  simp [recordBytes, shownConfig, runtimeBytes, h]

theorem recordBytes_tyreUnit : recordBytes img s .tyrePosition 16 = tyreUnitBytes s.tyre := rfl

theorem recordBytes_incident {i : Nat} {x : Incident} (h : i ≤ 15) (hx : s.incidents[i]? = some x) :
    recordBytes img s .incident i = incidentBytes x := by
  simp [recordBytes, shownConfig, configBytes, runtimeBytes, h, hx]

theorem recordBytes_mgmt : recordBytes img s .incident 16 = mgmtBytes s := rfl

theorem recordBytes_hits (i : Nat) : recordBytes img s .hits i = beBytes 2 (s.hits.getD i 0) := rfl

end

theorem portRecord_shows (q : PortRec) (p : PortState) :
    let b := recBytes portFields q ++ portBytes p
    b.length = 14 ∧ Shows b 0 (beBytes 2 q.timeout) ∧ Shows b 2 (beBytes 1 q.defaultGroup) ∧
      Shows b 3 (beBytes 1 q.missDisp) ∧ Shows b 4 (beBytes 1 q.missQueue) ∧
      Shows b 5 (beBytes 1 ((if p.present then 1 else 0) + (if p.lastReception = none then 0 else 2))) ∧
      Shows b 6 (timeBytes p.lastReception) ∧ Shows b 10 (beBytes 1 p.safety.length) ∧
      Shows b 11 (beBytes 1 p.general.length) ∧ Shows b 12 (beBytes 2 p.discards) := by
  simp [recBytes, portFields, portBytes, bit_eq, ite_isSome]

theorem stabilityRecord_shows (r : StabRec) (u : Stability) :
    let b := recBytes stabFields r ++ stabilityBytes u
    b.length = 64 ∧ Shows b 0 (beBytes 1 (if r.enable then 1 else 0)) ∧ Shows b 1 (beBytes 2 r.vMin) ∧
      (∀ j ∈ List.range 6, Shows b (3 + 4 * j) (beBytes 2 (r.point j).1) ∧
        Shows b (5 + 4 * j) (beBytes 2 (r.point j).2)) ∧
      Shows b 27 (beBytes 1 r.dLow) ∧ Shows b 28 (beBytes 2 r.dCrit) ∧ Shows b 30 (beBytes 2 r.aFloor) ∧
      Shows b 32 (beBytes 2 r.w) ∧ Shows b 34 (beBytes 2 r.rr) ∧ Shows b 36 (beBytes 1 r.pTest) ∧
      Shows b 37 (beBytes 2 r.window) ∧ Shows b 39 (beBytes 2 r.sLift) ∧ Shows b 41 (beBytes 2 r.spacing) ∧
      Shows b 43 (beBytes 2 r.dInt) ∧ Shows b 45 (beBytes 2 r.recover) ∧ Shows b 47 (beBytes 1 u.state.code) ∧
      Shows b 48 (beBytes 2 u.threshold) ∧ Shows b 50 (beBytes 2 u.watchLevel) ∧
      Shows b 52 (beBytes 2 u.releaseLevel) ∧ Shows b 54 (beBytes 2 u.load) ∧
      Shows b 56 (beBytes 1 (u.severity.code + 4 * u.inner.code + 16 * u.pendingTest.code)) ∧
      Shows b 57 (beBytes 1 ((if u.window = none then 0 else 1) + (if u.spacing = none then 0 else 2) +
        (if u.recover = none then 0 else 4))) ∧
      Shows b 58 (beBytes 2 u.tests) ∧ Shows b 60 (beBytes 2 u.lifts) ∧ Shows b 62 (beBytes 2 u.interventions) := by
  simp [recBytes, stabFields, List.range_succ, stabilityBytes, bit_eq, ite_isSome]

/-- The width of a slot's record: seven bytes for the tail of a WIDE entry (R26, section 11.2). -/
theorem layoutLength_slotLayout (img : Image) (i : Nat) : layoutLength (slotLayout img i) =
    if i % 2 = 1 ∧ (byteAt (img.slot (i - 1)) 0).getLsbD 1 = true then 7 else 20 := by
  simp only [slotLayout, Image.isTail, slotWide, Bool.and_eq_true, decide_eq_true_eq]
  split <;> rfl

/-- Settles O47: the address leads to one of the answers of R163, and each record is its fields in the order of section
11.2. -/
theorem readReturnsTheRecord : Obligations.ReadReturnsTheRecord := by
  unfold Obligations.ReadReturnsTheRecord
  refine ⟨?address, fun s img => ?_⟩
  case address =>
    intro s args kind i off view limits
    refine ⟨readAnswer_of_view, fun hview hk => readAnswer_of_noKind hview (ofCode_of_none hk), fun k hview hk => ?_⟩
    intro exist config
    have hl : limits k = indexLimits k := by cases k <;> rfl
    have hexist : exist ↔ readExists s k i = true := by rw [readExists_iff, ← hl]
    have hconfig : config ↔ k.hasConfig = true := (hasConfig_iff k).symm
    refine ⟨fun h => readAnswer_of_absent hview hk (by simpa using mt hexist.mpr h), fun h hv hc hs => ?_,
      fun h img hi => ?_⟩
    · exact readAnswer_of_noShadow hview hk (hexist.mp h) (by simp [shadowMissing, view, hv, hconfig.mp hc, hs])
    · obtain ⟨hshadow, hv⟩ := view_of_image hi
      rw [readAnswer_of_present hview hk (hexist.mp h) hshadow]
      exact ⟨readFrom_of_past hv, readFrom_of_within hv⟩
  dsimp only
  refine ⟨?entriesRecord, ?portsRecord, ?rangesRecord, ?chainRecord, ?nodesRecord, ?groupsRecord, ?composerRecord,
    ?channelsRecord, stabilityRecord_shows img.stab s.stability, ?tuningRecord, ?positionsRecord, ?tyreUnitRecord,
    ?incidentsRecord, ?mgmtRecord, fun i _ => recordBytes_hits img s i⟩
  case entriesRecord =>
    intro i _
    rw [← layoutLength_slotLayout, recordBytes_classEntry]
    exact shows_self _
  case portsRecord =>
    simp only [List.forall_mem_cons]
    exact ⟨portRecord_shows img.portA s.portA, portRecord_shows img.portB s.portB,
      fun _ h => (List.not_mem_nil h).elim⟩
  case rangesRecord =>
    intro i _
    rw [recordBytes_range]
    simp [recBytes, rangeFields]
  case chainRecord =>
    rw [recordBytes_chain_zero]
    simp [recBytes, chainFields, chainBytes, bit_eq]
  case nodesRecord =>
    intro n hn
    rw [recordBytes_chain_node img s (by rintro rfl; simp at hn)]
    refine ⟨fun h => if_neg h, fun h => ?_⟩
    rw [nodeBytes, if_pos h]
    refine ⟨by simp [bit_eq], by simp, by simp [bit_eq], fun hr hk => ?_, fun hr hk => ?_, fun p l a v m hr => ?_,
      fun lp lv rp rv g m hr => ?_⟩
    · simp [hr, hk, drop_past, measureWidth, absentBytes]
    · simp [hr, hk, drop_past, measureWidth, absentBytes]
    · simp +contextual [hr, drop_past, measureBytes, freshnessBytes]
    · simp +contextual [hr, drop_past, measureBytes, freshnessBytes]
  case groupsRecord =>
    intro g _
    rw [recordBytes_group]
    cases he : groupExists s g with
    | false => simp [recBytes, groupFields, groupBytes, he, drop_past, absentBytes]
    | true => simp [recBytes, groupFields, groupBytes, he]
  case composerRecord =>
    rw [recordBytes_channel_zero, composerBytes]
    refine ⟨by simp, fun hd => ?_, fun d hd => ?_, by simp [demandFresh, bit_eq, ite_isSome]⟩
    · simp [hd, demandBytes, absentBytes]
    · have hseq : [d.seq] = beBytes 1 d.seq.toNat := by simp [beBytes_one]
      simp [hd, hseq, demandBytes, bit_eq, portCode_eq, timeBytes]
  case channelsRecord =>
    intro c hc
    rw [recordBytes_channel img s (by rintro rfl; simp [channelNumbers] at hc)]
    cases he : channelExists s c with
    | false => simp [channelBytes, he, absentBytes]
    | true => simp [channelBytes, he, commandBytes, bit_eq]
  case tuningRecord =>
    rw [recordBytes_tuning]
    simp [recBytes, tuningFields, bit_eq]
  case positionsRecord =>
    intro i hi
    simp only [← beBytes_shown, recordBytes_position img s (Nat.le_of_lt_succ (List.mem_range.mp hi))]
    refine ⟨?_, ?_, ?_, ?_, ?_, ?_, ?_, ?_, ?_, ?_, ?_, ?_, ?_, ?_, ?_, ?_, ?_, ?_, fun j hj => ?history⟩
    case history =>
      refine ⟨fun hnone => shows_place _ _ hj (off := 0) ?_, fun x hsome =>
        ⟨shows_place _ _ hj (off := 0) ?_, ?_⟩⟩
      · rw [historyBytes_of_none hnone]
        exact shows_self _
      · rw [historyBytes_of_some hsome]
        exact shows_zero _ _
      · rw [show 32 + 6 * j = 28 + (6 * j + 4) by omega]
        refine shows_place _ _ hj ?_
        rw [historyBytes_of_some hsome]
        simp
    all_goals simp [recBytes, tyreFields, positionBytes, bit_eq, timeBytes]
  case tyreUnitRecord =>
    rw [recordBytes_tyreUnit]
    cases hl : s.tyre.learn with
    | none => simp [tyreUnitBytes, learnBytes, hl, bit_eq, drop_past, absentBytes]
    | some l => simp [tyreUnitBytes, learnBytes, hl, bit_eq]
  case incidentsRecord =>
    intro i hi x hx
    rw [recordBytes_incident img s (Nat.le_of_lt_succ hi) hx]
    simp [incidentBytes, bit_eq, ite_isSome, timeBytes]
  case mgmtRecord =>
    rw [recordBytes_mgmt]
    simp [mgmtBytes, openCount, State.storeWriting, State.inService, bit_eq, ite_isSome]

end Sys2Proof.Machine
end

section
/-! PROOFS. Records from their bytes and back (R166, section 11.2): numbers from bytes, the fields that a write covers, and
that a record decoded from bytes that its fields may hold has these bytes. -/

namespace Sys2Proof.Machine

/-! ### Numbers and bytes, most significant first -/

theorem foldl_be (l : List Byte) (a : Nat) :
    l.foldl (fun a b => a * 256 + b.toNat) a = a * 256 ^ l.length + beNat l := by
  induction l generalizing a with
  | nil => simp [beNat]
  | cons x l ih =>
    simp only [beNat, List.foldl_cons, List.length_cons]
    rw [ih, ih (0 * 256 + x.toNat)]
    ring

theorem beNat_cons (x : Byte) (l : List Byte) : beNat (x :: l) = x.toNat * 256 ^ l.length + beNat l := by
  rw [beNat, List.foldl_cons, foldl_be, Nat.zero_mul, Nat.zero_add]

theorem beNat_lt (l : List Byte) : beNat l < 256 ^ l.length := by
  induction l with
  | nil => exact Nat.one_pos
  | cons x l ih =>
    have hx : x.toNat + 1 ≤ 256 := x.isLt
    calc beNat (x :: l)
      _ = x.toNat * 256 ^ l.length + beNat l := beNat_cons x l
      _ < (x.toNat + 1) * 256 ^ l.length := by rw [Nat.succ_mul]; omega
      _ ≤ 256 * 256 ^ l.length := Nat.mul_le_mul_right _ hx
      _ = 256 ^ (x :: l).length := by rw [List.length_cons, Nat.pow_succ, Nat.mul_comm]

theorem beNat_cons_div (x : Byte) (l : List Byte) : beNat (x :: l) / 256 ^ l.length = x.toNat := by
  rw [beNat_cons, Nat.add_comm, Nat.add_mul_div_right _ _ (Nat.pow_pos (by decide)), Nat.div_eq_of_lt (beNat_lt l),
    Nat.zero_add]

theorem beNat_beBytes (w n : Nat) : beNat (beBytes w n) = n % 256 ^ w := by
  induction w with
  | zero => simp [beBytes, beNat, Nat.mod_one]
  | succ w ih =>
    rw [beBytes, beNat_cons, ih, beBytes_length, Nat.mod_pow_succ, BitVec.toNat_ofNat]
    ring

/-- Lists of one length that spell one number are equal. -/
theorem eq_of_beNat_eq {l m : List Byte} (hlen : l.length = m.length) (h : beNat l = beNat m) : l = m := by
  induction l generalizing m with
  | nil => exact (List.length_eq_zero_iff.mp hlen.symm).symm
  | cons x l ih =>
    cases m with
    | nil => simp at hlen
    | cons y m =>
      have hlm : l.length = m.length := by simpa using hlen
      have hx : x = y := BitVec.eq_of_toNat_eq (by rw [← beNat_cons_div x l, ← beNat_cons_div y m, h, hlm])
      subst hx
      rw [beNat_cons, beNat_cons, hlm] at h
      rw [ih hlm (Nat.add_left_cancel h)]

theorem beBytes_beNat (l : List Byte) : beBytes l.length (beNat l) = l :=
  eq_of_beNat_eq (beBytes_length _ _) ((beNat_beBytes _ _).trans (Nat.mod_eq_of_lt (beNat_lt l)))

theorem beAt_lt (l : List Byte) (off w : Nat) : beAt l off w < 256 ^ w :=
  (beNat_lt _).trans_le (Nat.pow_le_pow_right (by decide) (List.length_take_le _ _))

/-! ### The fields of a table -/

section
variable {α : Type} {f : FieldOf α} {t : List (FieldOf α)} {r : α} {b d : List Byte} {off : Nat} {fs : List Field}

/-- A value that a field may hold: one in its range, or one that a record's own field shows. -/
def FieldOf.Holds (f : FieldOf α) (n : Nat) : Prop := f.ok n = true ∨ ∃ r, n = f.get r % 256 ^ f.width

/-- Bytes that spell, field by field, values that the fields may hold. -/
def Holds : List (FieldOf α) → List Byte → Prop
  | [], b => b = []
  | f :: t, b => f.width ≤ b.length ∧ f.Holds (beNat (b.take f.width)) ∧ Holds t (b.drop f.width)

/-- The fields with their offsets, from an offset on. -/
def fieldsFrom : Nat → List (FieldOf α) → List (Nat × FieldOf α)
  | _, [] => []
  | n, f :: t => (n, f) :: fieldsFrom (n + f.width) t

theorem recBytes_cons (f : FieldOf α) (t : List (FieldOf α)) (r : α) :
    recBytes (f :: t) r = beBytes f.width (f.get r) ++ recBytes t r := List.flatMap_cons

theorem recBytes_length (t : List (FieldOf α)) (r : α) : (recBytes t r).length = layoutLength (recLayout t) := by
  induction t with
  | nil => rfl
  | cons f t ih =>
    rw [recBytes_cons, List.length_append, beBytes_length, ih]
    simp [layoutLength, recLayout]

theorem holds_append (hb : f.Holds (beNat d)) (hd : d.length = f.width) (ht : Holds t b) : Holds (f :: t) (d ++ b) := by
  refine ⟨by simp [hd], ?_, ?_⟩
  · rwa [List.take_left' hd]
  · rwa [List.drop_left' hd]

theorem holds_own (f : FieldOf α) (r : α) : f.Holds (beNat (beBytes f.width (f.get r))) :=
  .inr ⟨r, beNat_beBytes _ _⟩

theorem holds_recBytes (t : List (FieldOf α)) (r : α) : Holds t (recBytes t r) := by
  induction t with
  | nil => rfl
  | cons f t ih => exact holds_append (holds_own f r) (beBytes_length _ _) ih

/-! ### The fields that a write covers (R166) -/

theorem splice_nil (b : List Byte) (off : Nat) : splice b off [] = b := by simp [splice]

/-- A write past the first bytes is one to the rest. -/
theorem splice_append {a : List Byte} (h : a.length ≤ off) (b d : List Byte) :
    splice (a ++ b) off d = a ++ splice b (off - a.length) d := by
  have hd : off + d.length - a.length = off - a.length + d.length := by omega
  simp [splice, List.take_append, List.take_of_length_le h, drop_past (Nat.le_add_right_of_le h), hd]

/-- A write from the start that covers the first bytes writes them and goes on with the rest. -/
theorem splice_zero {a : List Byte} (h : a.length ≤ d.length) (b : List Byte) :
    splice (a ++ b) 0 d = d.take a.length ++ splice b 0 (d.drop a.length) := by
  simp only [splice, List.take_zero, List.nil_append, Nat.zero_add, List.length_drop, drop_past h]
  rw [← List.append_assoc, List.take_append_drop]

section
variable {g : Field} {gs : List Field} {n : Nat}

theorem fieldsWritten_begin (h : fieldsWritten (g :: gs) 0 (n + 1) = some fs) :
    g.openTo = true ∧ g.width ≤ n + 1 ∧ ∃ l, fieldsWritten gs 0 (n + 1 - g.width) = some l ∧ fs = g :: l := by
  simp only [fieldsWritten] at h
  split at h
  · next hc =>
    obtain ⟨l, hl, rfl⟩ := Option.map_eq_some_iff.mp h
    obtain ⟨hopen, hwidth⟩ : g.openTo = true ∧ g.width ≤ n + 1 := by simpa using hc
    exact ⟨hopen, hwidth, l, hl, rfl⟩
  · exact absurd h (by simp)

theorem fieldsWritten_skip {len : Nat} (h : fieldsWritten (g :: gs) (n + 1) len = some fs) :
    g.width ≤ n + 1 ∧ fieldsWritten gs (n + 1 - g.width) len = some fs := by
  simp only [fieldsWritten] at h
  split at h
  · next hc => exact ⟨hc, h⟩
  · exact absurd h (by simp)

/-- An accepted write ends within the layout. -/
theorem fieldsWritten_le {len : Nat} (h : fieldsWritten gs off len = some fs) : off + len ≤ layoutLength gs := by
  induction gs generalizing off len fs with
  | nil => cases off <;> cases len <;> simp [fieldsWritten, layoutLength] at h ⊢
  | cons g gs ih =>
    have hcons : layoutLength (g :: gs) = g.width + layoutLength gs := by simp [layoutLength]
    cases off with
    | succ n =>
      obtain ⟨hle, hrest⟩ := fieldsWritten_skip h
      have := ih hrest
      omega
    | zero =>
      cases len with
      | zero => omega
      | succ n =>
        obtain ⟨_, hle, l, hrest, _⟩ := fieldsWritten_begin h
        have := ih hrest
        omega

end

/-- An accepted write leaves every field a value that it may hold (R166). -/
theorem holds_splice (hfs : fieldsWritten (recLayout t) off d.length = some fs) (hv : valuesOk fs d = true) (r : α) :
    Holds t (splice (recBytes t r) off d) := by
  induction t generalizing off d fs with
  | nil =>
    cases d with
    | nil => exact splice_nil _ _
    | cons x d => cases off <;> simp [recLayout, fieldsWritten] at hfs
  | cons f t ih =>
    have hlen : (beBytes f.width (f.get r)).length = f.width := beBytes_length _ _
    cases off with
    | succ n =>
      obtain ⟨hle, hrest⟩ := fieldsWritten_skip hfs
      rw [recBytes_cons, splice_append (hlen.trans_le hle), hlen]
      exact holds_append (holds_own f r) hlen (ih hrest hv)
    | zero =>
      cases d with
      | nil =>
        rw [splice_nil]
        exact holds_recBytes _ r
      | cons x l =>
        obtain ⟨_, hle, gs, hrest, rfl⟩ := fieldsWritten_begin hfs
        have hle : f.width ≤ (x :: l).length := hle
        obtain ⟨hok, hvalues⟩ : f.ok (beNat ((x :: l).take f.width)) = true ∧
            valuesOk gs ((x :: l).drop f.width) = true := by
          simpa [valuesOk] using hv
        rw [recBytes_cons, splice_zero (hlen.trans_le hle), hlen]
        exact holds_append (.inl hok) (List.length_take_of_le hle) (ih (by rw [List.length_drop]; exact hrest) hvalues)

/-! ### Records decoded from bytes (section 11.2) -/

/-- The decoder gives a field the value at its offset, where that is one that the field may hold. -/
def FieldOf.Reads (f : FieldOf α) (off : Nat) (decode : List Byte → α) : Prop :=
  ∀ b, f.Holds (beAt b off f.width) → f.get (decode b) = beAt b off f.width

/-- The decoder gives every field of a table the value at its offset. -/
def Decodes (t : List (FieldOf α)) (decode : List Byte → α) : Prop := ∀ p ∈ fieldsFrom 0 t, p.2.Reads p.1 decode

theorem holds_fieldsFrom {n : Nat} (h : Holds t (b.drop n)) :
    ∀ p ∈ fieldsFrom n t, p.2.Holds (beAt b p.1 p.2.width) := by
  induction t generalizing n with
  | nil => exact fun _ hp => (List.not_mem_nil hp).elim
  | cons f t ih =>
    obtain ⟨_, hf, ht⟩ := h
    rw [List.drop_drop] at ht
    exact List.forall_mem_cons.mpr ⟨hf, ih ht⟩

theorem recBytes_of_values {x : α} {n : Nat} (h : Holds t (b.drop n))
    (hx : ∀ p ∈ fieldsFrom n t, p.2.get x = beAt b p.1 p.2.width) : recBytes t x = b.drop n := by
  induction t generalizing n with
  | nil => exact h.symm
  | cons f t ih =>
    obtain ⟨hle, _, ht⟩ := h
    obtain ⟨hf, hrest⟩ := List.forall_mem_cons.mp hx
    have hbytes : beBytes f.width (f.get x) = (b.drop n).take f.width := by
      have hlen : ((b.drop n).take f.width).length = f.width := List.length_take_of_le hle
      calc beBytes f.width (f.get x)
        _ = beBytes ((b.drop n).take f.width).length (beNat ((b.drop n).take f.width)) := by rw [hlen, hf]; rfl
        _ = (b.drop n).take f.width := beBytes_beNat _
    rw [List.drop_drop] at ht
    rw [recBytes_cons, hbytes, ih ht hrest, ← List.drop_drop, List.take_append_drop]

/-- A record decoded from bytes that its fields may hold has these bytes. -/
theorem recBytes_decode {decode : List Byte → α} (h : Decodes t decode) (hb : Holds t b) : recBytes t (decode b) = b :=
  recBytes_of_values (n := 0) hb fun p hp => h p hp b (holds_fieldsFrom (n := 0) hb p hp)

/-- A record that takes an accepted write shows the bytes with the written ones in their place (R166). -/
theorem recBytes_splice {decode : List Byte → α} (h : Decodes t decode)
    (hfs : fieldsWritten (recLayout t) off d.length = some fs) (hv : valuesOk fs d = true) (r : α) :
    recBytes t (decode (splice (recBytes t r) off d)) = splice (recBytes t r) off d :=
  recBytes_decode h (holds_splice hfs hv r)

end

end Sys2Proof.Machine
end

section
/-! PROOFS. The decoders of the records (section 11.2): each gives every field of its table the value at its offset. -/

namespace Sys2Proof.Machine

/-! ### Coded fields -/

section
variable {α : Type} {off : Nat} {decode : List Byte → α}

/-- A field whose codes go up to a limit reads back when its decoder does so on these codes. -/
theorem reads_of_limit {f : FieldOf α} (limit : Nat) (hok : ∀ n, f.ok n = true → n ≤ limit) (hget : ∀ r, f.get r ≤ limit)
    (hread : ∀ b, beAt b off f.width ≤ limit → f.get (decode b) = beAt b off f.width) : f.Reads off decode := by
  intro b h
  refine hread b ?_
  rcases h with h | ⟨r, h⟩
  · exact hok _ h
  · rw [h]
    exact (Nat.mod_le _ _).trans (hget r)

theorem within_le {lo hi n : Nat} (h : within lo hi n = true) : n ≤ hi := by
  have h : lo ≤ n ∧ n ≤ hi := by simpa [within] using h
  exact h.2

theorem bit_le (b : Bool) : bit b ≤ 1 := by cases b <;> decide

theorem bit_eq_one {n : Nat} (h : n ≤ 1) : bit (decide (n = 1)) = n := by
  have : n = 0 ∨ n = 1 := by omega
  rcases this with rfl | rfl <;> rfl

theorem reads_flag {g : α → Bool} (h : ∀ b, g (decode b) = decide (beAt b off 1 = 1)) :
    FieldOf.Reads ⟨1, within 0 1, fun r => bit (g r)⟩ off decode :=
  reads_of_limit 1 (fun _ => within_le (lo := 0)) (fun r => bit_le (g r))
    fun b hb => (congrArg bit (h b)).trans (bit_eq_one hb)

theorem kind_code_le (k : ChainKind) : k.code ≤ 2 := by cases k <;> decide

theorem kind_ofCode {n : Nat} (h : n ≤ 2) : (ChainKind.ofCode n).code = n := by
  have : n = 0 ∨ n = 1 ∨ n = 2 := by omega
  rcases this with rfl | rfl | rfl <;> rfl

theorem reads_kind {g : α → ChainKind} (h : ∀ b, g (decode b) = ChainKind.ofCode (beAt b off 1)) :
    FieldOf.Reads ⟨1, within 0 2, fun r => (g r).code⟩ off decode :=
  reads_of_limit 2 (fun _ => within_le (lo := 0)) (fun r => kind_code_le (g r))
    fun b hb => (congrArg ChainKind.code (h b)).trans (kind_ofCode hb)

theorem side_code_le (x : Side) : x.code ≤ 2 := by cases x <;> decide

theorem side_ofCode {n : Nat} (h : n ≤ 2) : (Side.ofCode n).code = n := by
  have : n = 0 ∨ n = 1 ∨ n = 2 := by omega
  rcases this with rfl | rfl | rfl <;> rfl

theorem reads_side {g : α → Side} (h : ∀ b, g (decode b) = Side.ofCode (beAt b off 1)) :
    FieldOf.Reads ⟨1, within 1 2, fun r => (g r).code⟩ off decode :=
  reads_of_limit 2 (fun _ => within_le (lo := 1)) (fun r => side_code_le (g r))
    fun b hb => (congrArg Side.code (h b)).trans (side_ofCode hb)

theorem presentBits_eq : ∀ x : Byte, x.toNat ≤ 3 → bit (x.getLsbD 0) + 2 * bit (x.getLsbD 1) = x.toNat := by decide

/-- The present bits of a position record (section 11.2). -/
theorem reads_present {g h : α → Bool} (hg : ∀ b, g (decode b) = (byteAt b off).getLsbD 0)
    (hh : ∀ b, h (decode b) = (byteAt b off).getLsbD 1) :
    FieldOf.Reads ⟨1, within 0 3, fun r => bit (g r) + 2 * bit (h r)⟩ off decode := by
  refine reads_of_limit 3 (fun _ => within_le (lo := 0)) (fun r => ?_) fun b hb => ?_
  · have hg := bit_le (g r)
    have hh := bit_le (h r)
    show bit (g r) + 2 * bit (h r) ≤ 3
    omega
  · show bit (g (decode b)) + 2 * bit (h (decode b)) = beAt b off 1
    rw [hg, hh, beAt_one]
    exact presentBits_eq _ (beAt_one b off ▸ hb)

theorem reads_id {g : α → BitVec 32} (h : ∀ b, g (decode b) = BitVec.ofNat 32 (beAt b off 4)) :
    FieldOf.Reads ⟨4, fun _ => true, fun r => (g r).toNat⟩ off decode := by
  intro b _
  show (g (decode b)).toNat = beAt b off 4
  rw [h, BitVec.toNat_ofNat]
  exact Nat.mod_eq_of_lt (beAt_lt b off 4)

theorem code16_signed16 {n : Nat} (h : n < 65536) : code16 (signed16 n) = n := by
  rw [code16, signed16, BitVec.ofInt_toInt, BitVec.toNat_ofNat]
  exact Nat.mod_eq_of_lt h

theorem reads_signed {ok : Nat → Bool} {g : α → Int} (h : ∀ b, g (decode b) = signed16 (beAt b off 2)) :
    FieldOf.Reads ⟨2, ok, fun r => code16 (g r)⟩ off decode :=
  fun b _ => (congrArg code16 (h b)).trans (code16_signed16 (beAt_lt b off 2))

end

/-! ### The tables -/

theorem decodes_port : Decodes portFields portOfBytes := by
  simp [Decodes, portFields, fieldsFrom, FieldOf.Reads, portOfBytes]

theorem decodes_range : Decodes rangeFields rangeOfBytes := by
  simp [Decodes, rangeFields, fieldsFrom, FieldOf.Reads, rangeOfBytes]

theorem decodes_group : Decodes groupFields groupOfBytes := by
  simp [Decodes, groupFields, fieldsFrom, FieldOf.Reads, groupOfBytes]

theorem decodes_chain : Decodes chainFields chainOfBytes := by
  simp only [Decodes, chainFields, fieldsFrom, List.forall_mem_cons]
  exact ⟨fun _ _ => rfl, reads_kind fun _ => rfl, reads_kind fun _ => rfl, reads_kind fun _ => rfl,
    reads_kind fun _ => rfl, fun _ _ => rfl, fun _ hp => (List.not_mem_nil hp).elim⟩

theorem decodes_stab : Decodes stabFields stabOfBytes := by
  have henable : FieldOf.Reads ⟨1, within 0 1, fun r => bit (StabRec.enable r)⟩ 0 stabOfBytes := reads_flag fun _ => rfl
  simp only [Decodes, stabFields, List.cons_append, fieldsFrom, List.forall_mem_cons, henable, true_and]
  simp [fieldsFrom, FieldOf.Reads, stabOfBytes, StabRec.point, List.range_succ]

theorem decodes_tuning : Decodes tuningFields tuningOfBytes := by
  have harel : FieldOf.Reads ⟨2, aRelOk, fun r => code16 (TuningRec.aRel r)⟩ 6 tuningOfBytes := reads_signed fun _ => rfl
  have hpark : FieldOf.Reads ⟨1, within 0 1, fun r => bit (TuningRec.parkWatch r)⟩ 26 tuningOfBytes :=
    reads_flag fun _ => rfl
  simp only [Decodes, tuningFields, fieldsFrom, List.forall_mem_cons, Nat.reduceAdd, harel, hpark, true_and]
  simp [FieldOf.Reads, tuningOfBytes]

theorem decodes_tyre : Decodes tyreFields tyreOfBytes := by
  simp only [Decodes, tyreFields, fieldsFrom, List.forall_mem_cons]
  exact ⟨reads_flag fun _ => rfl, fun _ _ => rfl, reads_side fun _ => rfl, fun _ _ => rfl, fun _ _ => rfl, fun _ _ => rfl,
    reads_present (fun _ => rfl) fun _ => rfl, reads_id fun _ => rfl, reads_id fun _ => rfl,
    fun _ hp => (List.not_mem_nil hp).elim⟩

end Sys2Proof.Machine
end

section
/-! PROOFS. Staged bytes read back (O50): what an accepted STAGE leaves in the shadow's records, and how READ shows them
(R163, R166, section 11.2). -/

namespace Sys2Proof.Machine

variable {s t : State} {img : Image} {k k' : RecKind} {i i' off : Nat} {b d : List Byte} {fs : List Field}

/-! ### Slots (R26, R27) -/

theorem slot_eq (img : Image) {j : Nat} (h : 4 ≤ j) : img.slot j = img.slots.getD (j - 4) emptySlot :=
  if_neg (Nat.not_lt.mpr h)

theorem slot_length (h : img.shaped) {j : Nat} (h4 : 4 ≤ j) (h63 : j ≤ 63) : (img.slot j).length = 20 := by
  obtain ⟨hslots, hbytes, _⟩ := h
  have hj : j - 4 < img.slots.length := by omega
  rw [slot_eq img h4, List.getD_eq_getElem _ _ hj]
  exact hbytes _ (List.getElem_mem hj)

theorem slot_staged_self (h : img.shaped) (h4 : 4 ≤ i) (h63 : i ≤ 63) (b : List Byte) :
    (setConfigBytes img .classEntry i b).slot i = b ++ (img.slot i).drop b.length := by
  have hi : i - 4 < img.slots.length := by rw [h.1]; omega
  rw [slot_eq _ h4, slot_eq _ h4]
  simp [setConfigBytes, List.getD_eq_getElem?_getD, hi]

theorem slot_staged_other (h4 : 4 ≤ i) {j : Nat} (hj : j ≠ i) (b : List Byte) :
    (setConfigBytes img .classEntry i b).slot j = img.slot j := by
  by_cases hprot : j < 4
  · unfold Image.slot
    rw [if_pos hprot, if_pos hprot]
  · have hne : i - 4 ≠ j - 4 := by omega
    rw [slot_eq _ (by omega), slot_eq _ (by omega)]
    simp [setConfigBytes, List.getD_eq_getElem?_getD, hne]

/-- A slot's layout follows the width of the even slot before it (R26, R166). -/
theorem slotLayout_congr {img' : Image} (h : i % 2 = 1 → slotWide (img'.slot (i - 1)) = slotWide (img.slot (i - 1))) :
    slotLayout img' i = slotLayout img i := by
  have ht : img'.isTail i = img.isTail i := by
    unfold Image.isTail
    by_cases hodd : i % 2 = 1
    · rw [h hodd]
    · simp [hodd]
  unfold slotLayout
  rw [ht]

/-! ### What a staged record leaves of the image (R166) -/

theorem setConfigBytes_slots (h : k ≠ .classEntry) : (setConfigBytes img k i b).slots = img.slots := by
  cases k with
  | classEntry => exact absurd rfl h
  | port => simp only [setConfigBytes]; split <;> rfl
  | _ => rfl

theorem setConfigBytes_ports (h : k ≠ .port) :
    (setConfigBytes img k i b).portA = img.portA ∧ (setConfigBytes img k i b).portB = img.portB := by
  cases k with
  | port => exact absurd rfl h
  | _ => exact ⟨rfl, rfl⟩

theorem setConfigBytes_ranges (h : k ≠ .range) : (setConfigBytes img k i b).ranges = img.ranges := by
  cases k with
  | range => exact absurd rfl h
  | port => simp only [setConfigBytes]; split <;> rfl
  | _ => rfl

theorem setConfigBytes_chain (h : k ≠ .chain) : (setConfigBytes img k i b).chain = img.chain := by
  cases k with
  | chain => exact absurd rfl h
  | port => simp only [setConfigBytes]; split <;> rfl
  | _ => rfl

theorem setConfigBytes_groups (h : k ≠ .group) : (setConfigBytes img k i b).groups = img.groups := by
  cases k with
  | group => exact absurd rfl h
  | port => simp only [setConfigBytes]; split <;> rfl
  | _ => rfl

theorem setConfigBytes_stab (h : k ≠ .stability) : (setConfigBytes img k i b).stab = img.stab := by
  cases k with
  | stability => exact absurd rfl h
  | port => simp only [setConfigBytes]; split <;> rfl
  | _ => rfl

theorem setConfigBytes_tuning (h : k ≠ .tuning) : (setConfigBytes img k i b).tuning = img.tuning := by
  cases k with
  | tuning => exact absurd rfl h
  | port => simp only [setConfigBytes]; split <;> rfl
  | _ => rfl

theorem setConfigBytes_tyres (h : k ≠ .tyrePosition) : (setConfigBytes img k i b).tyres = img.tyres := by
  cases k with
  | tyrePosition => exact absurd rfl h
  | port => simp only [setConfigBytes]; split <;> rfl
  | _ => rfl

/-- The lists of a shadow keep their lengths (section 9.4). -/
theorem shaped_staged (hs : img.shaped) (hb : k = .classEntry → b.length ≤ 20) : (setConfigBytes img k i b).shaped := by
  obtain ⟨hslots, hbytes, hranges, hgroups, htyres⟩ := hs
  cases k with
  | classEntry =>
    refine ⟨(List.length_modify _ _ _).trans hslots, fun x hx => ?_, hranges, hgroups, htyres⟩
    obtain ⟨j, hj, rfl⟩ := List.mem_iff_getElem.mp hx
    have hold : ∀ y ∈ img.slots, (b ++ y.drop b.length).length = 20 := fun y hy => by
      have := hbytes y hy
      have := hb rfl
      simp
      omega
    have hj' : j < img.slots.length := by simpa [setConfigBytes] using hj
    simp only [setConfigBytes, List.getElem_modify]
    split
    · exact hold _ (List.getElem_mem hj')
    · exact hbytes _ (List.getElem_mem hj')
  | port =>
    simp only [setConfigBytes]
    split <;> exact ⟨hslots, hbytes, hranges, hgroups, htyres⟩
  | range => exact ⟨hslots, hbytes, List.length_set.trans hranges, hgroups, htyres⟩
  | group => exact ⟨hslots, hbytes, hranges, List.length_set.trans hgroups, htyres⟩
  | tyrePosition => exact ⟨hslots, hbytes, hranges, hgroups, List.length_set.trans htyres⟩
  | _ => exact ⟨hslots, hbytes, hranges, hgroups, htyres⟩

/-! ### The record that an accepted STAGE addresses (R166) -/

theorem splice_length (h : off + d.length ≤ b.length) : (splice b off d).length = b.length := by
  simp [splice]
  omega

theorem slotLayout_le (img : Image) (i : Nat) : layoutLength (slotLayout img i) ≤ 20 := by
  rw [layoutLength_slotLayout]
  split <;> decide

theorem configBytes_slot_length (hs : img.shaped) (hi : stageable .classEntry i = true) :
    (configBytes img .classEntry i).length = layoutLength (slotLayout img i) := by
  obtain ⟨h4, h63⟩ : 4 ≤ i ∧ i ≤ 63 := by simpa [stageable, within] using hi
  exact List.length_take_of_le ((slot_length hs h4 h63).symm ▸ slotLayout_le img i)

/-- A slot's record takes its layout's bytes, and the layout stays. -/
theorem configBytes_staged_slot (hs : img.shaped) (hi : stageable .classEntry i = true)
    (hb : b.length = layoutLength (slotLayout img i)) :
    configBytes (setConfigBytes img .classEntry i b) .classEntry i = b := by
  obtain ⟨h4, h63⟩ : 4 ≤ i ∧ i ≤ 63 := by simpa [stageable, within] using hi
  have hl : slotLayout (setConfigBytes img .classEntry i b) i = slotLayout img i :=
    slotLayout_congr fun hodd => by rw [slot_staged_other h4 (by omega)]
  show ((setConfigBytes img .classEntry i b).slot i).take (layoutLength (slotLayout _ i)) = b
  rw [hl, ← hb, slot_staged_self hs h4 h63]
  exact List.take_left

theorem getD_set_self {α : Type} {l : List α} {n : Nat} (h : n < l.length) (x y : α) : (l.set n x).getD n y = x := by
  simp [List.getD_eq_getElem?_getD, h]

theorem getD_set_other {α : Type} {n m : Nat} (h : m ≠ n) (l : List α) (x y : α) : (l.set n x).getD m y = l.getD m y := by
  simp [List.getD_eq_getElem?_getD, h.symm]

/-- The addressed record shows its bytes with the staged ones in their place (R166). -/
theorem configBytes_staged (hs : img.shaped) (hst : stageable k i = true)
    (hfs : fieldsWritten (configLayout img k i) off d.length = some fs) (hv : valuesOk fs d = true) :
    configBytes (setConfigBytes img k i (splice (configBytes img k i) off d)) k i =
      splice (configBytes img k i) off d := by
  have hle := fieldsWritten_le hfs
  cases k with
  | classEntry =>
    have hlen := configBytes_slot_length hs hst
    exact configBytes_staged_slot hs hst ((splice_length (hlen.symm ▸ hle)).trans hlen)
  | port =>
    by_cases h0 : i = 0
    · subst h0
      exact recBytes_splice decodes_port hfs hv img.portA
    · simp only [setConfigBytes, configBytes, if_neg h0]
      exact recBytes_splice decodes_port hfs hv img.portB
  | range =>
    obtain ⟨h1, h4⟩ : 1 ≤ i ∧ i ≤ 4 := by simpa [stageable, within] using hst
    have hlen : i - 1 < img.ranges.length := by rw [hs.2.2.1]; omega
    exact (congrArg (recBytes rangeFields) (getD_set_self hlen _ _)).trans (recBytes_splice decodes_range hfs hv _)
  | chain =>
    obtain rfl : i = 0 := by simpa [stageable] using hst
    exact recBytes_splice decodes_chain hfs hv img.chain
  | group =>
    obtain ⟨h1, h3⟩ : 1 ≤ i ∧ i ≤ 3 := by simpa [stageable, within] using hst
    have hlen : i - 1 < img.groups.length := by rw [hs.2.2.2.1]; omega
    exact (congrArg (recBytes groupFields) (getD_set_self hlen _ _)).trans (recBytes_splice decodes_group hfs hv _)
  | stability => exact recBytes_splice decodes_stab hfs hv img.stab
  | tuning => exact recBytes_splice decodes_tuning hfs hv img.tuning
  | tyrePosition =>
    have hi : i ≤ 15 := by simpa [stageable] using hst
    have hlen : i < img.tyres.length := by rw [hs.2.2.2.2]; omega
    simp only [configLayout, if_pos hi] at hfs
    simp only [configBytes, if_pos hi]
    exact (congrArg (recBytes tyreFields) (getD_set_self hlen _ _)).trans (recBytes_splice decodes_tyre hfs hv _)
  | channel | incident | hits => exact absurd hst Bool.false_ne_true

/-! ### The other records (R166) -/

/-- A record of another kind stays, as READ shows it too. -/
theorem configBytes_of_otherKind (hk : k' ≠ k) (b : List Byte) :
    configBytes (setConfigBytes img k i b) k' i' = configBytes img k' i' := by
  cases k' with
  | classEntry =>
    have hslot : ∀ j, (setConfigBytes img k i b).slot j = img.slot j := fun j => by
      unfold Image.slot
      rw [setConfigBytes_slots hk.symm]
    show ((setConfigBytes img k i b).slot i').take (layoutLength (slotLayout _ i')) = _
    rw [hslot, slotLayout_congr fun _ => congrArg slotWide (hslot _)]
    rfl
  | port =>
    obtain ⟨hA, hB⟩ := setConfigBytes_ports (img := img) (i := i) (b := b) hk.symm
    simp only [configBytes, hA, hB]
  | range => simp only [configBytes, setConfigBytes_ranges hk.symm]
  | chain => simp only [configBytes, setConfigBytes_chain hk.symm]
  | group => simp only [configBytes, Image.group, setConfigBytes_groups hk.symm]
  | stability => simp only [configBytes, setConfigBytes_stab hk.symm]
  | tuning => simp only [configBytes, setConfigBytes_tuning hk.symm]
  | tyrePosition => simp only [configBytes, Image.tyre, setConfigBytes_tyres hk.symm]
  | _ => rfl

/-- A record of the same kind stays; a slot keeps its layout where the even slot before it keeps its width. -/
theorem configBytes_of_otherIndex (hst : stageable k i = true) (hst' : stageable k i' = true) (hi : i' ≠ i) (b : List Byte)
    (hwidth : k = .classEntry → i' = i + 1 → i % 2 = 0 →
      slotWide ((setConfigBytes img k i b).slot i) = slotWide (img.slot i)) :
    configBytes (setConfigBytes img k i b) k i' = configBytes img k i' := by
  cases k with
  | classEntry =>
    obtain ⟨h4, _⟩ : 4 ≤ i ∧ i ≤ 63 := by simpa [stageable, within] using hst
    have hlayout : slotLayout (setConfigBytes img .classEntry i b) i' = slotLayout img i' := by
      refine slotLayout_congr fun hodd => ?_
      by_cases hj : i' - 1 = i
      · exact hj ▸ hwidth rfl (by omega) (by omega)
      · rw [slot_staged_other h4 hj]
    show ((setConfigBytes img .classEntry i b).slot i').take (layoutLength (slotLayout _ i')) = _
    rw [hlayout, slot_staged_other h4 hi]
    rfl
  | port =>
    have h : i ≤ 1 := by simpa [stageable] using hst
    have h' : i' ≤ 1 := by simpa [stageable] using hst'
    have hcases : i = 0 ∧ i' = 1 ∨ i = 1 ∧ i' = 0 := by omega
    rcases hcases with ⟨rfl, rfl⟩ | ⟨rfl, rfl⟩ <;> rfl
  | range =>
    obtain ⟨h, _⟩ : 1 ≤ i ∧ i ≤ 4 := by simpa [stageable, within] using hst
    obtain ⟨h', _⟩ : 1 ≤ i' ∧ i' ≤ 4 := by simpa [stageable, within] using hst'
    exact congrArg (recBytes rangeFields) (getD_set_other (by omega) _ _ _)
  | group =>
    obtain ⟨h, _⟩ : 1 ≤ i ∧ i ≤ 3 := by simpa [stageable, within] using hst
    obtain ⟨h', _⟩ : 1 ≤ i' ∧ i' ≤ 3 := by simpa [stageable, within] using hst'
    exact congrArg (recBytes groupFields) (getD_set_other (by omega) _ _ _)
  | tyrePosition =>
    have htyre : (setConfigBytes img .tyrePosition i b).tyre i' = img.tyre i' := getD_set_other hi _ _ _
    simp only [configBytes, htyre]
  | chain | stability | tuning =>
    exact absurd ((of_decide_eq_true hst').trans (of_decide_eq_true hst).symm) hi
  | channel | incident | hits => exact absurd hst Bool.false_ne_true

/-! ### The records as READ shows them (R145, R163) -/

/-- A position's record with all ones for the IDs whose present bit is 0. -/
def withShownIds (b : List Byte) : List Byte :=
  b.take 8 ++ (if (byteAt b 7).getLsbD 0 then (b.drop 8).take 4 else List.replicate 4 0xFF#8) ++
    (if (byteAt b 7).getLsbD 1 then (b.drop 12).take 4 else List.replicate 4 0xFF#8)

/-- A position's record is its seven first fields, which end with the present bits, and its two IDs. -/
theorem recBytes_tyre (x : TyreRec) : recBytes tyreFields x =
    recBytes (tyreFields.take 7) x ++ (beBytes 4 x.primary.id.toNat ++ beBytes 4 x.alternate.id.toNat) := by
  simp [recBytes, tyreFields]

theorem byteAt_present (x : TyreRec) (b : List Byte) : byteAt (recBytes (tyreFields.take 7) x ++ b) 7 =
    BitVec.ofNat 8 (bit x.primary.present + 2 * bit x.alternate.present) := by
  simp [recBytes, tyreFields, byteAt, beBytes]

theorem present_bits (p a : Bool) : (BitVec.ofNat 8 (bit p + 2 * bit a)).getLsbD 0 = p ∧
    (BitVec.ofNat 8 (bit p + 2 * bit a)).getLsbD 1 = a := by
  cases p <;> cases a <;> decide

theorem withShownIds_append {h p a : List Byte} (hh : h.length = 8) (hp : p.length = 4) (ha : a.length = 4) :
    withShownIds (h ++ (p ++ a)) = h ++ ((if (byteAt (h ++ (p ++ a)) 7).getLsbD 0 then p else List.replicate 4 0xFF#8) ++
      (if (byteAt (h ++ (p ++ a)) 7).getLsbD 1 then a else List.replicate 4 0xFF#8)) := by
  have h8 : (h ++ (p ++ a)).drop 8 = p ++ a := List.drop_left' hh
  have h12 : (h ++ (p ++ a)).drop 12 = a := by simp [drop_past, hh, hp]
  rw [withShownIds, h8, h12, List.take_left' hh, List.take_left' hp, List.take_of_length_le ha.le, List.append_assoc]

theorem recBytes_shown (x : TyreRec) :
    recBytes tyreFields { x with primary := x.primary.shown, alternate := x.alternate.shown } =
      withShownIds (recBytes tyreFields x) := by
  obtain ⟨hp, ha⟩ := present_bits x.primary.present x.alternate.present
  have hhead : recBytes (tyreFields.take 7) { x with primary := x.primary.shown, alternate := x.alternate.shown } =
      recBytes (tyreFields.take 7) x := by simp [recBytes, tyreFields]
  rw [recBytes_tyre, recBytes_tyre, hhead, beBytes_shown, beBytes_shown,
    withShownIds_append (recBytes_length _ _) (beBytes_length _ _) (beBytes_length _ _), byteAt_present, hp, ha]
  rfl

theorem shownConfig_position (h : i ≤ 15) :
    shownConfig img .tyrePosition i = withShownIds (configBytes img .tyrePosition i) := by
  simp only [shownConfig, configBytes, if_pos h, recBytes_shown]

theorem shownConfig_of_notPosition (h : k ≠ .tyrePosition) : shownConfig img k i = configBytes img k i := by
  cases k with
  | tyrePosition => exact absurd rfl h
  | _ => rfl

/-- READ shows a record from its bytes alone. -/
theorem shownConfig_congr {img' : Image} (hst : stageable k i = true) (h : configBytes img' k i = configBytes img k i) :
    shownConfig img' k i = shownConfig img k i := by
  by_cases hk : k = .tyrePosition
  · subst hk
    have hi : i ≤ 15 := of_decide_eq_true hst
    rw [shownConfig_position hi, shownConfig_position hi, h]
  · rw [shownConfig_of_notPosition hk, shownConfig_of_notPosition hk, h]

theorem readable_of_stageable (h : stageable k i = true) : readable k i = true := by
  cases k with
  | classEntry => exact decide_eq_true (within_le (lo := 4) h)
  | chain =>
    obtain rfl : i = 0 := of_decide_eq_true h
    rfl
  | tyrePosition => exact decide_eq_true (Nat.le_succ_of_le (of_decide_eq_true h))
  | channel | incident | hits => exact absurd h Bool.false_ne_true
  | port | range | group | stability | tuning => exact h

/-- A stageable record is one that READ shows (R163, R166). -/
theorem readExists_of_stageable (h : stageable k i = true) (s : State) : readExists s k i = true := by
  have hk : k ≠ .incident := by
    rintro rfl
    exact Bool.false_ne_true h
  simp [readExists, readable_of_stageable h, hk]

/-- READ of the shadow (R163). -/
theorem readAnswer_of_shadow {args : List Byte} (hs : s.mgmt.shadow = some img) (hk : beAt args 0 2 / 4096 = k.code)
    (hst : stageable k (beAt args 0 2 / 64 % 64) = true) (hview : beAt args 2 1 = 1)
    (hoff : beAt args 0 2 % 64 < (shownConfig img k (beAt args 0 2 / 64 % 64)).length) :
    readAnswer s args = (.done, ((shownConfig img k (beAt args 0 2 / 64 % 64) ++
      runtimeBytes s k (beAt args 0 2 / 64 % 64)).drop (beAt args 0 2 % 64)).take 5) := by
  obtain ⟨hshadow, hv⟩ := view_of_image (k := k) (.inr (.inl ⟨hview, hs⟩))
  rw [readAnswer_of_present hview.le hk (readExists_of_stageable hst s) hshadow]
  refine readFrom_of_within hv (hoff.trans_le ?_)
  rw [recordBytes, List.length_append]
  exact Nat.le_add_right _ _

/-! ### The accepted STAGE (R166) -/

/-- An accepted STAGE addresses a stageable record, covers whole fields of it and gives them values in their ranges. -/
theorem accepted_of_stageInto {args : List Byte} (hk : RecKind.ofCode (beAt args 0 2 / 4096) = some k)
    (h : (stageInto img args).1 = .done) : stageable k (beAt args 0 2 / 64 % 64) = true ∧
      ∃ fs, fieldsWritten (configLayout img k (beAt args 0 2 / 64 % 64)) (beAt args 0 2 % 64) (args.drop 2).length =
          some fs ∧
        valuesOk fs (args.drop 2) = true := by
  cases hst : stageable k (beAt args 0 2 / 64 % 64) with
  | false =>
    rw [stageInto_of_unstageable hk hst] at h
    cases h
  | true =>
    cases hfs : fieldsWritten (configLayout img k (beAt args 0 2 / 64 % 64)) (beAt args 0 2 % 64) (args.drop 2).length with
    | none =>
      rw [stageInto_of_misaligned hk hfs] at h
      cases h
    | some fs =>
      cases hv : valuesOk fs (args.drop 2) with
      | false =>
        rw [stageInto_of_badValue hk hst hfs hv] at h
        cases h
      | true => exact ⟨rfl, fs, rfl, hv⟩

/-- Settles O50: the shadow after an accepted STAGE, the record that it addresses, and the records that it leaves. -/
theorem stagedBytesReadBack : Obligations.StagedBytesReadBack := by
  unfold Obligations.StagedBytesReadBack
  intro s r img k ht hf hs hn hshaped hk hdone i off
  obtain ⟨hst, fs, hfs, hv⟩ := accepted_of_stageInto hk hdone
  have hself := configBytes_staged hshaped hst hfs hv
  obtain ⟨_, hmgmt⟩ := stageShadow_done hs (stageInto_of_done hk hst hfs hv)
  refine ⟨_, _, exec_stage ht hf hs hn, congrArg Mgmt.shadow hmgmt, ?shaped, ?read, hself, fun hne => ?shown,
    fun hpos => ?position, fun k' i' hst' hother hwidth => ?other⟩
  case shaped =>
    refine shaped_staged hshaped fun hslot => ?_
    obtain rfl : k = .classEntry := hslot
    have hlen := configBytes_slot_length hshaped hst
    rw [splice_length (hlen.symm ▸ fieldsWritten_le hfs), hlen]
    exact slotLayout_le img i
  case read =>
    rintro k' _ args hst' - hkind rfl hview hoff
    exact readAnswer_of_shadow (congrArg Mgmt.shadow hmgmt) hkind hst' hview hoff
  case shown => rw [shownConfig_of_notPosition hne, shownConfig_of_notPosition hne, hself]
  case position =>
    subst hpos
    exact shownConfig_position (of_decide_eq_true hst)
  case other =>
    suffices h : configBytes _ k' i' = configBytes img k' i' from ⟨h, shownConfig_congr hst' h⟩
    by_cases hkind : k' = k
    · subst hkind
      have hindex : i' ≠ i := hother.resolve_left (not_not_intro rfl)
      refine configBytes_of_otherIndex hst hst' hindex _ fun hslot hnext heven => ?_
      by_contra hne
      exact hwidth ⟨hslot, hslot, hnext, heven, hslot ▸ hne⟩
    · exact configBytes_of_otherKind hkind _

end Sys2Proof.Machine
end
